-- ==== Sys2Proof/Word.lean ====
section
/-!
DEFINITION. The words the manual treats as bits. Quantities (times, angles, rates, powers, counts) are `Nat` or `Int`.
-/

namespace Sys2Proof

/-- One byte of a message, a record or a pixel (R211). -/
abbrev Byte := BitVec 8

/-- A sequence number of motion records, sound blocks, capture blocks and notices: 16 bits, wrapping (4.4). -/
abbrev Seq := BitVec 16

/-- A frame number: 32 bits, compared modulo 2^32 (4.4). -/
abbrev FrameNo := BitVec 32

end Sys2Proof
end

