-- ==== Sys2Proof/Syntax.lean ====
section
/-!
DEFINITION. The commands of the part: one constructor of `Instr` for each row of spec/opcode_table.json, and the types of
their operands.
-/

namespace Sys2Proof

/-- The MAXLANES strap (R206). -/
inductive MaxLanes where
  | one | two | four
  deriving DecidableEq, Repr

/-- The FALLBACK_GEAR strap (R206). -/
inductive FallbackGear where
  | g1 | g2
  deriving DecidableEq, Repr

/-- The four straps, latched at power-on (R206). -/
structure Straps where
  maxLanes : MaxLanes
  fallback : FallbackGear
  serviceEn : Bool
  storePresent : Bool
  deriving DecidableEq, Repr

/-- The two ports (11.1). -/
inductive Port where
  | tether | service
  deriving DecidableEq, Repr

/-- The two IMUs. -/
inductive Sensor where
  | a | b
  deriving DecidableEq, Repr

/-- A panel, or the eye shown on it. -/
inductive Side where
  | left | right
  deriving DecidableEq, Repr

/-- The five rails, in their order (8.5). -/
inductive Rail where
  | sensor | audio | panelL | panelR | illum
  deriving DecidableEq, Repr

/-- The base's training record as received (1.2): highest gear (1, 2, 3 for G1, G2, G3), lane set (bit i for lane i),
power offer in mW, feature set (bit 0 SLEEP, bit 1 WAKE_BEACON). A gear, lane set or feature set outside these ranges is a
field out of its range (R3). -/
structure BaseRecord where
  gear : Nat
  lanes : Nat
  offer : Nat
  features : Nat
  deriving DecidableEq, Repr

/-- What one sample read returns (2.1): raw rate and force counts, and the die temperature, none when the sensor marks
it as not yet valid (R36). -/
structure ImuData where
  rateX : Int
  rateY : Int
  rateZ : Int
  forceX : Int
  forceY : Int
  forceZ : Int
  temp : Option Int
  deriving DecidableEq, Repr

/-- The end of a sample read (R28). -/
inductive ReadResult where
  | failed
  | succeeded (d : ImuData)
  deriving DecidableEq, Repr

/-- The end of a transaction of the start-up exchange (R28, R30). `asExpected` says whether the identity is the expected
one, or the settings read back equal those written; a write ignores it. -/
inductive StartupResult where
  | failed
  | succeeded (asExpected : Bool)
  deriving DecidableEq, Repr

/-- The end of a wear read (R42). -/
inductive WearResult where
  | failed
  | succeeded (reading : Nat)
  deriving DecidableEq, Repr

/-- The commands: the rows of the operation table in its order. A request row names the entry of the command queue that
the CMU carries out (R199): its port, tag and payload. -/
inductive Instr where
  /-- POWER_ON (R208) with the strap inputs. -/
  | powerOn (straps : Straps)
  /-- STORE_LOAD_COMPLETE (R207): image and CRC as read, none when the store does not answer. -/
  | storeLoadComplete (read : Option (List Byte))
  /-- INPUT_MEASUREMENT (R146): Vin in mV, Iin in mA. -/
  | inputMeasurement (vin iin : Nat)
  /-- RAIL_POWER_GOOD (R158). -/
  | railPowerGood (r : Rail)
  /-- RAIL_RAMP_TIMEOUT (R158). -/
  | railRampTimeout (r : Rail)
  /-- POWER_GOOD_WITHDRAWN (R159). -/
  | powerGoodWithdrawn (r : Rail)
  /-- TRAINING_RECORD_RECEIVED (R4): the base's record and the lanes that passed the part's lane check (R2). -/
  | trainingRecordReceived (record : BaseRecord) (locked : BitVec 4)
  /-- TRAINING_ATTEMPT_SUCCEEDS (R7) with the round-trip time of the timing exchange (R3), in ns. -/
  | trainingAttemptSucceeds (roundTrip : Nat)
  /-- TRAINING_ATTEMPT_TIMEOUT (R3). -/
  | trainingAttemptTimeout
  /-- SYMBOL_LOCK_LOST (R10) on a lane. -/
  | symbolLockLost (lane : Fin 4)
  /-- RETRAIN_ATTEMPT_SUCCEEDS (R11) with the round-trip time of the timing exchange (R3), in ns. -/
  | retrainAttemptSucceeds (roundTrip : Nat)
  /-- RETRAIN_ATTEMPT_TIMEOUT (R11). -/
  | retrainAttemptTimeout
  /-- RETRY_TIMER_EXPIRY (R6). -/
  | retryTimerExpiry
  /-- LINE_ENERGY_DETECTED (R15). -/
  | lineEnergyDetected
  /-- LINK_BLOCK_DISCARDED (R8): the whole block as the lane framing delivered it, header and CRC included. -/
  | linkBlockDiscarded (block : List Byte)
  /-- CRC_WINDOW_BOUNDARY (R9). -/
  | crcWindowBoundary
  /-- TIME_MARK (R17): payload. -/
  | timeMark (payload : List Byte)
  /-- TIME_BASIS_FREE (R20). -/
  | timeBasisFree
  /-- SLEEP_MARK (R13): payload. -/
  | sleepMark (payload : List Byte)
  /-- STATUS_BEAT_DUE (R24). -/
  | statusBeatDue
  /-- UPSTREAM_BLOCK_SENT (R22). -/
  | upstreamBlockSent
  /-- FRAME_BEGIN (R75): payload. -/
  | frameBegin (payload : List Byte)
  /-- LINES (R77): payload. -/
  | lines (payload : List Byte)
  /-- FRAME_END (R78): payload. -/
  | frameEnd (payload : List Byte)
  /-- SOUND (R126): payload. -/
  | sound (payload : List Byte)
  /-- CONTROL_BLOCK_RECEIVED (R200): payload, one message body. -/
  | controlBlockReceived (payload : List Byte)
  /-- SERVICE_FRAME_RECEIVED (R198): the bytes received since the last row of the receiver. -/
  | serviceFrameReceived (bytes : List Byte)
  /-- SERVICE_BYTE_TIMEOUT (R198). -/
  | serviceByteTimeout
  /-- SERVICE_FRAME_SENT (R201). -/
  | serviceFrameSent
  /-- UNKNOWN_KIND (R199). -/
  | unknownKind (port : Port) (tag kind : Byte) (payload : List Byte)
  /-- ATTACH (R202). -/
  | attach (port : Port) (tag : Byte) (payload : List Byte)
  /-- DETACH (R203). -/
  | detach (port : Port) (tag : Byte) (payload : List Byte)
  /-- GET_INFO (R204). -/
  | getInfo (port : Port) (tag : Byte) (payload : List Byte)
  /-- GET_STATUS (R205). -/
  | getStatus (port : Port) (tag : Byte) (payload : List Byte)
  /-- RESTART (R209). -/
  | restart (port : Port) (tag : Byte) (payload : List Byte)
  /-- LINK_SLEEP (R14). -/
  | linkSleep (port : Port) (tag : Byte) (payload : List Byte)
  /-- SET_SENSOR_RATE (R48). -/
  | setSensorRate (port : Port) (tag : Byte) (payload : List Byte)
  /-- SET_WEAR (R47). -/
  | setWear (port : Port) (tag : Byte) (payload : List Byte)
  /-- SET_AXIS_MAP (R58). -/
  | setAxisMap (port : Port) (tag : Byte) (payload : List Byte)
  /-- SELECT_PRIMARY (R62). -/
  | selectPrimary (port : Port) (tag : Byte) (payload : List Byte)
  /-- ANCHOR (R64). -/
  | anchor (port : Port) (tag : Byte) (payload : List Byte)
  /-- SET_POSE_OVERRIDE (R66). -/
  | setPoseOverride (port : Port) (tag : Byte) (payload : List Byte)
  /-- CLEAR_POSE_OVERRIDE (R66). -/
  | clearPoseOverride (port : Port) (tag : Byte) (payload : List Byte)
  /-- SET_PROFILE (R72). -/
  | setProfile (port : Port) (tag : Byte) (payload : List Byte)
  /-- STAGE_PULSES (R112). -/
  | stagePulses (port : Port) (tag : Byte) (payload : List Byte)
  /-- SET_VOLUME (R137). -/
  | setVolume (port : Port) (tag : Byte) (payload : List Byte)
  /-- SET_CAPTURE (R142). -/
  | setCapture (port : Port) (tag : Byte) (payload : List Byte)
  /-- SET_POWER_LIMITS (R165). -/
  | setPowerLimits (port : Port) (tag : Byte) (payload : List Byte)
  /-- SET_CABLE_RESISTANCE (R163). -/
  | setCableResistance (port : Port) (tag : Byte) (payload : List Byte)
  /-- RAIL_RESTART (R161). -/
  | railRestart (port : Port) (tag : Byte) (payload : List Byte)
  /-- START_PROCEDURE (R169). -/
  | startProcedure (port : Port) (tag : Byte) (payload : List Byte)
  /-- ABORT_PROCEDURE (R172). -/
  | abortProcedure (port : Port) (tag : Byte) (payload : List Byte)
  /-- GET_PROCEDURE_RESULT (R171). -/
  | getProcedureResult (port : Port) (tag : Byte) (payload : List Byte)
  /-- READ_CONDITIONS (R192). -/
  | readConditions (port : Port) (tag : Byte) (payload : List Byte)
  /-- READ_COUNTERS (R194). -/
  | readCounters (port : Port) (tag : Byte) (payload : List Byte)
  /-- CLEAR_CONDITIONS (R193). -/
  | clearConditions (port : Port) (tag : Byte) (payload : List Byte)
  /-- SET_NOTICE_MASK (R185). -/
  | setNoticeMask (port : Port) (tag : Byte) (payload : List Byte)
  /-- BIAS_CAL_COLLECTION_END (R175). -/
  | biasCalCollectionEnd
  /-- STORE_WRITE_COMPLETE (R182). -/
  | storeWriteComplete
  /-- STORE_READBACK_COMPLETE (R182): the bytes read back. -/
  | storeReadbackComplete (readBack : List Byte)
  /-- SAMPLE_TICK (R35). -/
  | sampleTick
  /-- SAMPLE_READ_END (R35). -/
  | sampleReadEnd (sensor : Sensor) (result : ReadResult)
  /-- IMU_STARTUP_TRANSACTION (R30). -/
  | imuStartupTransaction (sensor : Sensor) (result : StartupResult)
  /-- IMU_STARTUP_TIMEOUT (R30). -/
  | imuStartupTimeout (sensor : Sensor)
  /-- IMU_RETRY_EXPIRY (R32). -/
  | imuRetryExpiry (sensor : Sensor)
  /-- SILENCE_WATCH_EXPIRY (R59). -/
  | silenceWatchExpiry
  /-- POSE_STALE (R63). -/
  | poseStale
  /-- WEAR_READ_TICK (R42). -/
  | wearReadTick
  /-- WEAR_READ_DONE (R42). -/
  | wearReadDone (result : WearResult)
  /-- AWAY_TIMER_EXPIRY (R44). -/
  | awayTimerExpiry
  /-- BLANK_START (R84). -/
  | blankStart
  /-- ILLUM_PULSE_START (R111). -/
  | illumPulseStart (panel : Side)
  /-- ILLUM_PULSE_END (R111). -/
  | illumPulseEnd (panel : Side)
  /-- OUTPUT_INSTANT (R128) with the two microphone samples of the instant (R138). -/
  | outputInstant (mic1 mic2 : Int)
  /-- ATTENUATION_RAMP_STEP (R136). -/
  | attenuationRampStep
  /-- HOLDOFF_EXPIRY (R187). -/
  | holdoffExpiry
  /-- QUIET_HOLD_END (R191). -/
  | quietHoldEnd
  deriving DecidableEq, Repr

end Sys2Proof
end

