-- ==== Sys2Proof/Config.lean ====
section
/-!
DEFINITION. The fixed capacities and durations of the part (00_scope.md, "Capacities and defaults") and the values the
manual leaves open, as opaque constants that no proof can see into.
-/

namespace Sys2Proof.Config

/-- R39: the motion queue holds at most 64 records. -/
def motionQueueMax : Nat := 64
/-- R140: the capture queue holds at most 32 blocks. -/
def captureQueueMax : Nat := 32
/-- R200: the command queue holds at most 8 entries. -/
def commandQueueMax : Nat := 8
/-- R127: the playback buffer holds at most 512 sample frames. -/
def playbackMax : Nat := 512
/-- R56: the history ring holds at most 128 entries. -/
def ringMax : Nat := 128
/-- R3, R11: a training or retrain attempt lasts at most 20,000 µs. -/
def attemptLimit : Nat := 20000
/-- R6: the retry interval in DOWN. -/
def retryInterval : Nat := 500000
/-- R20: the time basis becomes FREE this long after the last mark. -/
def basisHold : Nat := 10000
/-- R30: limit of the start-up exchange. -/
def startupLimit : Nat := 50000
/-- R32: the retry timer of an IMU in FAULT. -/
def imuRetry : Nat := 100000
/-- R59: the silence watch. -/
def silenceLimit : Nat := 20000
/-- R63: the age at which the pose becomes stale. -/
def staleAge : Nat := 50000
/-- R99: the greatest lead. -/
def leadMax : Nat := 25000
/-- R157: the ramp timer. -/
def rampLimit : Nat := 5000
/-- R147: the current of the test load, mA. -/
def testLoadCurrent : Nat := 200
/-- R115: the guard before the end of the frame period. -/
def guardTime : Nat := 500
/-- R116: the gap between interleaved pulses. -/
def interleaveGap : Nat := 100
/-- R23: a reply or notice that has waited this long passes capture blocks. -/
def replyGuard : Nat := 2000
/-- Every counter is 32 bits wide and saturates (4.5). -/
def counterMax : Nat := 4294967295

/-- DESIGN CHOICE 9: the silicon revision number (R204) is some number of 1 … 255 that the manual does not give. -/
opaque revisionLessOne : Fin 255
/-- DESIGN CHOICE 9: the code of the part name in a GET_INFO reply (R204) is not given. -/
opaque partCode : List Byte
/-- DESIGN CHOICE 9: the number that reports an attenuation of MUTE (R137, R205) is not given. -/
opaque muteCode : Int
/-- DESIGN CHOICE 9: whether a stored calibration temperature lies in "the range of a sensor temperature" (R69), a range
the manual does not state. -/
opaque temperatureInRange : Int → Bool

/-- The revision number of R204, 1 … 255. -/
def revision : Nat := revisionLessOne.val + 1

end Sys2Proof.Config
end

