-- ==== Sys2Proof/Machine/State.lean ====
section
/-!
DEFINITION. The state of the part: one structure for each block, as 00_scope.md 2.1 divides it, and the state after a
power-on reset. Plain data throughout. What each field is, its rule and its reset value stand in INVENTORY.md, "State".
-/

namespace Sys2Proof.Machine

/-! ### Names shared by the blocks -/

/-- Three readings of a sensor's own axes. -/
structure Axes where
  x : Int
  y : Int
  z : Int
  deriving DecidableEq, Repr

/-- Yaw, pitch and roll: angles in AU, rates in RU or residues (3.1). -/
structure Angles where
  yaw : Int
  pitch : Int
  roll : Int
  deriving DecidableEq, Repr

/-- The shed level (8.3). -/
inductive Level where
  | l0 | l1 | l2 | l3
  deriving DecidableEq, Repr

/-- The wear state (2.5). REMOVED holds the local time of its entry, from which the away timer runs (R44). -/
inductive Wear where
  | unknown | worn | removed (since : Nat) | away
  deriving DecidableEq, Repr

/-- One stereo sample frame: signed 24-bit values (7.1). -/
structure Stereo where
  left : Int
  right : Int
  deriving DecidableEq, Repr

/-- The 69 counters, in the order of the counter groups (10.6). -/
inductive Counter where
  | linkCrcErrors | linkUnknownStream | linkMarksIgnored | trainingFailures | retrainEntries
  | gearReductions | linkDownEntries | timeSteps | sleepEntries | beatsReplaced
  | motionQueueDrops | sampleReadFailuresA | sampleReadFailuresB | imuFaultsA | imuFaultsB
  | saturatedSamples | wearReadFailures | wearChanges
  | imuFailovers | anchorsTaken | anchorsTooOld
  | framesAccepted | framesRefusedMalformed | framesRefusedOrder | framesRefusedFull | framesCompleted
  | framesDamaged | framesShown | framesDropped | frameRepeats | pictureStrayBlocks | linesMalformed
  | blankStarts
  | shiftsClamped | leadsClamped | shiftsZeroedUnposed | shiftsZeroedStale
  | illumPulsesLeft | illumPulsesRight | illumPulsesCut | illumDarkEntries | illumGuardCuts
  | soundBlocksAccepted | soundBlocksDiscarded | soundBlocksMissed | soundBlocksLate
  | playbackFramesDiscarded | playbackFramesFlushed | playbackUnderruns | driftRemovals
  | driftInsertions | driftLimits | captureClippedBlocks | captureBlocksGated | voiceStarts
  | captureQueueDrops
  | shedChanges | shedJumps | shedRises | shedFalls | brownoutEntries | railFaults | railRestarts
  | proceduresAccepted | proceduresBusy
  | noticesIssued | noticesCoalesced
  | commandsOverflowed | serviceFramesBad
  deriving DecidableEq, Repr

/-- The six condition sets, in the order of the set mask (R211). -/
inductive CondSet where
  | link | motion | picture | audio | power | command
  deriving DecidableEq, Repr

/-- The 37 conditions, set by set, latched before live (R184), which is the order of their mask bits (R211). -/
inductive Condition where
  | trained | retrain | linkDown | gearReduced | timeStep | timeFree
  | imuFailover | queueDrop | saturation | wearChange | imuFaultA | imuFaultB | poseStale
  | frameDropped | frameRefused | frameDamaged | repeat | shiftClamped
  | underrun | overrun | driftLimit | voiceStart | voiceEnd | captureDrop
  | shedChange | brownout | railFaultSensor | railFaultAudio | railFaultPanelL | railFaultPanelR
  | railFaultIllum | budgetLow | cableDropHigh
  | procDone | cmdOverflow | storeDefaulted | controllerChange
  deriving DecidableEq, Repr

/-- One 16-bit condition mask for each set (R211). -/
structure Masks where
  link : BitVec 16
  motion : BitVec 16
  picture : BitVec 16
  audio : BitVec 16
  power : BitVec 16
  command : BitVec 16
  deriving DecidableEq, Repr

/-! ### Upstream records (12.4) -/

/-- A motion record (R36). -/
structure MotionRecord where
  sensor : Sensor
  seq : Seq
  time : Int
  rate : Axes
  force : Axes
  temp : Int
  saturated : Bool
  gap : Bool
  timeStep : Bool
  freeTime : Bool
  syncMark : Bool
  deriving DecidableEq, Repr

/-- A capture block (7.4): each frame is microphone 1, then microphone 2. -/
structure CaptureBlock where
  seq : Seq
  time : Int
  frames : List (Int × Int)
  gap : Bool
  gateOpen : Bool
  clipped : Bool
  timeStep : Bool
  freeTime : Bool
  deriving DecidableEq, Repr

/-- A status beat (R25). -/
structure Beat where
  linkTime : Int
  lastBlank : Option Int
  freeSlots : Nat
  showing : Option FrameNo
  fill : Nat
  level : Level
  wear : Wear
  summary : Byte
  timeStep : Bool
  freeTime : Bool
  deriving DecidableEq, Repr

/-- One upstream block: what a link block carries. -/
inductive Upstream where
  | motion (r : MotionRecord)
  | capture (b : CaptureBlock)
  | control (body : List Byte)
  deriving DecidableEq, Repr

/-- The upstream block in transmission (R22). A queued block stays at the head of its queue while it is sent;
`detached` is a block whose queue a RESTART has emptied, completed on the wire and not sent again (R27). -/
inductive Transmission where
  | beat (b : Beat)
  | motion
  | capture
  | control
  | detached (u : Upstream)
  deriving DecidableEq, Repr

/-! ### Tether Link Controller (chapter 1) -/

/-- The gear of the link. -/
inductive Gear where
  | g1 | g2 | g3
  deriving DecidableEq, Repr

/-- The lane sets a link can run on: lane 0, lanes 0 and 1, lanes 0 to 3 (R4). -/
inductive LaneSet where
  | one | two | four
  deriving DecidableEq, Repr

/-- The link features (1.2). -/
structure Features where
  sleep : Bool
  wakeBeacon : Bool
  deriving DecidableEq, Repr

/-- A gear and a lane set. -/
structure Channel where
  gear : Gear
  lanes : LaneSet
  deriving DecidableEq, Repr

/-- What one training attempt has agreed (R4). -/
structure Agreement where
  channel : Channel
  features : Features
  offer : Nat
  deriving DecidableEq, Repr

/-- The link state (1.1) with what is held only in it: the retry timer in DOWN (R6), the attempt in TRAINING (R3, R5),
the current gear and lanes in ACTIVE and RETRAIN (R1), the attempt of the group in RETRAIN (R11). -/
inductive Link where
  | down (retryAt : Option Nat)
  | training (attempt began : Nat) (agreed : Option Agreement)
  | active (channel : Channel)
  | retrain (channel : Channel) (attempt began : Nat)
  | sleep
  deriving DecidableEq, Repr

/-- The time basis (R20); LOCKED holds the local time of the last mark taken. -/
inductive Basis where
  | free
  | locked (since : Nat)
  deriving DecidableEq, Repr

/-- State of the TLC (R27). -/
structure Tlc where
  link : Link
  features : Option Features
  offer : Option Nat
  lineDelay : Nat
  offset : Int
  basis : Basis
  crcCount : Nat
  threshold : Nat
  sleepPending : Bool
  stepMotion : Bool
  stepCapture : Bool
  stepBeat : Bool
  beat : Option Beat
  tx : Option Transmission
  /-- The model's own: when STATUS_BEAT_DUE was last taken. -/
  beatTakenAt : Option Nat
  /-- The model's own: wake beacons sent (R15). -/
  beacons : Nat
  /-- The model's own: when RETRAIN was last entered (R10). -/
  retrainAt : Option Nat
  deriving DecidableEq, Repr

/-! ### Motion Sensor Unit (chapter 2) -/

/-- The transactions of the start-up exchange, in order (R30). -/
inductive StartStep where
  | reset | identity | scales | readBack
  deriving DecidableEq, Repr

/-- The state of an IMU (2.2). -/
inductive ImuState where
  | off
  | starting (step : StartStep) (entered : Nat)
  | running
  | fault (retryAt : Nat)
  deriving DecidableEq, Repr

/-- What the MSU holds of one IMU. -/
structure Imu where
  state : ImuState
  seq : Seq
  fails : Nat
  gapPending : Bool
  syncAt : Option Nat
  syncPending : Bool
  faultHeld : Bool
  deriving DecidableEq, Repr

/-- How a sample read stands (R35). -/
inductive ReadStatus where
  | inProgress
  | failed
  | discarded
  | succeeded (d : ImuData)
  deriving DecidableEq, Repr

/-- A sample read started at a tick: its sequence number, and whether it is a sync-tick read (R38). -/
structure Read where
  sensor : Sensor
  seq : Seq
  sync : Bool
  status : ReadStatus
  deriving DecidableEq, Repr

/-- A tick that has not completed (R35). -/
structure Tick where
  time : Nat
  reads : List Read
  deriving DecidableEq, Repr

/-- State of the MSU (R51). -/
structure Msu where
  a : Imu
  b : Imu
  ticks : List Tick
  queue : List MotionRecord
  requestedRate : Nat
  /-- The model's own: when SAMPLE_TICK was last taken. -/
  lastTick : Option Nat
  /-- The model's own: the moment of the last rate change, where that moment was no tick of the old period (R34). -/
  barred : Option Nat
  wear : Wear
  wornThreshold : Nat
  removedThreshold : Nat
  awayTime : Nat
  wornCount : Nat
  removedCount : Nat
  wearFails : Nat
  wearReading : Option Nat
  wearBusy : Bool
  /-- The model's own: the thresholds in force when the wear read in progress was started (R47). -/
  readWorn : Nat
  readRemoved : Nat
  /-- The model's own: when WEAR_READ_TICK was last taken. -/
  lastWearTick : Option Nat
  deriving DecidableEq, Repr

/-! ### Orientation Integrator (chapter 3) -/

/-- A source axis of the axis map. -/
inductive AxisName where
  | x | y | z
  deriving DecidableEq, Repr

/-- One entry of the axis map. -/
structure AxisEntry where
  source : AxisName
  minus : Bool
  deriving DecidableEq, Repr

/-- The axis map (3.3). -/
structure AxisMap where
  yaw : AxisEntry
  pitch : AxisEntry
  roll : AxisEntry
  deriving DecidableEq, Repr

/-- One IMU's entry of the bias table (3.3). -/
structure BiasEntry where
  bias : Axes
  temp : Int
  deriving DecidableEq, Repr

/-- A history entry (R56). -/
structure HistoryEntry where
  time : Nat
  angles : Angles
  rates : Angles
  deriving DecidableEq, Repr

/-- State of the OIN (3.1, R70). -/
structure Oin where
  angles : Angles
  residues : Angles
  lastTime : Option Nat
  rates : Angles
  primary : Sensor
  failoverPending : Bool
  satRun : Nat
  silenceAt : Option Nat
  axisMap : AxisMap
  biasA : BiasEntry
  biasB : BiasEntry
  ring : List HistoryEntry
  pose : Option Angles
  deriving DecidableEq, Repr

/-! ### Frame Store and Scan-Out Unit (chapters 4 and 5) -/

/-- A colour: red, green, blue (4.1). -/
structure Colour where
  red : Byte
  green : Byte
  blue : Byte
  deriving DecidableEq, Repr

/-- The panel profile (4.1). -/
structure Profile where
  columns : Nat
  rows : Nat
  period : Nat
  blank : Nat
  ppdH : Nat
  ppdV : Nat
  limit : Nat
  border : Colour
  awayBlank : Bool
  deriving DecidableEq, Repr

/-- The state of a slot (4.2). -/
inductive SlotState where
  | free | filling | ready | showing
  deriving DecidableEq, Repr

/-- The rows received of one eye: row number and its bytes, row numbers strictly rising. -/
abbrev EyeRows := List (Nat × List Byte)

/-- A frame slot with its record (4.2). -/
structure Slot where
  state : SlotState
  frame : FrameNo
  pose : Option Angles
  renderTime : Nat
  left : EyeRows
  right : EyeRows
  repeats : Nat
  unposed : Bool
  clamped : Bool
  deriving DecidableEq, Repr

/-- The four slots. -/
structure Slots where
  s0 : Slot
  s1 : Slot
  s2 : Slot
  s3 : Slot
  deriving DecidableEq, Repr

/-- State of the FST (R93). -/
structure Fst where
  slots : Slots
  newest : Option FrameNo
  profile : Profile
  deriving DecidableEq, Repr

/-- The scan-out state (4.4). -/
inductive ScanOut where
  | off | idle | scanning
  deriving DecidableEq, Repr

/-- The blank schedule (R83): the next blank start and the frame period it was started with. -/
structure Schedule where
  next : Nat
  period : Nat
  deriving DecidableEq, Repr

/-- The basis of a shift (R97, R98, R99, R104). -/
inductive ShiftBasis where
  | none | unposed | stale | override | history
  deriving DecidableEq, Repr

/-- A yaw and a pitch. -/
structure YawPitch where
  yaw : Int
  pitch : Int
  deriving DecidableEq, Repr

/-- A shift: columns and rows. -/
structure Shift where
  h : Int
  v : Int
  deriving DecidableEq, Repr

/-- The shift record of an eye (5.7); `applied` is the eye's applied shift (R88, R104). -/
structure ShiftRecord where
  basis : ShiftBasis
  blankStart : Option Nat
  display : Option Nat
  lead : Option Int
  leadClamped : Bool
  predicted : Option YawPitch
  error : Option YawPitch
  unclamped : Shift
  applied : Shift
  clamped : Bool
  deriving DecidableEq, Repr

/-- What the scan in progress took at its blank start (R71, R88). -/
structure Scan where
  start : Nat
  blank : Nat
  columns : Nat
  rows : Nat
  border : Colour
  deriving DecidableEq, Repr

/-- State of the SOU (R94, R104). -/
structure Sou where
  scanOut : ScanOut
  schedule : Option Schedule
  lastBlank : Option Int
  left : ShiftRecord
  right : ShiftRecord
  scan : Option Scan
  deriving DecidableEq, Repr

/-! ### Illumination Generator (chapter 6) -/

/-- A pulse: offset and width in µs (6.1). -/
structure Pulse where
  offset : Nat
  width : Nat
  deriving DecidableEq, Repr

/-- A pulse for each panel. -/
structure PulseSet where
  left : Pulse
  right : Pulse
  deriving DecidableEq, Repr

/-- The output state (6.4). -/
inductive Output where
  | dark | resuming | emitting
  deriving DecidableEq, Repr

/-- A panel's lit interval within the frame period (R111, R119). -/
inductive PulsePhase where
  | toCome | lit | over
  deriving DecidableEq, Repr

/-- State of the ILG (R124). -/
structure Ilg where
  staged : PulseSet
  interleaveRequest : Bool
  active : PulseSet
  interleaved : Bool
  levelAtCopy : Option Level
  output : Output
  periodStart : Option Nat
  phaseLeft : PulsePhase
  phaseRight : PulsePhase
  deriving DecidableEq, Repr

/-! ### Audio Unit (chapter 7) -/

/-- The playback state (7.1). -/
inductive Playback where
  | stopped | priming | playing | underrun
  deriving DecidableEq, Repr

/-- A drift adjustment, or the direction of the drift run (R133, R134). -/
inductive Adjust where
  | removal | insertion
  deriving DecidableEq, Repr

/-- The voice gate (R139). -/
inductive Gate where
  | disabled | closed | open
  deriving DecidableEq, Repr

/-- The capture block in formation (R138): local time of its first frame, frames taken. -/
structure Forming where
  start : Nat
  frames : List (Int × Int)
  deriving DecidableEq, Repr

/-- State of the AUD (R145). -/
structure Aud where
  playback : Playback
  buffer : List Stereo
  target : Nat
  expected : Option Seq
  played : Nat
  window : List Nat
  lastErr : Option Int
  due : Option Adjust
  again : Option Stereo
  runDirection : Adjust
  runLength : Nat
  lastValue : Stereo
  faded : Nat
  out : Stereo
  requested : Nat
  mute : Bool
  /-- 0 … 180, and 181 for MUTE. -/
  applied : Nat
  captureEnabled : Bool
  openThreshold : Nat
  hangover : Nat
  forming : Option Forming
  captureSeq : Seq
  gate : Gate
  loudRun : Nat
  quietRun : Nat
  gatedSince : Bool
  gateMark : Bool
  gapPending : Bool
  queue : List CaptureBlock
  /-- The model's own: when OUTPUT_INSTANT was last taken. -/
  lastInstant : Option Nat
  /-- The model's own: when ATTENUATION_RAMP_STEP was last taken. -/
  lastRamp : Option Nat
  deriving DecidableEq, Repr

/-! ### Power Manager (chapter 8) -/

/-- The last measurement with its figures (R146, R147, R148). -/
structure Measurement where
  vin : Nat
  iin : Nat
  iinEff : Nat
  pIn : Nat
  pLoss : Nat
  pTotal : Nat
  drop : Nat
  deriving DecidableEq, Repr

/-- The supply state (8.4). -/
inductive Supply where
  | start | normal | brownout
  deriving DecidableEq, Repr

/-- The state of a rail (8.5); RAMPING holds the expiry of its ramp timer (R157). -/
inductive RailState where
  | off
  | ramping (until_ : Nat)
  | on
  | fault
  deriving DecidableEq, Repr

/-- The five rails. -/
structure Rails where
  sensor : RailState
  audio : RailState
  panelL : RailState
  panelR : RailState
  illum : RailState
  deriving DecidableEq, Repr

/-- The rail target (8.5). -/
inductive RailTarget where
  | none | sensorOnly | all
  deriving DecidableEq, Repr

/-- The power limits (8.8). -/
structure Limits where
  cap : Nat
  safe : Nat
  vWarn : Nat
  vCrit : Nat
  vCut : Nat
  deriving DecidableEq, Repr

/-- State of the PMG (R168). -/
structure Pmg where
  meas : Option Measurement
  measuredAt : Option Nat
  budget : Nat
  level : Level
  rise : Nat
  fall : Nat
  supply : Supply
  cut : Nat
  recovery : Nat
  rails : Rails
  target : RailTarget
  standby : Bool
  rCable : Nat
  testLoad : Bool
  limits : Limits
  /-- Whether NORMAL has been entered since power-on (the link step of R208 is taken at the first entry). -/
  reachedNormal : Bool
  deriving DecidableEq, Repr

/-! ### Procedure Runner (chapter 9) -/

/-- A target set (R169). -/
structure Targets where
  a : Bool
  b : Bool
  deriving DecidableEq, Repr

/-- A collection of BIAS_CAL (R174). -/
structure Collection where
  count : Nat
  sums : Axes
  mins : Axes
  maxs : Axes
  tempSum : Int
  tempCount : Nat
  deriving DecidableEq, Repr

/-- The kinds of procedure (R169). -/
inductive ProcKind where
  | biasCal | cableMeasure | sensorSync | writeStore
  deriving DecidableEq, Repr

/-- The working state of the running procedure (9.3 to 9.6). -/
inductive Work where
  | biasCal (targets : Targets) (endAt threshold : Nat) (colA colB : Collection)
  | cable (count sumV sumI v1 i1 v2 i2 : Nat)
  | sync (targets : Targets) (tick : Nat)
  | store (image : List Byte) (written : Bool)
  deriving DecidableEq, Repr

/-- The current procedure (9.1). -/
structure Proc where
  run : Nat
  acceptedAt : Nat
  work : Work
  deriving DecidableEq, Repr

/-- The six results (R170). -/
inductive ProcResult where
  | done | aborted | moved | loaded | failed | notReady
  deriving DecidableEq, Repr

/-- One entry of a result record's value list (R174 to R182). -/
inductive ProcValue where
  | target (s : Sensor)
  | number (n : Int)
  | time (t : Nat)
  | recorded
  | pendingMark
  deriving DecidableEq, Repr

/-- The result record (R170). -/
structure ResultRecord where
  kind : ProcKind
  run : Nat
  result : ProcResult
  acceptedAt : Nat
  endedAt : Nat
  values : List ProcValue
  deriving DecidableEq, Repr

/-- State of the PRR (R173). -/
structure Prr where
  running : Option Proc
  runNumber : Nat
  result : Option ResultRecord
  deriving DecidableEq, Repr

/-! ### Notice Unit (chapter 10) -/

/-- State of the NTU (R196). -/
structure Ntu where
  pending : Masks
  enabled : Masks
  holdoff : Nat
  due : Bool
  timer : Option Nat
  number : Seq
  attn : Bool
  quiet : Option Nat
  deriving DecidableEq, Repr

/-! ### Command Unit (chapter 11) -/

/-- The store state (R204); `loading` is the model's own value before the load has ended. -/
inductive StoreState where
  | loading | loaded | defaultedAbsent | defaultedBad
  deriving DecidableEq, Repr

/-- An entry of the command queue (R200). -/
structure Entry where
  port : Port
  kind : Byte
  tag : Byte
  payload : List Byte
  complete : Bool
  deriving DecidableEq, Repr

/-- What a message of an outgoing queue is: a reply, the OK reply whose leaving puts the link to sleep (R14), the
reply whose leaving resets the part (R209), or a notice (R188). -/
inductive MessageRole where
  | reply | sleepReply | restartReply | notice
  deriving DecidableEq, Repr

/-- A message of an outgoing queue with the moment it entered (R23, R201). -/
structure Message where
  role : MessageRole
  body : List Byte
  entered : Nat
  deriving DecidableEq, Repr

/-- The frame the UART is sending (R201): the head of the SERVICE queue, or a message whose queue a RESTART has
emptied (R210). -/
inductive ServiceTx where
  | idle
  | head
  | detached (body : List Byte)
  deriving DecidableEq, Repr

/-- State of the CMU (R210). -/
structure Cmu where
  storeState : StoreState
  /-- Whether the last write to the store ended (R182); kept without power. -/
  storeWhole : Bool
  role : Option Port
  queue : List Entry
  outTether : List Message
  outService : List Message
  serviceTx : ServiceTx
  rx : List Byte
  rxLast : Nat
  restart : Option Port
  deriving DecidableEq, Repr

/-- The loaded values of every stored setting (R207, R218). -/
structure Loaded where
  profile : Profile
  axisMap : AxisMap
  biasA : BiasEntry
  biasB : BiasEntry
  limits : Limits
  rCable : Nat
  threshold : Nat
  rate : Nat
  wornThreshold : Nat
  removedThreshold : Nat
  awayTime : Nat
  requested : Nat
  target : Nat
  captureEnabled : Bool
  gateEnabled : Bool
  openThreshold : Nat
  hangover : Nat
  enabled : Masks
  holdoff : Nat
  deriving DecidableEq, Repr

/-! ### The whole part -/

/-- The state of the part. `pending` is the model's queue of waiting commands, first in, first out. -/
structure State where
  lt : Nat
  straps : Straps
  counters : Vector Nat 69
  loaded : Loaded
  tlc : Tlc
  msu : Msu
  oin : Oin
  fst : Fst
  sou : Sou
  ilg : Ilg
  aud : Aud
  pmg : Pmg
  prr : Prr
  ntu : Ntu
  cmu : Cmu
  pending : List Instr
  deriving DecidableEq, Repr

/-- No command of this block ends in a fault: the type has no constructor. Nothing raises one (safe: there is nothing
to raise). What the manual calls a fault is state (a rail or an IMU in FAULT). -/
inductive Fault where
  deriving DecidableEq, Repr

/-- Why a command has no meaning. -/
inductive Refusal where
  /-- Raised by an arm of `exec` whose command the model does not cover (safe: the step stops). No arm raises it. -/
  | notModelled (mnemonic : String)
  deriving DecidableEq, Repr

/-! ### Reset values -/

/-- R73: the built-in profile. -/
def Profile.builtIn : Profile :=
  { columns := 1440, rows := 1600, period := 11111, blank := 1000, ppdH := 328, ppdV := 328, limit := 96,
    border := ⟨0, 0, 0⟩, awayBlank := true }

/-- 3.3: the default axis map. -/
def AxisMap.builtIn : AxisMap := ⟨⟨.y, false⟩, ⟨.x, false⟩, ⟨.z, false⟩⟩

/-- 3.3: the default bias table entry. -/
def BiasEntry.builtIn : BiasEntry := ⟨⟨0, 0, 0⟩, -4096⟩

/-- 8.8: the built-in power limits. -/
def Limits.builtIn : Limits := ⟨7500, 4000, 10500, 9800, 9000⟩

/-- The mask of every condition of each set: 6, 7, 5, 6, 9 and 4 conditions (R184). -/
def Masks.all : Masks := ⟨0x3F, 0x7F, 0x1F, 0x3F, 0x1FF, 0xF⟩

/-- No condition. -/
def Masks.none : Masks := ⟨0, 0, 0, 0, 0, 0⟩

/-- The defaults of every stored setting: R9, R50, R69, R73, R144, R166, R196. -/
def Loaded.builtIn : Loaded :=
  { profile := .builtIn, axisMap := .builtIn, biasA := .builtIn, biasB := .builtIn, limits := .builtIn,
    rCable := 400, threshold := 8, rate := 1000, wornThreshold := 2400, removedThreshold := 1600,
    awayTime := 30, requested := 24, target := 192, captureEnabled := true, gateEnabled := true,
    openThreshold := 1024, hangover := 300, enabled := .all, holdoff := 2 }

/-- R27, column Power-on. -/
def Tlc.powerOn : Tlc :=
  { link := .down .none, features := .none, offer := .none, lineDelay := 0, offset := 0, basis := .free,
    crcCount := 0, threshold := 8, sleepPending := false, stepMotion := false, stepCapture := false,
    stepBeat := false, beat := .none, tx := .none, beatTakenAt := .none, beacons := 0,
    retrainAt := .none }

/-- R51, for one IMU. -/
def Imu.powerOn : Imu :=
  { state := .off, seq := 0, fails := 0, gapPending := false, syncAt := .none, syncPending := false,
    faultHeld := false }

/-- R51, column Power-on. -/
def Msu.powerOn : Msu :=
  { a := .powerOn, b := .powerOn, ticks := [], queue := [], requestedRate := 1000, lastTick := .none,
    barred := .none, wear := .unknown, wornThreshold := 2400, removedThreshold := 1600, awayTime := 30, wornCount := 0,
    removedCount := 0, wearFails := 0, wearReading := .none, wearBusy := false, readWorn := 2400,
    readRemoved := 1600, lastWearTick := .none }

/-- Yaw, pitch and roll at zero. -/
def Angles.zero : Angles := ⟨0, 0, 0⟩

/-- R70, with the axis map and bias table of the loaded values. -/
def Oin.reset (v : Loaded) : Oin :=
  { angles := .zero, residues := .zero, lastTime := .none, rates := .zero, primary := .a,
    failoverPending := false, satRun := 0, silenceAt := .none, axisMap := v.axisMap, biasA := v.biasA,
    biasB := v.biasB, ring := [], pose := .none }

/-- A FREE slot: its other fields have no meaning (4.2) and stand at one value. -/
def Slot.empty : Slot :=
  { state := .free, frame := 0, pose := .none, renderTime := 0, left := [], right := [], repeats := 0,
    unposed := false, clamped := false }

/-- R93, with the loaded profile. -/
def Fst.reset (v : Loaded) : Fst :=
  { slots := ⟨.empty, .empty, .empty, .empty⟩, newest := .none, profile := v.profile }

/-- R104: a shift record of basis NONE. -/
def ShiftRecord.cleared : ShiftRecord :=
  { basis := .none, blankStart := .none, display := .none, lead := .none, leadClamped := false,
    predicted := .none, error := .none, unclamped := ⟨0, 0⟩, applied := ⟨0, 0⟩, clamped := false }

/-- R94 and R104, column Power-on. -/
def Sou.reset : Sou :=
  { scanOut := .off, schedule := .none, lastBlank := .none, left := .cleared, right := .cleared, scan := .none }

/-- R124. -/
def Ilg.reset : Ilg :=
  { staged := ⟨⟨0, 0⟩, ⟨0, 0⟩⟩, interleaveRequest := false, active := ⟨⟨0, 0⟩, ⟨0, 0⟩⟩, interleaved := false,
    levelAtCopy := .none, output := .dark, periodStart := .none, phaseLeft := .over, phaseRight := .over }

/-- R145: `muted` says whether the shed cap is MUTE. -/
def Aud.reset (v : Loaded) (muted : Bool) : Aud :=
  { playback := .stopped, buffer := [], target := v.target, expected := .none, played := 0, window := [],
    lastErr := .none, due := .none, again := .none, runDirection := .removal, runLength := 0,
    lastValue := ⟨0, 0⟩, faded := 0, out := ⟨0, 0⟩, requested := v.requested, mute := false,
    applied := if muted then 181 else 180, captureEnabled := v.captureEnabled,
    openThreshold := v.openThreshold, hangover := v.hangover, forming := .none, captureSeq := 0,
    gate := if v.gateEnabled then .closed else .disabled, loudRun := 0, quietRun := 0, gatedSince := false,
    gateMark := false, gapPending := false, queue := [], lastInstant := .none, lastRamp := .none }

/-- R168, column Power-on. -/
def Pmg.powerOn : Pmg :=
  { meas := .none, measuredAt := .none, budget := 4000, level := .l0, rise := 0, fall := 0, supply := .start,
    cut := 0, recovery := 0, rails := ⟨.off, .off, .off, .off, .off⟩, target := .none, standby := false,
    rCable := 400, testLoad := false, limits := .builtIn, reachedNormal := false }

/-- R173. -/
def Prr.reset : Prr := { running := .none, runNumber := 0, result := .none }

/-- R196 at power-on: the live conditions TIME_FREE and POSE_STALE hold (R20, R68, R184). -/
def Ntu.powerOn : Ntu :=
  { pending := { Masks.none with link := 0x20, motion := 0x40 }, enabled := .all, holdoff := 2, due := false,
    timer := .none, number := 0, attn := false, quiet := .none }

/-- R210, column Power-on. -/
def Cmu.powerOn : Cmu :=
  { storeState := .loading, storeWhole := true, role := .none, queue := [], outTether := [], outService := [],
    serviceTx := .idle, rx := [], rxLast := 0, restart := .none }

/-- DESIGN CHOICE 2: the strap inputs of the part right after reset. -/
def boardStraps : Straps := { maxLanes := .four, fallback := .g2, serviceEn := true, storePresent := true }

/-- R208: every block at its power-on values, before the store load has ended. -/
def State.reset : State :=
  { lt := 0, straps := boardStraps, counters := Vector.replicate 69 0, loaded := .builtIn, tlc := .powerOn,
    msu := .powerOn, oin := .reset .builtIn, fst := .reset .builtIn, sou := .reset, ilg := .reset,
    aud := .reset .builtIn false, pmg := .powerOn, prr := .reset, ntu := .powerOn, cmu := .powerOn,
    pending := [] }

end Sys2Proof.Machine
end

