-- ==== Sys2Proof/Machine/Arith.lean ====
section
/-!
DEFINITION. The manual's arithmetic (00_scope.md 4.4): rounding, wrapping, saturation, the byte order of R211 and the two
checks of R212.
-/

namespace Sys2Proof.Machine

/-- 4.4: `n / d` rounded to nearest, halves away from zero. -/
def roundDiv (n : Int) (d : Nat) : Int :=
  if 0 ≤ n then (2 * n + d) / (2 * d) else -((2 * (-n) + d) / (2 * d))

/-- 4.4: `x` clamped to `lo … hi`. -/
def clampInt (lo hi x : Int) : Int := if x < lo then lo else if hi < x then hi else x

/-- A full turn is 1,474,560 AU (4.3). -/
def turn : Int := 1474560

/-- Half a turn. -/
def halfTurn : Int := 737280

/-- Wrap (Terms): fold an angle into −737,280 … +737,279 AU by whole turns. -/
def wrapAngle (x : Int) : Int := (x + halfTurn) % turn - halfTurn

/-- An angle in −737,280 … +737,279 AU. -/
def angleOk (x : Int) : Bool := decide (-halfTurn ≤ x) && decide (x < halfTurn)

/-- Three angles, each in range. -/
def Angles.ok (a : Angles) : Bool := angleOk a.yaw && angleOk a.pitch && angleOk a.roll

/-- The first multiple of `p` at or after `t`. -/
def ceilTo (p t : Nat) : Nat := (t + p - 1) / p * p

/-- 4.4: one frame number is greater than another when their difference modulo 2^32 is in the lower half and not 0. -/
def frameGreater (x y : FrameNo) : Bool := decide (0 < (x - y).toNat) && decide ((x - y).toNat < 2147483648)

/-! ### Bytes, least significant first (R211) -/

/-- `v` in `n` bytes, two's complement, least significant byte first. -/
def leBytes : Nat → Int → List Byte
  | 0, _ => []
  | n + 1, v => BitVec.ofInt 8 v :: leBytes n (v / 256)

/-- The unsigned number that bytes spell, least significant first. -/
def leNat : List Byte → Nat
  | [] => 0
  | b :: bs => b.toNat + 256 * leNat bs

/-- The signed number that bytes spell at their width. -/
def leInt (bs : List Byte) : Int :=
  if 2 * leNat bs < 256 ^ bs.length then (leNat bs : Int) else (leNat bs : Int) - 256 ^ bs.length

/-- `n` bytes from offset `off`. -/
def slice (bs : List Byte) (off n : Nat) : List Byte := (bs.drop off).take n

/-- The unsigned field of `n` bytes at `off`. -/
def natAt (bs : List Byte) (off n : Nat) : Nat := leNat (slice bs off n)

/-- The signed field of `n` bytes at `off`. -/
def intAt (bs : List Byte) (off n : Nat) : Int := leInt (slice bs off n)

/-- The byte at `off`. -/
def byteAt (bs : List Byte) (off : Nat) : Byte := bs.getD off 0

/-- The first offset at which two byte strings differ, if any. -/
def firstDiff : List Byte → List Byte → Option Nat
  | [], [] => none
  | x :: xs, y :: ys => if x = y then (firstDiff xs ys).map (· + 1) else some 0
  | [], _ :: _ => some 0
  | _ :: _, [] => some 0

/-! ### CRC-32 and CRC-16 (R212) -/

/-- `n` bit steps of the reflected CRC-32 of polynomial 04C11DB7h. -/
def crc32Bits : Nat → Nat → Nat
  | 0, c => c
  | n + 1, c => crc32Bits n (if c % 2 = 1 then (c / 2) ^^^ 0xEDB88320 else c / 2)

/-- The CRC-32 register after more bytes. -/
def crc32From : Nat → List Byte → Nat
  | c, [] => c
  | c, b :: bs => crc32From (crc32Bits 8 (c ^^^ b.toNat)) bs

/-- R212: CRC-32, initial value FFFFFFFFh, result inverted, as a number. -/
def crc32 (bs : List Byte) : Nat := crc32From 0xFFFFFFFF bs ^^^ 0xFFFFFFFF

/-- `n` bit steps of the CRC-16 of polynomial 1021h, not reflected. -/
def crc16Bits : Nat → Nat → Nat
  | 0, c => c
  | n + 1, c => crc16Bits n (if 0x8000 ≤ c then (2 * c % 0x10000) ^^^ 0x1021 else 2 * c)

/-- The CRC-16 register after more bytes. -/
def crc16From : Nat → List Byte → Nat
  | c, [] => c
  | c, b :: bs => crc16From (crc16Bits 8 (c ^^^ (256 * b.toNat))) bs

/-- R212: CRC-16 of initial value FFFFh. -/
def crc16 (bs : List Byte) : Nat := crc16From 0xFFFF bs

/-! ### Gain (7.3) -/

/-- Whether `r` is at most `m × 10^(−a/40)` rounded: `2 r − 1 ≤ 2 m × 10^(−a/40)`, kept exact by 40th powers. -/
def gainAtMost (m a r : Nat) : Bool := r == 0 || decide ((2 * r - 1) ^ 40 * 10 ^ a ≤ (2 * m) ^ 40)

/-- Binary search, bit by bit from the top, for the greatest `r` with `gainAtMost m a r`. -/
def gainSearch (m a : Nat) : Nat → Nat → Nat
  | 0, acc => acc
  | n + 1, acc => gainSearch m a n (if gainAtMost m a (acc + 2 ^ n) then acc + 2 ^ n else acc)

/-- MUTE, the value beyond 180 steps (7.3). -/
def muteStep : Nat := 181

/-- 7.3 and R128: an output value times ten to the power −a/40, rounded; zero at MUTE. -/
def gain (a : Nat) (v : Int) : Int :=
  if muteStep ≤ a then 0
  else if 0 ≤ v then (gainSearch v.natAbs a 24 0 : Nat) else -((gainSearch v.natAbs a 24 0 : Nat) : Int)

/-- The gain applied to both values of a frame. -/
def Stereo.gain (a : Nat) (f : Stereo) : Stereo := ⟨Machine.gain a f.left, Machine.gain a f.right⟩

/-- A frame times `k / 64`, each value rounded (R128 to R130). -/
def Stereo.scale64 (k : Nat) (f : Stereo) : Stereo :=
  ⟨roundDiv (f.left * k) 64, roundDiv (f.right * k) 64⟩

end Sys2Proof.Machine
end

