-- ==== Sys2Proof/Machine/Ops.lean ====
section
/-!
DEFINITION. The named operations on single blocks of the state, and the counters (00_scope.md 4.5, 10 section 10.6).
-/

namespace Sys2Proof.Machine

/-! ### Updating one block -/

/-- Change the TLC's state. -/
def State.modTlc (s : State) (f : Tlc → Tlc) : State := { s with tlc := f s.tlc }
/-- Change the MSU's state. -/
def State.modMsu (s : State) (f : Msu → Msu) : State := { s with msu := f s.msu }
/-- Change the OIN's state. -/
def State.modOin (s : State) (f : Oin → Oin) : State := { s with oin := f s.oin }
/-- Change the FST's state. -/
def State.modFst (s : State) (f : Fst → Fst) : State := { s with fst := f s.fst }
/-- Change the SOU's state. -/
def State.modSou (s : State) (f : Sou → Sou) : State := { s with sou := f s.sou }
/-- Change the ILG's state. -/
def State.modIlg (s : State) (f : Ilg → Ilg) : State := { s with ilg := f s.ilg }
/-- Change the AUD's state. -/
def State.modAud (s : State) (f : Aud → Aud) : State := { s with aud := f s.aud }
/-- Change the PMG's state. -/
def State.modPmg (s : State) (f : Pmg → Pmg) : State := { s with pmg := f s.pmg }
/-- Change the PRR's state. -/
def State.modPrr (s : State) (f : Prr → Prr) : State := { s with prr := f s.prr }
/-- Change the NTU's state. -/
def State.modNtu (s : State) (f : Ntu → Ntu) : State := { s with ntu := f s.ntu }
/-- Change the CMU's state. -/
def State.modCmu (s : State) (f : Cmu → Cmu) : State := { s with cmu := f s.cmu }

/-- The link time of the present moment: LT plus the time offset (4.2). -/
def State.linkTime (s : State) : Int := s.lt + s.tlc.offset

/-! ### Counters -/

/-- The place of a counter in the list of all counters. -/
def Counter.index (c : Counter) : Fin 69 := ⟨c.ctorIdx, by cases c <;> decide⟩

/-- The value of a counter. -/
def State.count (s : State) (c : Counter) : Nat := s.counters[c.index.val]

/-- Set a counter. -/
def State.setCount (s : State) (c : Counter) (n : Nat) : State :=
  { s with counters := s.counters.set c.index.val n }

/-- 4.5: add to a counter, saturating at 32 bits. -/
def State.addCount (s : State) (c : Counter) (n : Nat) : State :=
  s.setCount c (min Config.counterMax (s.count c + n))

/-- Increment a counter. -/
def State.bump (s : State) (c : Counter) : State := s.addCount c 1

/-- The counter groups of READ_COUNTERS (10.6), in the order of their codes (R215). -/
inductive CounterGroup where
  | link | motion | orientation | picture | shift | illumination | audio | power | procedure | notice | command
  deriving DecidableEq, Repr

/-- The counters of a group, in the order in which READ_COUNTERS reports them (10.6). -/
def CounterGroup.members : CounterGroup → List Counter
  | .link => [.linkCrcErrors, .linkUnknownStream, .linkMarksIgnored, .trainingFailures, .retrainEntries,
      .gearReductions, .linkDownEntries, .timeSteps, .sleepEntries, .beatsReplaced]
  | .motion => [.motionQueueDrops, .sampleReadFailuresA, .sampleReadFailuresB, .imuFaultsA, .imuFaultsB,
      .saturatedSamples, .wearReadFailures, .wearChanges]
  | .orientation => [.imuFailovers, .anchorsTaken, .anchorsTooOld]
  | .picture => [.framesAccepted, .framesRefusedMalformed, .framesRefusedOrder, .framesRefusedFull,
      .framesCompleted, .framesDamaged, .framesShown, .framesDropped, .frameRepeats, .pictureStrayBlocks,
      .linesMalformed, .blankStarts]
  | .shift => [.shiftsClamped, .leadsClamped, .shiftsZeroedUnposed, .shiftsZeroedStale]
  | .illumination => [.illumPulsesLeft, .illumPulsesRight, .illumPulsesCut, .illumDarkEntries, .illumGuardCuts]
  | .audio => [.soundBlocksAccepted, .soundBlocksDiscarded, .soundBlocksMissed, .soundBlocksLate,
      .playbackFramesDiscarded, .playbackFramesFlushed, .playbackUnderruns, .driftRemovals, .driftInsertions,
      .driftLimits, .captureClippedBlocks, .captureBlocksGated, .voiceStarts, .captureQueueDrops]
  | .power => [.shedChanges, .shedJumps, .shedRises, .shedFalls, .brownoutEntries, .railFaults, .railRestarts]
  | .procedure => [.proceduresAccepted, .proceduresBusy]
  | .notice => [.noticesIssued, .noticesCoalesced]
  | .command => [.commandsOverflowed, .serviceFramesBad]

/-- The groups in the order of their codes. -/
def CounterGroup.all : List CounterGroup :=
  [.link, .motion, .orientation, .picture, .shift, .illumination, .audio, .power, .procedure, .notice, .command]

/-- Set every counter of a list to zero. -/
def State.clearCounts (s : State) (cs : List Counter) : State := cs.foldl (fun t c => t.setCount c 0) s

end Sys2Proof.Machine
end

