-- ==== Sys2Proof/Machine/Operands.lean ====
section
/-!
DEFINITION. The operands of requests and of downstream blocks, decoded from their bytes (R213, R214, R215). A decoder of a
request payload answers none exactly where its owning rule replies BAD_ARGUMENT: a wrong length (R199), a code not listed
(R215) or an argument outside its range.
-/

namespace Sys2Proof.Machine

/-- The 27 requests, in the order of the request table (11.4). -/
inductive ReqKind where
  | attach | detach | getInfo | getStatus | restart | linkSleep | setSensorRate | setWear | setAxisMap
  | selectPrimary | anchor | setPoseOverride | clearPoseOverride | setProfile | stagePulses | setVolume
  | setCapture | setPowerLimits | setCableResistance | railRestart | startProcedure | abortProcedure
  | getProcedureResult | readConditions | readCounters | clearConditions | setNoticeMask
  deriving DecidableEq, Repr

/-- R211: request kinds are coded from 01h upward in the order of the request table. -/
def ReqKind.code (k : ReqKind) : Byte := BitVec.ofNat 8 (k.ctorIdx + 1)

/-- Whether a kind byte names a request: 01h … 1Bh (R211). -/
def knownKind (b : Byte) : Bool := decide (1 ≤ b.toNat) && decide (b.toNat ≤ 27)

/-- R199: the read-only requests; every other kind except ATTACH is directing. -/
def ReqKind.readOnly : ReqKind → Bool
  | .getInfo | .getStatus | .readConditions | .readCounters | .getProcedureResult => true
  | _ => false

/-- R199: a directing request needs the controller role. -/
def ReqKind.directing (k : ReqKind) : Bool := !k.readOnly && k != .attach

/-- A one-byte choice: 0 for no, 1 for yes (R215). -/
def parseBool (b : Byte) : Option Bool :=
  if b.toNat = 0 then some false else if b.toNat = 1 then some true else none

/-- SET_SENSOR_RATE (R48, R215). -/
def parseRate (p : List Byte) : Option Nat :=
  let r := natAt p 0 2
  if p.length = 2 ∧ (r = 1000 ∨ r = 500 ∨ r = 250) then some r else none

/-- The wear settings. -/
structure WearArgs where
  worn : Nat
  removed : Nat
  away : Nat
  deriving DecidableEq, Repr

/-- SET_WEAR (R47, R215). -/
def parseWear (p : List Byte) : Option WearArgs :=
  let a : WearArgs := ⟨natAt p 0 2, natAt p 2 2, natAt p 4 2⟩
  if p.length = 6 ∧ a.worn ≤ 4095 ∧ a.removed ≤ 4095 ∧ 1 ≤ a.away ∧ a.away ≤ 600 ∧ a.removed < a.worn
  then some a else none

/-- A source axis (R215: x 0, y 1, z 2). -/
def parseAxisName (b : Byte) : Option AxisName :=
  if b.toNat = 0 then some .x else if b.toNat = 1 then some .y else if b.toNat = 2 then some .z else none

/-- One entry of an axis map: source axis, sign (R215: plus 0, minus 1). -/
def parseAxisEntry (p : List Byte) (off : Nat) : Option AxisEntry :=
  match parseAxisName (byteAt p off), parseBool (byteAt p (off + 1)) with
  | some a, some m => some ⟨a, m⟩
  | _, _ => none

/-- The three entries name three different source axes (3.3). -/
def AxisMap.ok (m : AxisMap) : Bool :=
  m.yaw.source != m.pitch.source && m.yaw.source != m.roll.source && m.pitch.source != m.roll.source

/-- The six bytes of an axis map (R58, R215). -/
def parseAxisMap (p : List Byte) : Option AxisMap :=
  match parseAxisEntry p 0, parseAxisEntry p 2, parseAxisEntry p 4 with
  | some y, some q, some r => if p.length = 6 ∧ (AxisMap.mk y q r).ok then some ⟨y, q, r⟩ else none
  | _, _, _ => none

/-- SELECT_PRIMARY (R62, R211: A 0, B 1). -/
def parseSensor (p : List Byte) : Option Sensor :=
  if p.length = 1 then
    if natAt p 0 1 = 0 then some .a else if natAt p 0 1 = 1 then some .b else none
  else none

/-- Three angles of four bytes each at `off`. -/
def anglesAt (p : List Byte) (off : Nat) : Angles := ⟨intAt p off 4, intAt p (off + 4) 4, intAt p (off + 8) 4⟩

/-- ANCHOR (R64, R215): link time and angles. -/
def parseAnchor (p : List Byte) : Option (Nat × Angles) :=
  if p.length = 20 ∧ (anglesAt p 8).ok then some (natAt p 0 8, anglesAt p 8) else none

/-- SET_POSE_OVERRIDE (R66, R215). -/
def parsePose (p : List Byte) : Option Angles :=
  if p.length = 12 ∧ (anglesAt p 0).ok then some (anglesAt p 0) else none

/-- The field ranges of the panel profile (4.1). -/
def Profile.ok (f : Profile) : Bool :=
  decide (640 ≤ f.columns ∧ f.columns ≤ 2560 ∧ 640 ≤ f.rows ∧ f.rows ≤ 2560) &&
  decide (6944 ≤ f.period ∧ f.period ≤ 16667 ∧ 300 ≤ f.blank ∧ f.blank ≤ 2000) &&
  decide (160 ≤ f.ppdH ∧ f.ppdH ≤ 1600 ∧ 160 ≤ f.ppdV ∧ f.ppdV ≤ 1600 ∧ f.limit ≤ 256)

/-- SET_PROFILE (R72, R215), also the first 18 bytes of the store image (R218). -/
def parseProfile (p : List Byte) : Option Profile :=
  match parseBool (byteAt p 17) with
  | none => none
  | some away =>
    let f : Profile :=
      { columns := natAt p 0 2, rows := natAt p 2 2, period := natAt p 4 2, blank := natAt p 6 2,
        ppdH := natAt p 8 2, ppdV := natAt p 10 2, limit := natAt p 12 2,
        border := ⟨byteAt p 14, byteAt p 15, byteAt p 16⟩, awayBlank := away }
    if p.length = 18 ∧ f.ok then some f else none

/-- STAGE_PULSES (R112, R215): pulses and interleave request. -/
def parsePulses (p : List Byte) : Option (PulseSet × Bool) :=
  let lo := natAt p 0 2; let lw := natAt p 2 2; let ro := natAt p 4 2; let rw := natAt p 6 2
  match parseBool (byteAt p 8) with
  | none => none
  | some i =>
    if p.length = 9 ∧ lo ≤ 16167 ∧ lw ≤ 16167 ∧ ro ≤ 16167 ∧ rw ≤ 16167
    then some (⟨⟨lo, lw⟩, ⟨ro, rw⟩⟩, i) else none

/-- The arguments of SET_VOLUME. -/
structure VolumeArgs where
  requested : Nat
  mute : Bool
  target : Nat
  flush : Bool
  deriving DecidableEq, Repr

/-- SET_VOLUME (R137, R215). -/
def parseVolume (p : List Byte) : Option VolumeArgs :=
  match parseBool (byteAt p 1), parseBool (byteAt p 4) with
  | some m, some f =>
    let a : VolumeArgs := ⟨natAt p 0 1, m, natAt p 2 2, f⟩
    if p.length = 5 ∧ a.requested ≤ 180 ∧ 96 ≤ a.target ∧ a.target ≤ 384 then some a else none
  | _, _ => none

/-- The arguments of SET_CAPTURE. -/
structure CaptureArgs where
  capture : Bool
  gate : Bool
  threshold : Nat
  hangover : Nat
  deriving DecidableEq, Repr

/-- SET_CAPTURE (R142, R215). -/
def parseCapture (p : List Byte) : Option CaptureArgs :=
  match parseBool (byteAt p 0), parseBool (byteAt p 1) with
  | some c, some g =>
    let a : CaptureArgs := ⟨c, g, natAt p 2 2, natAt p 4 2⟩
    if p.length = 6 ∧ 1 ≤ a.threshold ∧ a.threshold ≤ 32767 ∧ 10 ≤ a.hangover ∧ a.hangover ≤ 1000
    then some a else none
  | _, _ => none

/-- The ranges of the power limits and the order of the voltages (8.8). -/
def Limits.ok (l : Limits) : Bool :=
  decide (1000 ≤ l.cap ∧ l.cap ≤ 30000 ∧ 1000 ≤ l.safe ∧ l.safe ≤ 30000) &&
  decide (6000 ≤ l.vWarn ∧ l.vWarn ≤ 20000 ∧ 5500 ≤ l.vCrit ∧ l.vCrit ≤ 19999 ∧ 5000 ≤ l.vCut ∧ l.vCut ≤ 19998) &&
  decide (l.vCut < l.vCrit ∧ l.vCrit < l.vWarn)

/-- The ten bytes of the power limits as they stand, unchecked. -/
def limitsAt (p : List Byte) (off : Nat) : Limits :=
  ⟨natAt p off 2, natAt p (off + 2) 2, natAt p (off + 4) 2, natAt p (off + 6) 2, natAt p (off + 8) 2⟩

/-- SET_POWER_LIMITS (R165, R215). -/
def parseLimits (p : List Byte) : Option Limits :=
  if p.length = 10 ∧ (limitsAt p 0).ok then some (limitsAt p 0) else none

/-- SET_CABLE_RESISTANCE (R163, R215). -/
def parseResistance (p : List Byte) : Option Nat :=
  if p.length = 4 ∧ natAt p 0 4 ≤ 65535 then some (natAt p 0 4) else none

/-- What START_PROCEDURE asks for, its parameters filled in (R169). -/
inductive StartArgs where
  | biasCal (targets : Targets) (duration threshold : Nat)
  | cableMeasure
  | sensorSync (targets : Targets)
  | writeStore
  deriving DecidableEq, Repr

/-- The target set of a START_PROCEDURE: bit 0 A, bit 1 B; a set bit 2 … 7 names another target (R215). -/
def parseTargets (b : Byte) : Option Targets :=
  if b.toNat < 4 then some ⟨b.getLsbD 0, b.getLsbD 1⟩ else none

/-- The parameter list: code and value, three bytes each (R215); a list that does not divide is none. -/
def parseParams : List Byte → Option (List (Nat × Nat))
  | [] => some []
  | c :: lo :: hi :: rest => (parseParams rest).map ((c.toNat, leNat [lo, hi]) :: ·)
  | _ => none

/-- The value given for a parameter code, or the default. -/
def paramOr (ps : List (Nat × Nat)) (code default_ : Nat) : Nat :=
  match ps.find? (fun q => q.1 == code) with
  | some q => q.2
  | none => default_

/-- R169, R215: only duration (0) and stillness threshold (1) are defined, for BIAS_CAL, each at most once. -/
def paramsOk (ps : List (Nat × Nat)) : Bool :=
  decide (ps.map (·.1)).Nodup && ps.all (fun q => q.1 == 0 || q.1 == 1) &&
  decide (500 ≤ paramOr ps 0 2000 ∧ paramOr ps 0 2000 ≤ 5000) &&
  decide (1 ≤ paramOr ps 1 32 ∧ paramOr ps 1 32 ≤ 4096)

/-- START_PROCEDURE (R169, R215). -/
def parseStart (p : List Byte) : Option StartArgs :=
  if p.length < 2 then none
  else match parseTargets (byteAt p 1), parseParams (p.drop 2) with
    | some t, some ps =>
      match (byteAt p 0).toNat with
      | 0 => if (t.a || t.b) && paramsOk ps then some (.biasCal t (paramOr ps 0 2000) (paramOr ps 1 32)) else none
      | 1 => if !t.a && !t.b && ps.isEmpty then some .cableMeasure else none
      | 2 => if (t.a || t.b) && ps.isEmpty then some (.sensorSync t) else none
      | 3 => if !t.a && !t.b && ps.isEmpty then some .writeStore else none
      | _ => none
    | _, _ => none

/-- The groups of GET_STATUS (R205, R215). -/
inductive StatusGroup where
  | link | motion | orientation | picture | shift | illumination | audio | power | command
  deriving DecidableEq, Repr

/-- The groups in the order of their codes. -/
def StatusGroup.all : List StatusGroup :=
  [.link, .motion, .orientation, .picture, .shift, .illumination, .audio, .power, .command]

/-- GET_STATUS (R205, R215): the groups asked for, every one for ALL (9). -/
def parseStatusGroups (p : List Byte) : Option (List StatusGroup) :=
  if p.length = 1 then
    if natAt p 0 1 = 9 then some StatusGroup.all else (StatusGroup.all[natAt p 0 1]?).map ([·])
  else none

/-- Whether a READ_COUNTERS payload carries its clear option (R194, R215). DESIGN CHOICE 57: a payload of the wrong length does
not, whatever its second byte, and is judged as an argument out of range. -/
def asksClear (p : List Byte) : Bool := p.length == 2 && natAt p 1 1 == 1

/-- READ_COUNTERS (R194, R215): the groups asked for, every one for ALL (11), and the clear option. -/
def parseCounters (p : List Byte) : Option (List CounterGroup × Bool) :=
  match parseBool (byteAt p 1) with
  | none => none
  | some c =>
    if p.length = 2 then
      if natAt p 0 1 = 11 then some (CounterGroup.all, c)
      else (CounterGroup.all[natAt p 0 1]?).map (fun g => ([g], c))
    else none

/-! ### Downstream blocks (R213, R214) -/

/-- A FRAME_BEGIN payload. -/
structure FrameBegin where
  frame : FrameNo
  pose : Option Angles
  renderTime : Nat
  deriving DecidableEq, Repr

/-- FRAME_BEGIN: none when shorter than its 28 fixed bytes (R213). -/
def parseFrameBegin (p : List Byte) : Option FrameBegin :=
  if p.length < 28 then none
  else some
    { frame := BitVec.ofNat 32 (natAt p 0 4), renderTime := natAt p 8 8,
      pose := if (byteAt p 4).getLsbD 0 then some (anglesAt p 16) else none }

/-- A LINES payload. -/
structure LinesBlock where
  frame : FrameNo
  eye : Nat
  first : Nat
  rows : Nat
  pixels : List Byte
  deriving DecidableEq, Repr

/-- LINES: none when shorter than its 10 fixed bytes. -/
def parseLines (p : List Byte) : Option LinesBlock :=
  if p.length < 10 then none
  else some
    { frame := BitVec.ofNat 32 (natAt p 0 4), eye := natAt p 4 1, first := natAt p 6 2, rows := natAt p 8 2,
      pixels := p.drop 10 }

/-- FRAME_END: none when shorter than 4 bytes. -/
def parseFrameEnd (p : List Byte) : Option FrameNo :=
  if p.length < 4 then none else some (BitVec.ofNat 32 (natAt p 0 4))

/-- The sample frames of a SOUND block from `off`, `n` of them, six bytes each. -/
def soundFrames (p : List Byte) : Nat → Nat → List Stereo
  | _, 0 => []
  | off, n + 1 => ⟨intAt p off 3, intAt p (off + 3) 3⟩ :: soundFrames p (off + 6) n

/-- SOUND: sequence and 48 frames; none when shorter than 290 bytes. -/
def parseSound (p : List Byte) : Option (Seq × List Stereo) :=
  if p.length < 290 then none else some (BitVec.ofNat 16 (natAt p 0 2), soundFrames p 2 48)

/-- A time mark: its link time; none when shorter than 8 bytes. -/
def parseTimeMark (p : List Byte) : Option Nat :=
  if p.length < 8 then none else some (natAt p 0 8)

/-- Why a downstream block is discarded by the TLC or, for a kind it does not know, by the receiving block. -/
inductive Discard where
  /-- the CRC or the length does not agree (R8, R213) -/
  | crc
  /-- no known stream (R8) -/
  | stream
  /-- a LINK block of no known kind (R21) -/
  | linkKind
  /-- a PICTURE block of no known kind (R213) -/
  | pictureKind
  deriving DecidableEq, Repr

/-- R21, R212, R217: the row that a downstream payload is by the stream and the kind of its block, or why the block is discarded. The
kind byte of a SOUND or CONTROL block is ignored. -/
def rowOfCodes (stream kind : Nat) (payload : List Byte) : Except Discard Instr :=
  match stream, kind with
  | 1, 1 => .ok (.frameBegin payload)
  | 1, 2 => .ok (.lines payload)
  | 1, 3 => .ok (.frameEnd payload)
  | 1, _ => .error .pictureKind
  | 2, _ => .ok (.sound payload)
  | 3, _ => .ok (.controlBlockReceived payload)
  | 4, 1 => .ok (.timeMark payload)
  | 4, 2 => .ok (.sleepMark payload)
  | 4, _ => .error .linkKind
  | _, _ => .error .stream

/-- R8, R212, R213: a whole downstream block as the lane framing delivered it: its checks, and then the row that it is. -/
def readBlock (b : List Byte) : Except Discard Instr :=
  if b.length < 8 ∨ natAt b 2 2 + 8 ≠ b.length ∨ crc32 (b.take (b.length - 4)) ≠ natAt b (b.length - 4) 4
  then .error .crc
  else rowOfCodes (natAt b 0 1) (natAt b 1 1) (slice b 4 (b.length - 8))

/-- R8, R21, R213: why a downstream block is discarded; none when it is delivered. -/
def judgeBlock (b : List Byte) : Option Discard :=
  match readBlock b with
  | .error d => some d
  | .ok _ => none

/-- R21: the command that a downstream block is: the row of its stream and kind with its payload, or LINK_BLOCK_DISCARDED with the
whole block. -/
def commandOfBlock (b : List Byte) : Instr :=
  match readBlock b with
  | .error _ => .linkBlockDiscarded b
  | .ok c => c

end Sys2Proof.Machine
end

