-- ==== Sys2Proof/Machine/Flags.lean ====
section
/-!
DEFINITION. The condition sets and their masks (R183, R184, R211), the summary (R186), and the payloads that name
conditions (R185, R193).
-/

namespace Sys2Proof.Machine

/-- The set of a condition and its bit in that set's mask (R184, R211). -/
def Condition.place : Condition → CondSet × Nat
  | .trained => (.link, 0) | .retrain => (.link, 1) | .linkDown => (.link, 2) | .gearReduced => (.link, 3)
  | .timeStep => (.link, 4) | .timeFree => (.link, 5)
  | .imuFailover => (.motion, 0) | .queueDrop => (.motion, 1) | .saturation => (.motion, 2)
  | .wearChange => (.motion, 3) | .imuFaultA => (.motion, 4) | .imuFaultB => (.motion, 5)
  | .poseStale => (.motion, 6)
  | .frameDropped => (.picture, 0) | .frameRefused => (.picture, 1) | .frameDamaged => (.picture, 2)
  | .repeat => (.picture, 3) | .shiftClamped => (.picture, 4)
  | .underrun => (.audio, 0) | .overrun => (.audio, 1) | .driftLimit => (.audio, 2) | .voiceStart => (.audio, 3)
  | .voiceEnd => (.audio, 4) | .captureDrop => (.audio, 5)
  | .shedChange => (.power, 0) | .brownout => (.power, 1) | .railFaultSensor => (.power, 2)
  | .railFaultAudio => (.power, 3) | .railFaultPanelL => (.power, 4) | .railFaultPanelR => (.power, 5)
  | .railFaultIllum => (.power, 6) | .budgetLow => (.power, 7) | .cableDropHigh => (.power, 8)
  | .procDone => (.command, 0) | .cmdOverflow => (.command, 1) | .storeDefaulted => (.command, 2)
  | .controllerChange => (.command, 3)

/-- The set of a condition. -/
def Condition.set (c : Condition) : CondSet := c.place.1

/-- The mask of one condition within its set. -/
def Condition.bit (c : Condition) : BitVec 16 := BitVec.twoPow 16 c.place.2

/-- The sets in the order of the set mask. -/
def CondSet.all : List CondSet := [.link, .motion, .picture, .audio, .power, .command]

/-- The mask of a set's latched conditions, which stand before its live ones (R184). -/
def CondSet.latched : CondSet → BitVec 16
  | .link => 0x1F | .motion => 0xF | .picture => 0x1F | .audio => 0x3F | .power => 0x3 | .command => 0xF

/-- The mask of one set. -/
def Masks.get (m : Masks) : CondSet → BitVec 16
  | .link => m.link | .motion => m.motion | .picture => m.picture | .audio => m.audio
  | .power => m.power | .command => m.command

/-- Replace the mask of one set. -/
def Masks.set (m : Masks) (c : CondSet) (v : BitVec 16) : Masks :=
  match c with
  | .link => { m with link := v } | .motion => { m with motion := v } | .picture => { m with picture := v }
  | .audio => { m with audio := v } | .power => { m with power := v } | .command => { m with command := v }

/-- Whether a condition is in the masks. -/
def Masks.has (m : Masks) (c : Condition) : Bool := m.get c.set &&& c.bit != 0

/-- Put a condition in. -/
def Masks.put (m : Masks) (c : Condition) : Masks := m.set c.set (m.get c.set ||| c.bit)

/-- Take a condition out. -/
def Masks.drop (m : Masks) (c : Condition) : Masks := m.set c.set (m.get c.set &&& ~~~c.bit)

/-- Keep only the bits of conditions that exist. -/
def Masks.trim (m : Masks) : Masks :=
  ⟨m.link &&& Masks.all.link, m.motion &&& Masks.all.motion, m.picture &&& Masks.all.picture,
   m.audio &&& Masks.all.audio, m.power &&& Masks.all.power, m.command &&& Masks.all.command⟩

/-- R183: a condition is signalled when it is pending and enabled. -/
def Ntu.signals (n : Ntu) (c : CondSet) : Bool := n.pending.get c &&& n.enabled.get c != 0

/-- R186: the sets that hold at least one signalled condition. -/
def Ntu.summary (n : Ntu) : List CondSet := CondSet.all.filter n.signals

/-- A set mask (R211). -/
def setMask (cs : List CondSet) : Byte :=
  cs.foldl (fun m c => m ||| BitVec.twoPow 8 c.ctorIdx) 0

/-- The conditions of all sets, in mask order. -/
def Condition.all : List Condition :=
  [.trained, .retrain, .linkDown, .gearReduced, .timeStep, .timeFree, .imuFailover, .queueDrop, .saturation,
   .wearChange, .imuFaultA, .imuFaultB, .poseStale, .frameDropped, .frameRefused, .frameDamaged, .repeat,
   .shiftClamped, .underrun, .overrun, .driftLimit, .voiceStart, .voiceEnd, .captureDrop, .shedChange, .brownout,
   .railFaultSensor, .railFaultAudio, .railFaultPanelL, .railFaultPanelR, .railFaultIllum, .budgetLow,
   .cableDropHigh, .procDone, .cmdOverflow, .storeDefaulted, .controllerChange]

/-- A set by its code (R215). -/
def parseSet (b : Byte) : Option CondSet := CondSet.all[b.toNat]?

/-- CLEAR_CONDITIONS (R193, R215): set and mask. A bit at or above the set's size does not belong to the set. -/
def parseClear (p : List Byte) : Option (CondSet × BitVec 16) :=
  match parseSet (byteAt p 0) with
  | none => none
  | some c =>
    let m : BitVec 16 := BitVec.ofNat 16 (natAt p 1 2)
    if p.length = 3 ∧ m &&& ~~~(Masks.all.get c) = 0 then some (c, m) else none

/-- Six condition masks of two bytes each at `off`. -/
def masksAt (p : List Byte) (off : Nat) : Masks :=
  ⟨BitVec.ofNat 16 (natAt p off 2), BitVec.ofNat 16 (natAt p (off + 2) 2), BitVec.ofNat 16 (natAt p (off + 4) 2),
   BitVec.ofNat 16 (natAt p (off + 6) 2), BitVec.ofNat 16 (natAt p (off + 8) 2),
   BitVec.ofNat 16 (natAt p (off + 10) 2)⟩

/-- SET_NOTICE_MASK (R185, R215): masks and holdoff. -/
def parseMask (p : List Byte) : Option (Masks × Nat) :=
  let m := masksAt p 0
  if p.length = 13 ∧ m.trim = m ∧ natAt p 12 1 ≤ 15 then some (m, natAt p 12 1) else none

end Sys2Proof.Machine
end

