-- ==== Sys2Proof/Machine/Layout.lean ====
section
/-!
DEFINITION. What the part sends, as bytes: the coding of values (R211, R215), link blocks and service frames (R212), the
upstream records (R216).
-/

namespace Sys2Proof.Machine

/-! ### Values of a reply (R215) -/

/-- Any other number: 4 bytes, signed. -/
def numBytes (v : Int) : List Byte := leBytes 4 v

/-- A link time or a local time: 8 bytes. -/
def timeBytes (v : Int) : List Byte := leBytes 8 v

/-- An enumerated value, by its code. -/
def codeByte (n : Nat) : List Byte := [BitVec.ofNat 8 n]

/-- Set or clear, on or off, and the like: 0 for clear, 1 for set. -/
def boolByte (b : Bool) : List Byte := if b then [1] else [0]

/-- A value that may be none: a presence byte, then the value, or zeros of its width (R211, R215). -/
def optBytes (width : Nat) (v : Option (List Byte)) : List Byte :=
  match v with
  | some bs => 1 :: bs
  | none => 0 :: List.replicate width 0

/-- Sensor A 0, B 1 (R211). -/
def sensorCode : Sensor → Nat
  | .a => 0
  | .b => 1

/-- The port by its place in R204: TETHER, SERVICE. -/
def portCode : Port → Nat
  | .tether => 0
  | .service => 1

/-- Shed level L0 … L3 as 0 … 3 (R211). -/
def Level.code : Level → Nat
  | .l0 => 0
  | .l1 => 1
  | .l2 => 2
  | .l3 => 3

/-- Wear state UNKNOWN 0, WORN 1, REMOVED 2, AWAY 3 (R211). -/
def Wear.code : Wear → Nat
  | .unknown => 0
  | .worn => 1
  | .removed _ => 2
  | .away => 3

/-- Three angles, four bytes each. -/
def Angles.bytes (a : Angles) : List Byte := numBytes a.yaw ++ numBytes a.pitch ++ numBytes a.roll

/-- An effective or applied attenuation, which no field of a request carries: a number (R215); the number that stands for
MUTE is left open (Config). -/
def attenuationBytes (a : Nat) : List Byte := numBytes (if muteStep ≤ a then Config.muteCode else a)

/-- An axis map as the SET_AXIS_MAP payload. -/
def AxisMap.bytes (m : AxisMap) : List Byte :=
  let e (x : AxisEntry) : List Byte := codeByte x.source.ctorIdx ++ boolByte x.minus
  e m.yaw ++ e m.pitch ++ e m.roll

/-- Three readings, four bytes each. -/
def Axes.bytes (a : Axes) : List Byte := numBytes a.x ++ numBytes a.y ++ numBytes a.z

/-- A bias table entry in a reply: three biases and the calibration temperature, which no field of a request, a record or the
status beat carries: numbers (R215). -/
def BiasEntry.bytes (b : BiasEntry) : List Byte := b.bias.bytes ++ numBytes b.temp

/-- A bias table entry in the store image (R218): three biases, 4 bytes each, and a temperature of 2. -/
def BiasEntry.image (b : BiasEntry) : List Byte := b.bias.bytes ++ leBytes 2 b.temp

/-- A profile as the SET_PROFILE payload. -/
def Profile.bytes (f : Profile) : List Byte :=
  leBytes 2 f.columns ++ leBytes 2 f.rows ++ leBytes 2 f.period ++ leBytes 2 f.blank ++ leBytes 2 f.ppdH ++
    leBytes 2 f.ppdV ++ leBytes 2 f.limit ++ [f.border.red, f.border.green, f.border.blue] ++ boolByte f.awayBlank

/-- Power limits as the SET_POWER_LIMITS payload. -/
def Limits.bytes (l : Limits) : List Byte :=
  leBytes 2 l.cap ++ leBytes 2 l.safe ++ leBytes 2 l.vWarn ++ leBytes 2 l.vCrit ++ leBytes 2 l.vCut

/-- A condition mask: 2 bytes. -/
def maskBytes (m : BitVec 16) : List Byte := leBytes 2 m.toNat

/-- The masks of the six sets, as in the SET_NOTICE_MASK payload. -/
def Masks.bytes (m : Masks) : List Byte := CondSet.all.flatMap (fun c => maskBytes (m.get c))

/-! ### Framing (R212) -/

/-- A link block: stream, block kind, length, payload, CRC-32. -/
def linkBlock (stream kind : Nat) (payload : List Byte) : List Byte :=
  let head := codeByte stream ++ codeByte kind ++ leBytes 2 payload.length ++ payload
  head ++ leBytes 4 (crc32 head)

/-- A service frame: sync byte, length, body, CRC-16 over length and body, low byte first. -/
def serviceFrame (body : List Byte) : List Byte :=
  let covered := leBytes 2 body.length ++ body
  (0xA5 : Byte) :: (covered ++ leBytes 2 (crc16 covered))

/-! ### Upstream records (R216) -/

/-- A flags byte, bit 0 first. -/
def flagsByte : List Bool → List Byte
  | bs => [BitVec.ofNat 8 (bs.foldr (fun b n => (if b then 1 else 0) + 2 * n) 0)]

/-- A motion record: 32 bytes. -/
def MotionRecord.bytes (r : MotionRecord) : List Byte :=
  codeByte (sensorCode r.sensor) ++ flagsByte [r.saturated, r.gap, r.timeStep, r.freeTime, r.syncMark] ++
    leBytes 2 r.seq.toNat ++ timeBytes r.time ++ numBytes r.rate.x ++ numBytes r.rate.y ++ numBytes r.rate.z ++
    leBytes 2 r.force.x ++ leBytes 2 r.force.y ++ leBytes 2 r.force.z ++ leBytes 2 r.temp

/-- A capture block: 204 bytes when it holds 48 frames. -/
def CaptureBlock.bytes (b : CaptureBlock) : List Byte :=
  flagsByte [b.gap, b.gateOpen, b.clipped, b.timeStep, b.freeTime] ++ [0] ++ leBytes 2 b.seq.toNat ++
    timeBytes b.time ++ b.frames.flatMap (fun f => leBytes 2 f.1 ++ leBytes 2 f.2)

/-- A status beat: 28 bytes. -/
def Beat.bytes (b : Beat) : List Byte :=
  flagsByte [b.timeStep, b.freeTime, b.lastBlank.isSome, b.showing.isSome] ++ codeByte b.level.code ++
    codeByte b.wear.code ++ codeByte b.freeSlots ++ timeBytes b.linkTime ++ timeBytes (b.lastBlank.getD 0) ++
    leBytes 4 ((b.showing.map BitVec.toNat).getD 0) ++ leBytes 2 b.fill ++ [b.summary] ++ [0]

/-- An upstream block on the wire. -/
def Upstream.wire : Upstream → List Byte
  | .motion r => linkBlock 0x11 0 r.bytes
  | .capture b => linkBlock 0x12 0 b.bytes
  | .control body => linkBlock 0x13 0 body

/-- The bytes of the block in transmission on the tether, none when nothing is in transmission. -/
def State.tetherWire (s : State) : Option (List Byte) :=
  match s.tlc.tx with
  | none => none
  | some (.beat b) => some (linkBlock 0x14 0 b.bytes)
  | some .motion => s.msu.queue.head?.map (fun r => (Upstream.motion r).wire)
  | some .capture => s.aud.queue.head?.map (fun b => (Upstream.capture b).wire)
  | some .control => s.cmu.outTether.head?.map (fun m => (Upstream.control m.body).wire)
  | some (.detached u) => some u.wire

/-- The bytes of the frame in transmission on the service port. -/
def State.serviceWire (s : State) : Option (List Byte) :=
  match s.cmu.serviceTx with
  | .idle => none
  | .head => s.cmu.outService.head?.map (fun m => serviceFrame m.body)
  | .detached body => some (serviceFrame body)

end Sys2Proof.Machine
end

