-- ==== Sys2Proof/Machine/Upstream.lean ====
section
/-!
DEFINITION. The upstream arbiter (R22, R23), the outgoing queues of the two ports (R201), and notices: when one is due,
its issue, and the attention line (R183 to R191).
-/

namespace Sys2Proof.Machine

/-- Whether the link is ACTIVE. -/
def Link.isActive : Link → Bool
  | .active _ => true
  | _ => false

/-- Whether the link is ACTIVE. -/
def State.linkActive (s : State) : Bool := s.tlc.link.isActive

/-! ### Opportunities and the arbiter -/

/-- R52: whether the motion queue is drained: in BROWNOUT it is kept and not drained (DEDUCED 50). -/
def State.motionDrains (s : State) : Bool := s.pmg.supply != .brownout

/-- R23, R52: the block the arbiter chooses. -/
def State.arbiter (s : State) : Option Transmission :=
  if s.motionDrains && !s.msu.queue.isEmpty then some .motion
  else
    match s.cmu.outTether with
    | m :: _ =>
      if m.entered + Config.replyGuard ≤ s.lt then some .control
      else if !s.aud.queue.isEmpty then some .capture
      else some .control
    | [] => if !s.aud.queue.isEmpty then some .capture else none

/-- R22: when the link can take the start of a block, a due beat goes first, else the arbiter's choice. -/
def State.opportunity (s : State) : State :=
  if s.linkActive && s.tlc.tx.isNone then
    match s.tlc.beat with
    | some b => s.modTlc fun t => { t with beat := none, tx := some (.beat b) }
    | none => s.modTlc fun t => { t with tx := s.arbiter }
  else s

/-- R201: the UART begins the message at the head of the SERVICE queue when it is idle. -/
def State.uartStart (s : State) : State :=
  if s.cmu.serviceTx = .idle ∧ s.cmu.outService ≠ [] then s.modCmu fun c => { c with serviceTx := .head } else s

/-- R19, R22, R24: a beat that is replaced, dropped or abandoned with TIME_STEP sets the stream's mark again. -/
def Tlc.loseBeat (t : Tlc) (b : Beat) : Tlc := { t with stepBeat := t.stepBeat || b.timeStep }

/-! ### The outgoing queues -/

/-- The outgoing queue of a port. -/
def Cmu.out (c : Cmu) : Port → List Message
  | .tether => c.outTether
  | .service => c.outService

/-- Replace the outgoing queue of a port. -/
def Cmu.setOut (c : Cmu) (p : Port) (q : List Message) : Cmu :=
  match p with
  | .tether => { c with outTether := q }
  | .service => { c with outService := q }

/-- Whether the head of a port's outgoing queue is being sent. -/
def State.headSent (s : State) : Port → Bool
  | .tether => s.tlc.tx == some .control
  | .service => s.cmu.serviceTx == .head

/-- The waiting notice is discarded: a notice that is being sent is not waiting (R189, R190). -/
def dropWaiting (headSent : Bool) (q : List Message) : List Message :=
  match headSent, q with
  | true, m :: ms => m :: ms.filter (fun n => n.role != .notice)
  | _, ms => ms.filter (fun n => n.role != .notice)

/-- Whether a notice waits in the queue. -/
def hasWaiting (headSent : Bool) (q : List Message) : Bool :=
  match headSent, q with
  | true, _ :: ms => ms.any (fun n => n.role == .notice)
  | _, ms => ms.any (fun n => n.role == .notice)

/-- R189: the waiting notice takes a new content and keeps its place and its moment. -/
def replaceWaiting (body : List Byte) (headSent : Bool) (q : List Message) : List Message :=
  let new (n : Message) : Message := if n.role = .notice then { n with body := body } else n
  match headSent, q with
  | true, m :: ms => m :: ms.map new
  | _, ms => ms.map new

/-- Place a message at the tail of a port's outgoing queue; it starts at once if the way is free (R22, R201). -/
def State.place (s : State) (p : Port) (role : MessageRole) (body : List Byte) : State :=
  ((s.modCmu fun c => c.setOut p (c.out p ++ [⟨role, body, s.lt⟩])).opportunity).uartStart

/-! ### Notices -/

/-- R188: the body of a notice: kind FFh, tag 00h, then the payload of R216. -/
def State.noticeBody (s : State) (number : Seq) : List Byte :=
  [0xFF, 0x00] ++ leBytes 2 number.toNat ++ timeBytes s.linkTime ++ [setMask s.ntu.summary] ++ [0] ++
    s.ntu.summary.flatMap (fun c => maskBytes (s.ntu.pending.get c))

/-- R188, R189: issue a notice to the port that holds the controller role. -/
def State.issue (s : State) : State :=
  match s.cmu.role with
  | none => s
  | some p =>
    let number := s.ntu.number + 1
    let body := s.noticeBody number
    let s := s.modNtu fun n =>
      { n with number := number, timer := if n.holdoff = 0 then none else some (s.lt + n.holdoff * 1000) }
    let s := s.bump .noticesIssued
    if hasWaiting (s.headSent p) (s.cmu.out p) then
      (s.modCmu fun c => c.setOut p (replaceWaiting body (s.headSent p) (c.out p))).bump .noticesCoalesced
    else s.place p .notice body

/-- R187: what a notice becoming due does. -/
def State.noticeDue (s : State) : State :=
  match s.cmu.role with
  | none => s
  | some _ =>
    match s.ntu.timer with
    | none => s.issue
    | some _ => s.modNtu fun n => { n with due := true }

/-! ### The attention line -/

/-- R191: the facts under which ATTN is active. -/
def State.attnWanted (s : State) : Bool :=
  s.cmu.role == some .service && !s.ntu.summary.isEmpty && s.ntu.quiet.isNone

/-- R191: ATTN follows its facts; each fall starts a quiet hold of the holdoff in force. -/
def State.attend (s : State) : State :=
  if s.ntu.attn && !s.attnWanted then
    s.modNtu fun n =>
      { n with attn := false, quiet := if n.holdoff = 0 then none else some (s.lt + n.holdoff * 1000) }
  else if !s.ntu.attn && s.attnWanted then s.modNtu fun n => { n with attn := true }
  else s

/-! ### Conditions -/

/-- R183, R187: a condition becomes pending. One that is pending already is no change. -/
def State.raise (s : State) (c : Condition) : State :=
  if s.ntu.pending.has c then s
  else
    let s := s.modNtu fun n => { n with pending := n.pending.put c }
    (if s.ntu.enabled.has c then s.noticeDue else s).attend

/-- R183, R186: a condition becomes clear; clearing makes no notice due. -/
def State.lower (s : State) (c : Condition) : State :=
  (s.modNtu fun n => { n with pending := n.pending.drop c }).attend

/-- R183, R184: a live condition follows its owner's state. -/
def State.follow (s : State) (c : Condition) (holds : Bool) : State :=
  if holds then s.raise c else s.lower c

end Sys2Proof.Machine
end

