-- ==== Sys2Proof/Machine/Requests.lean ====
section
/-!
DEFINITION. How a request is judged and answered (R199, R200, R201, R203): the command queue, replies, arrival, the
leaving of a reply, the release of the controller role.
-/

namespace Sys2Proof.Machine

/-- The statuses, in the order of their codes (11.2, R211). -/
inductive Status where
  | ok | accepted | busy | badArgument | wrongState | notController | unknownKind | tooOld
  deriving DecidableEq, Repr

/-- The code of a status: 00h … 07h. -/
def Status.code (x : Status) : Byte := BitVec.ofNat 8 x.ctorIdx

/-- What the rule that owns a request answers: the state it leaves, the status, the values, and what the reply is. -/
structure Answer where
  state : State
  status : Status
  values : List Byte
  role : MessageRole

/-- OK with values. -/
def Answer.ok (s : State) (values : List Byte) : Answer := ⟨s, .ok, values, .reply⟩

/-- A reply that leaves the state as it is. -/
def Answer.plain (s : State) (x : Status) : Answer := ⟨s, x, [], .reply⟩

/-- R199: the oldest entry whose request is not yet complete. -/
def Cmu.next (c : Cmu) : Option Entry := c.queue.find? (fun e => !e.complete)

/-- The oldest incomplete entry becomes complete and keeps its place (R200). -/
def markComplete : List Entry → List Entry
  | [] => []
  | e :: es => if e.complete then e :: markComplete es else { e with complete := true } :: es

/-- R199, R209: whether the CMU is to carry out this very request now: it is the oldest incomplete entry, and no
RESTART waits for its reset. -/
def State.turn (s : State) (kind : Byte) (p : Port) (tag : Byte) (payload : List Byte) : Bool :=
  s.cmu.restart.isNone && s.cmu.next == some ⟨p, kind, tag, payload, false⟩

/-- R199, R212: the body of a reply: the request's code plus 80h, its tag, the status, the values. -/
def replyBody (kind tag : Byte) (x : Status) (values : List Byte) : List Byte :=
  [kind + 0x80, tag, x.code] ++ values

/-- R199, R201: the request is complete and its reply is placed in the outgoing queue of the port that carried it. -/
def State.reply (s : State) (kind : Byte) (p : Port) (tag : Byte) (x : Status) (values : List Byte)
    (role : MessageRole) : State :=
  (s.modCmu fun c => { c with queue := markComplete c.queue }).place p role (replyBody kind tag x values)

/-- R199: carry out a request: a directing one from a port without the role is replied NOT_CONTROLLER, any other is
handed to the rule that owns it. A request whose turn it is not waits. -/
def State.request (s : State) (k : ReqKind) (p : Port) (tag : Byte) (payload : List Byte)
    (own : State → Answer) : State :=
  if s.turn k.code p tag payload then
    if k.directing && s.cmu.role != some p then s.reply k.code p tag .notController [] .reply
    else (own s).state.reply k.code p tag (own s).status (own s).values (own s).role
  else s

/-- Whether a request is carried out now and by a port that may send it: its own rule judges it. -/
def State.carried (s : State) (k : ReqKind) (p : Port) (tag : Byte) (payload : List Byte) : Bool :=
  s.turn k.code p tag payload && !(k.directing && s.cmu.role != some p)

/-- R200: a request arrives with its body of at least two bytes. -/
def State.arrive (s : State) (p : Port) (body : List Byte) : State :=
  if Config.commandQueueMax ≤ s.cmu.queue.length then (s.bump .commandsOverflowed).raise .cmdOverflow
  else s.modCmu fun c =>
    { c with queue := c.queue ++ [⟨p, byteAt body 0, byteAt body 1, body.drop 2, false⟩] }

/-- R200: a reply has left on a port: the oldest complete entry of that port is removed (each port's replies leave in
the order of its requests, R201). -/
def State.replyLeft (s : State) (p : Port) : State :=
  s.modCmu fun c => { c with queue := c.queue.eraseP (fun e => e.port == p && e.complete) }

/-- R203, R190: the controller role is released by port `p`. -/
def State.release (s : State) (p : Port) : State :=
  let s := s.modCmu fun c => { c with queue := c.queue.filter (fun e => e.port != p || e.complete) }
  let s := s.modCmu fun c => c.setOut p (dropWaiting (s.headSent p) (c.out p))
  let s := s.modNtu fun n => { n with due := false }
  (s.modCmu fun c => { c with role := none }).attend

/-- A request without arguments: a payload that is not empty counts as an argument out of range (R199). -/
def withoutArgs (payload : List Byte) (own : State → Answer) (s : State) : Answer :=
  if payload.isEmpty then own s else .plain s .badArgument

end Sys2Proof.Machine
end

