-- ==== Sys2Proof/Machine/Illumination.lean ====
section
/-!
DEFINITION. Chapter 6: dark causes and the output state (R118 to R122), the copy at the blank start (R113 to R116), the
lit intervals (R111), STAGE_PULSES (R112).
-/

namespace Sys2Proof.Machine

/-- The dark causes (6.4), in the order of their table. -/
inductive DarkCause where
  | shedL3 | rail | scan | away
  deriving DecidableEq, Repr

/-- R118: whether a dark cause holds now, judged from the state that another block owns. -/
def State.causeHolds (s : State) : DarkCause → Bool
  | .shedL3 => s.pmg.level == .l3
  | .rail => s.pmg.rails.illum != .on
  | .scan => s.sou.scanOut != .scanning
  | .away => s.msu.wear == .away && s.fst.profile.awayBlank

/-- The set of dark causes that hold now. -/
def State.darkCauses (s : State) : List DarkCause := [.shedL3, .rail, .scan, .away].filter s.causeHolds

/-- The lit panels, counted. -/
def Ilg.litCount (g : Ilg) : Nat := (if g.phaseLeft = .lit then 1 else 0) + (if g.phaseRight = .lit then 1 else 0)

/-- R118, R119: the output goes dark; a lit panel's light stops and is counted, and no later pulse is given in this
frame period. -/
def State.enterDark (s : State) : State :=
  ((s.addCount .illumPulsesCut s.ilg.litCount).bump .illumDarkEntries).modIlg fun g =>
    { g with output := .dark, phaseLeft := .over, phaseRight := .over }

/-- R118: the output state after a change of a dark cause. -/
def State.judgeDark (s : State) : State :=
  if s.darkCauses.isEmpty then
    if s.ilg.output = .dark then s.modIlg fun g => { g with output := .resuming } else s
  else if s.ilg.output = .dark then s
  else s.enterDark

/-- R114: the cap of a shed level, in per cent. -/
def Level.capPercent : Level → Nat
  | .l0 => 100
  | .l1 => 75
  | .l2 => 50
  | .l3 => 0

/-- R114: the capped width. -/
def cappedWidth (l : Level) (w : Nat) : Nat := w * l.capPercent / 100

/-- R115: a pulse fitted to the guard limit `g`. -/
def fitPulse (g : Nat) (p : Pulse) : Pulse :=
  if p.offset + p.width ≤ g then p else if p.offset < g then ⟨p.offset, g - p.offset⟩ else ⟨g, 0⟩

/-- R115: 1 when the fit lowers the width. -/
def guardCut (g : Nat) (p : Pulse) : Nat := if (fitPulse g p).width < p.width then 1 else 0

/-- R116: whether interleave is in force at a copy. -/
def interleaveAt (request : Bool) (l : Level) : Bool := request || l != .l0

/-- The left pulse before the guard. -/
def leftCapped (staged : PulseSet) (l : Level) : Pulse := ⟨staged.left.offset, cappedWidth l staged.left.width⟩

/-- The right pulse before the guard: at its requested offset, or after the left pulse (R116). -/
def rightCapped (staged : PulseSet) (request : Bool) (l : Level) (g : Nat) : Pulse :=
  let left := fitPulse g (leftCapped staged l)
  ⟨if interleaveAt request l then left.offset + left.width + Config.interleaveGap else staged.right.offset,
   cappedWidth l staged.right.width⟩

/-- R113 to R116: the active set formed by the copy. -/
def copyPulses (staged : PulseSet) (request : Bool) (l : Level) (period : Nat) : PulseSet :=
  let g := period - Config.guardTime
  ⟨fitPulse g (leftCapped staged l), fitPulse g (rightCapped staged request l g)⟩

/-- R115: the guard cuts of a copy. -/
def copyCuts (staged : PulseSet) (request : Bool) (l : Level) (period : Nat) : Nat :=
  let g := period - Config.guardTime
  guardCut g (leftCapped staged l) + guardCut g (rightCapped staged request l g)

/-- R113: the copy at a blank start. -/
def State.copyAtBlank (s : State) : State :=
  let g := s.ilg
  let l := s.pmg.level
  let period := s.fst.profile.period
  (s.addCount .illumGuardCuts (copyCuts g.staged g.interleaveRequest l period)).modIlg fun g =>
    { g with
      active := copyPulses g.staged g.interleaveRequest l period
      interleaved := interleaveAt g.interleaveRequest l
      levelAtCopy := some l }

/-- A pulse of width 0 does not light its panel (R111). -/
def Pulse.phase (p : Pulse) : PulsePhase := if p.width = 0 then .over else .toCome

/-- R120: the output at a blank start, judged after the copy and the selection. DESIGN CHOICE 71: a panel still lit here, which R111
rules out while the schedule has the period that the copy guarded by, ends its lit interval uncounted where the output stays
EMITTING. -/
def State.outputAtBlank (s : State) : State :=
  if s.darkCauses.isEmpty then
    s.modIlg fun g =>
      { g with output := .emitting, periodStart := some s.lt, phaseLeft := g.active.left.phase,
               phaseRight := g.active.right.phase }
  else
    s.judgeDark.modIlg fun g => { g with periodStart := some s.lt, phaseLeft := .over, phaseRight := .over }

/-- The active pulse of a panel. -/
def PulseSet.side (p : PulseSet) : Side → Pulse
  | .left => p.left
  | .right => p.right

/-- The phase of a panel. -/
def Ilg.phase (g : Ilg) : Side → PulsePhase
  | .left => g.phaseLeft
  | .right => g.phaseRight

/-- Replace the phase of a panel. -/
def Ilg.setPhase (g : Ilg) (x : Side) (ph : PulsePhase) : Ilg :=
  match x with
  | .left => { g with phaseLeft := ph }
  | .right => { g with phaseRight := ph }

/-- The counter of a panel's pulses. -/
def pulseCounter : Side → Counter
  | .left => .illumPulsesLeft
  | .right => .illumPulsesRight

/-- R111: whether a panel's lit interval begins now. -/
def State.pulseBegins (s : State) (x : Side) : Bool :=
  match s.ilg.periodStart with
  | none => false
  | some b => s.ilg.output == .emitting && s.ilg.phase x == .toCome && decide (b + (s.ilg.active.side x).offset ≤ s.lt)

/-- R111: whether a panel's lit interval has run to its end. -/
def State.pulseEnds (s : State) (x : Side) : Bool :=
  match s.ilg.periodStart with
  | none => false
  | some b =>
    s.ilg.phase x == .lit &&
      decide (b + (s.ilg.active.side x).offset + (s.ilg.active.side x).width ≤ s.lt)

/-- ILLUM_PULSE_START (R111). -/
def execIllumPulseStart (x : Side) (s : State) : Host.Outcome State Fault Refusal :=
  .next (if s.pulseBegins x then s.modIlg fun g => g.setPhase x .lit else s)

/-- ILLUM_PULSE_END (R111). -/
def execIllumPulseEnd (x : Side) (s : State) : Host.Outcome State Fault Refusal :=
  .next (if s.pulseEnds x then (s.bump (pulseCounter x)).modIlg fun g => g.setPhase x .over else s)

/-- R112: the staged set and the interleave request are replaced whole. -/
def stage (payload : List Byte) (s : State) : Answer :=
  match parsePulses payload with
  | none => .plain s .badArgument
  | some (set, inter) => .ok (s.modIlg fun g => { g with staged := set, interleaveRequest := inter }) []

/-- STAGE_PULSES (R112). -/
def execStagePulses (p : Port) (tag : Byte) (payload : List Byte) (s : State) :
    Host.Outcome State Fault Refusal :=
  .next (s.request .stagePulses p tag payload (stage payload))

end Sys2Proof.Machine
end

