-- ==== Sys2Proof/Machine/Runner.lean ====
section
/-!
DEFINITION. The procedure runner's own operations: the ending of a procedure (R170), and what it does with the samples
and state changes the MSU reports (R174, R175, R180).
-/

namespace Sys2Proof.Machine

/-- The kind of a running procedure. -/
def Work.kind : Work → ProcKind
  | .biasCal .. => .biasCal
  | .cable .. => .cableMeasure
  | .sync .. => .sensorSync
  | .store .. => .writeStore

/-- R170: the running procedure ends: the record is replaced, the runner is IDLE, PROC_DONE is raised. -/
def State.endProc (s : State) (r : ProcResult) (values : List ProcValue) : State :=
  match s.prr.running with
  | none => s
  | some q =>
    (s.modPrr fun x =>
      { x with
        running := none
        result := some ⟨q.work.kind, q.run, r, q.acceptedAt, s.lt, values⟩ }).raise .procDone

/-- Whether a sensor is in a target set. -/
def Targets.has (t : Targets) : Sensor → Bool
  | .a => t.a
  | .b => t.b

/-- The targets in the order A then B. -/
def Targets.list (t : Targets) : List Sensor := (if t.a then [.a] else []) ++ (if t.b then [.b] else [])

/-- Whether the running procedure is a BIAS_CAL or a SENSOR_SYNC that names the IMU. -/
def Prr.watches (q : Prr) (x : Sensor) : Bool :=
  match q.running with
  | some ⟨_, _, .biasCal t _ _ _ _⟩ => t.has x
  | some ⟨_, _, .sync t _⟩ => t.has x
  | _ => false

/-- R175, R180: a target that leaves RUNNING ends its procedure FAILED, and the values name it. -/
def State.targetLeft (s : State) (x : Sensor) : State :=
  if s.prr.watches x then s.endProc .failed [.target x] else s

/-- An empty collection (R174). -/
def Collection.empty : Collection := ⟨0, ⟨0, 0, 0⟩, ⟨0, 0, 0⟩, ⟨0, 0, 0⟩, 0, 0⟩

/-- Axis by axis. -/
def Axes.zip (f : Int → Int → Int) (u v : Axes) : Axes := ⟨f u.x v.x, f u.y v.y, f u.z v.z⟩

/-- Axis by axis. -/
def Axes.map (f : Int → Int) (u : Axes) : Axes := ⟨f u.x, f u.y, f u.z⟩

/-- R174: a sample is collected: rates without bias and axis map, and a temperature other than −4096. -/
def Collection.add (c : Collection) (rate : Axes) (temp : Int) : Collection :=
  { count := c.count + 1
    sums := c.sums.zip (· + ·) rate
    mins := if c.count = 0 then rate else c.mins.zip min rate
    maxs := if c.count = 0 then rate else c.maxs.zip max rate
    tempSum := if temp = -4096 then c.tempSum else c.tempSum + temp
    tempCount := if temp = -4096 then c.tempCount else c.tempCount + 1 }

/-- R37, R174: a sample is handed to the PRR. -/
def State.collect (s : State) (x : Sensor) (rate : Axes) (temp : Int) : State :=
  match s.prr.running with
  | some ⟨n, at_, .biasCal t e thr ca cb⟩ =>
    if t.has x then
      s.modPrr fun q =>
        { q with
          running := some ⟨n, at_, match x with
            | .a => .biasCal t e thr (ca.add rate temp) cb
            | .b => .biasCal t e thr ca (cb.add rate temp)⟩ }
    else s
  | _ => s

end Sys2Proof.Machine
end

