-- ==== Sys2Proof/Machine/Orientation.lean ====
section
/-!
DEFINITION. Chapter 3: taking a sample (R53 to R56), primary binding and failover (R59 to R62), staleness (R63), ANCHOR
(R64, R65), the pose override and the pose (R66, R67), SET_AXIS_MAP (R58).
-/

namespace Sys2Proof.Machine

/-- The other IMU. -/
def other : Sensor → Sensor
  | .a => .b
  | .b => .a

/-- What the MSU holds of an IMU. -/
def Msu.imu (m : Msu) : Sensor → Imu
  | .a => m.a
  | .b => m.b

/-- Replace what the MSU holds of an IMU. -/
def Msu.setImu (m : Msu) (x : Sensor) (i : Imu) : Msu :=
  match x with
  | .a => { m with a := i }
  | .b => { m with b := i }

/-- Whether an IMU is RUNNING. -/
def State.imuRunning (s : State) (x : Sensor) : Bool := (s.msu.imu x).state == .running

/-! ### Staleness (R63) -/

/-- R63: the ring is empty or its newest entry is more than 50,000 µs old. -/
def State.poseIsStale (s : State) : Bool :=
  match s.oin.ring.getLast? with
  | none => true
  | some e => decide (e.time + Config.staleAge < s.lt)

/-- POSE_STALE follows the ring. -/
def State.followStale (s : State) : State := s.follow .poseStale s.poseIsStale

/-! ### Binding (R59 to R62) -/

/-- R60, R62: the binding moves to an IMU. -/
def State.bind (s : State) (x : Sensor) : State :=
  s.modOin fun o =>
    { o with
      primary := x
      residues := .zero
      lastTime := none
      failoverPending := false
      satRun := 0
      silenceAt := if s.imuRunning x then some (s.lt + Config.silenceLimit) else none }

/-- R60: a failover. -/
def State.failover (s : State) : State :=
  ((s.bind (other s.oin.primary)).bump .imuFailovers).raise .imuFailover

/-- R60: a failure of the primary is taken. -/
def State.primaryFails (s : State) : State :=
  if s.imuRunning (other s.oin.primary) then s.failover
  else s.modOin fun o => { o with failoverPending := true }

/-- R59, R61: the primary leaves RUNNING. -/
def State.primaryLeft (s : State) (x : Sensor) : State :=
  if s.oin.primary = x then s.modOin fun o => { o with silenceAt := none, lastTime := none } else s

/-- R59, R60, R61: the MSU reports that an IMU has entered RUNNING. -/
def State.reportRunning (s : State) (x : Sensor) : State :=
  if s.oin.primary = x then
    s.modOin fun o => { o with silenceAt := some (s.lt + Config.silenceLimit), lastTime := none }
  else if s.oin.failoverPending then s.failover
  else s

/-- R59: the MSU reports that an IMU has entered FAULT. -/
def State.reportFault (s : State) (x : Sensor) : State :=
  if s.oin.primary = x then (s.primaryLeft x).primaryFails else s

/-- R60, R61: the MSU reports that an IMU has entered OFF. -/
def State.reportOff (s : State) (x : Sensor) : State :=
  if s.oin.primary = x then (s.primaryLeft x).modOin fun o => { o with failoverPending := false } else s

/-! ### Taking a sample (R53 to R56) -/

/-- The corrected rate of an axis of the sensor. -/
def AxisName.pick (n : AxisName) (u : Axes) : Int :=
  match n with
  | .x => u.x
  | .y => u.y
  | .z => u.z

/-- R54: an entry of the axis map applied. -/
def AxisEntry.pick (e : AxisEntry) (u : Axes) : Int := if e.minus then -(e.source.pick u) else e.source.pick u

/-- An IMU's entry of the bias table. -/
def Oin.bias (o : Oin) : Sensor → BiasEntry
  | .a => o.biasA
  | .b => o.biasB

/-- R54: the corrected rates. -/
def Oin.corrected (o : Oin) (x : Sensor) (rate : Axes) : Angles :=
  let c := rate.zip (fun r b => clampInt (-65535) 65535 (r - b)) (o.bias x).bias
  ⟨o.axisMap.yaw.pick c, o.axisMap.pitch.pick c, o.axisMap.roll.pick c⟩

/-- R55: the interval of a sample at local time `t`. -/
def Oin.interval (o : Oin) (t : Nat) : Int :=
  match o.lastTime with
  | none => 0
  | some u => clampInt 0 20000 ((t : Int) - u)

/-- R55: n = ω × dt + residue. -/
def integrand (rate residue dt : Int) : Int := rate * dt + residue

/-- R55: the angle after integration. -/
def turned (angle n : Int) : Int := wrapAngle (angle + n / 15625)

/-- R55: the residue after integration. -/
def leftOver (n : Int) : Int := n - 15625 * (n / 15625)

/-- R55, R56: a primary sample is integrated and its history entry appended; the oldest entry of a full ring goes. -/
def Oin.integrate (o : Oin) (x : Sensor) (t : Nat) (rate : Axes) : Oin :=
  let w := o.corrected x rate
  let dt := o.interval t
  let ny := integrand w.yaw o.residues.yaw dt
  let np := integrand w.pitch o.residues.pitch dt
  let nr := integrand w.roll o.residues.roll dt
  let angles : Angles := ⟨turned o.angles.yaw ny, turned o.angles.pitch np, turned o.angles.roll nr⟩
  { o with
    angles := angles
    residues := ⟨leftOver ny, leftOver np, leftOver nr⟩
    lastTime := some t
    rates := w
    ring := (if Config.ringMax ≤ o.ring.length then o.ring.drop (o.ring.length + 1 - Config.ringMax) else o.ring) ++
      [⟨t, angles, w⟩] }

/-- R59: the failure tests of a primary sample. -/
def State.testSample (s : State) (saturated : Bool) : State :=
  let s := s.modOin fun o => { o with silenceAt := some (s.lt + Config.silenceLimit) }
  if saturated then
    if 10 ≤ s.oin.satRun + 1 then (s.modOin fun o => { o with satRun := 0 }).primaryFails
    else s.modOin fun o => { o with satRun := o.satRun + 1 }
  else s.modOin fun o => { o with satRun := 0, failoverPending := false }

/-- R53: the OIN takes a sample; one of the IMU that is not the primary is discarded. -/
def State.takeSample (s : State) (x : Sensor) (t : Nat) (rate : Axes) (saturated : Bool) : State :=
  if s.oin.primary = x then ((s.modOin fun o => o.integrate x t rate).followStale).testSample saturated else s

/-! ### ANCHOR (R64, R65) -/

/-- The distance of an entry from the local anchor time. -/
def HistoryEntry.distance (e : HistoryEntry) (t : Int) : Nat := (e.time - t).natAbs

/-- R64: the entry nearest `t`, of two equally near the newer (the later in the ring). -/
def nearest (t : Int) : HistoryEntry → List HistoryEntry → HistoryEntry
  | best, [] => best
  | best, e :: es => nearest t (if e.distance t ≤ best.distance t then e else best) es

/-- Axis by axis. -/
def Angles.zip (f : Int → Int → Int) (u v : Angles) : Angles := ⟨f u.yaw v.yaw, f u.pitch v.pitch, f u.roll v.roll⟩

/-- R65: the correction of each axis. -/
def correction (anchor entry : Angles) : Angles := anchor.zip (fun a e => wrapAngle (a - e)) entry

/-- R65: an angle triple corrected. -/
def Angles.correct (u c : Angles) : Angles := u.zip (fun a d => wrapAngle (a + d)) c

/-- R65: the current angles and the whole ring take the correction. -/
def Oin.anchor (o : Oin) (c : Angles) : Oin :=
  { o with angles := o.angles.correct c, ring := o.ring.map fun e => { e with angles := e.angles.correct c } }

/-- R64, R65: ANCHOR. -/
def anchorBy (payload : List Byte) (s : State) : Answer :=
  match parseAnchor payload with
  | none => .plain s .badArgument
  | some (t, angles) =>
    match s.oin.ring with
    | [] => .plain s .wrongState
    | oldest :: rest =>
      let local_ : Int := (t : Int) - s.tlc.offset
      if local_ < oldest.time then .plain (s.bump .anchorsTooOld) .tooOld
      else
        let e := nearest local_ oldest rest
        let c := correction angles e.angles
        .ok ((s.modOin fun o => o.anchor c).bump .anchorsTaken) (timeBytes e.time ++ c.bytes)

/-- ANCHOR (R64, R65). -/
def execAnchor (p : Port) (tag : Byte) (payload : List Byte) (s : State) : Host.Outcome State Fault Refusal :=
  .next (s.request .anchor p tag payload (anchorBy payload))

/-! ### The other requests of the chapter -/

/-- R58: SET_AXIS_MAP. -/
def mapAxes (payload : List Byte) (s : State) : Answer :=
  match parseAxisMap payload with
  | none => .plain s .badArgument
  | some m =>
    .ok (s.modOin fun o =>
      { o with axisMap := m, ring := [], residues := .zero, lastTime := none, rates := .zero }).followStale []

/-- SET_AXIS_MAP (R58). -/
def execSetAxisMap (p : Port) (tag : Byte) (payload : List Byte) (s : State) : Host.Outcome State Fault Refusal :=
  .next (s.request .setAxisMap p tag payload (mapAxes payload))

/-- R62: SELECT_PRIMARY. -/
def select (payload : List Byte) (s : State) : Answer :=
  match parseSensor payload with
  | none => .plain s .badArgument
  | some x =>
    if !s.imuRunning x then .plain s .wrongState
    else if s.oin.primary = x then .ok (s.modOin fun o => { o with failoverPending := false }) []
    else .ok (s.bind x) []

/-- SELECT_PRIMARY (R62). -/
def execSelectPrimary (p : Port) (tag : Byte) (payload : List Byte) (s : State) :
    Host.Outcome State Fault Refusal :=
  .next (s.request .selectPrimary p tag payload (select payload))

/-- R66: SET_POSE_OVERRIDE. -/
def setPose (payload : List Byte) (s : State) : Answer :=
  match parsePose payload with
  | none => .plain s .badArgument
  | some a => .ok (s.modOin fun o => { o with pose := some a }) []

/-- SET_POSE_OVERRIDE (R66). -/
def execSetPoseOverride (p : Port) (tag : Byte) (payload : List Byte) (s : State) :
    Host.Outcome State Fault Refusal :=
  .next (s.request .setPoseOverride p tag payload (setPose payload))

/-- CLEAR_POSE_OVERRIDE (R66). -/
def execClearPoseOverride (p : Port) (tag : Byte) (payload : List Byte) (s : State) :
    Host.Outcome State Fault Refusal :=
  .next (s.request .clearPoseOverride p tag payload
    (withoutArgs payload fun s => .ok (s.modOin fun o => { o with pose := none }) []))

/-! ### Timed rows -/

/-- Whether a timer has reached its expiry. -/
def State.expired (s : State) (t : Option Nat) : Bool :=
  match t with
  | some e => decide (e ≤ s.lt)
  | none => false

/-- SILENCE_WATCH_EXPIRY (R59). -/
def execSilenceWatchExpiry (s : State) : Host.Outcome State Fault Refusal :=
  .next (if s.expired s.oin.silenceAt then (s.modOin fun o => { o with silenceAt := none }).primaryFails else s)

/-- POSE_STALE (R63). -/
def execPoseStale (s : State) : Host.Outcome State Fault Refusal := .next s.followStale

end Sys2Proof.Machine
end

