-- ==== Sys2Proof/Machine/Motion.lean ====
section
/-!
DEFINITION. Chapter 2: IMU states (R28 to R33), the sample scheduler (R34, R35), motion records and their queue (R36 to
R41), the wear sensor (R42 to R46), SET_WEAR and SET_SENSOR_RATE (R47, R48).
-/

namespace Sys2Proof.Machine

/-! ### IMU states -/

/-- Whether the link is in SLEEP. -/
def State.asleep (s : State) : Bool := s.tlc.link == .sleep

/-- 2.2: an IMU is enabled when the SENSOR rail is ON and the link is not in SLEEP. -/
def State.imuEnabled (s : State) : Bool := s.pmg.rails.sensor == .on && !s.asleep

/-- Change what the MSU holds of an IMU. -/
def State.modImu (s : State) (x : Sensor) (f : Imu → Imu) : State := s.modMsu fun m => m.setImu x (f (m.imu x))

/-- The live condition of an IMU (R32). -/
def imuFault : Sensor → Condition
  | .a => .imuFaultA
  | .b => .imuFaultB

/-- The fault counter of an IMU (R32). -/
def imuFaults : Sensor → Counter
  | .a => .imuFaultsA
  | .b => .imuFaultsB

/-- The read failure counter of an IMU (R35). -/
def readFailures : Sensor → Counter
  | .a => .sampleReadFailuresA
  | .b => .sampleReadFailuresB

/-- R30: an IMU enters STARTING; its consecutive failure count is set to zero (R28). -/
def State.enterStarting (s : State) (x : Sensor) : State :=
  s.modImu x fun i => { i with state := .starting .reset s.lt, fails := 0 }

/-- R29: an IMU in OFF enters STARTING when it becomes enabled. -/
def State.startImu (s : State) (x : Sensor) : State :=
  if s.imuEnabled && (s.msu.imu x).state == .off then s.enterStarting x else s

/-- R29 for both IMUs. -/
def State.startImus (s : State) : State := (s.startImu .a).startImu .b

/-- R30, R32, R33: an IMU enters RUNNING and is no longer fault-held. DESIGN CHOICE 74: its IMU_FAULT clears before IMU_FAILOVER is
raised, where its entry resolves a pending failover (R60). -/
def State.enterRunning (s : State) (x : Sensor) : State :=
  ((s.modImu x fun i => { i with state := .running, faultHeld := false }).lower (imuFault x)).reportRunning x

/-- R32, R38, R41: the MSU's own part of an entry into FAULT. -/
def Imu.toFault (i : Imu) (retryAt : Nat) : Imu :=
  { i with
    state := .fault retryAt
    fails := 0
    gapPending := i.gapPending || i.state == .running
    syncAt := none
    syncPending := false
    faultHeld := true }

/-- R32, R33: an IMU enters FAULT; the OIN and the PRR are told. DEDUCED 53: IMU_FAULT_A or IMU_FAULT_B is raised first, then
the OIN acts, with IMU_FAILOVER where this is a failover (R60), then the PRR, with PROC_DONE where the IMU is a target (R175,
R180). -/
def State.enterFault (s : State) (x : Sensor) : State :=
  let wasRunning := s.imuRunning x
  let s := s.modImu x fun i => i.toFault (s.lt + Config.imuRetry)
  let s := ((s.bump (imuFaults x)).raise (imuFault x)).reportFault x
  if wasRunning then s.targetLeft x else s

/-- R29: the MSU's own part of an entry into OFF. -/
def Imu.toOff (i : Imu) : Imu :=
  { i with
    state := .off
    fails := 0
    gapPending := i.gapPending || i.state == .running
    syncAt := none
    syncPending := false
    faultHeld := false }

/-- R29, R33: an IMU enters OFF; the OIN and the PRR are told. -/
def State.enterOff (s : State) (x : Sensor) : State :=
  if (s.msu.imu x).state = .off then s
  else
    let wasRunning := s.imuRunning x
    let s := ((s.modImu x Imu.toOff).lower (imuFault x)).reportOff x
    if wasRunning then s.targetLeft x else s

/-! ### The scheduler (R34, R35) -/

/-- R34: the ceiling of a shed level, in Hz. -/
def Level.rateCeiling : Level → Nat
  | .l0 | .l1 => 1000
  | .l2 | .l3 => 500

/-- R34: the effective rate. -/
def State.effectiveRate (s : State) : Nat := min s.msu.requestedRate s.pmg.level.rateCeiling

/-- R34: the effective period in µs. -/
def State.period (s : State) : Nat := 1000000 / s.effectiveRate

/-- Whether a read of an IMU is in progress. -/
def Msu.busy (m : Msu) (x : Sensor) : Bool :=
  m.ticks.any fun t => t.reads.any fun r => r.sensor == x && r.status == .inProgress

/-- R38: whether the sync hold of an IMU ends at a tick. -/
def Imu.syncDue (i : Imu) (t : Nat) : Bool :=
  match i.syncAt with
  | some u => decide (u ≤ t)
  | none => false

/-- R35, R38: the MSU starts a read with an IMU that is RUNNING, not in sync hold, and not being read. -/
def Msu.startsRead (m : Msu) (x : Sensor) (t : Nat) : Bool :=
  (m.imu x).state == .running && ((m.imu x).syncAt.isNone || (m.imu x).syncDue t) && !m.busy x

/-- R35: the reads that a tick starts with one IMU. -/
def Msu.readsOf (m : Msu) (x : Sensor) (t : Nat) : List Read :=
  if m.startsRead x t then [⟨x, (m.imu x).seq + 1, (m.imu x).syncDue t, .inProgress⟩] else []

/-- R35, R38: what a tick does to one IMU: the sequence advances with a read, a sync hold ends at its tick. -/
def Msu.tickImu (m : Msu) (x : Sensor) (t : Nat) : Imu :=
  let i := m.imu x
  { i with
    seq := if m.startsRead x t then i.seq + 1 else i.seq
    syncAt := if i.syncDue t then none else i.syncAt }

/-- R34, R35: whether the present moment is a tick not yet taken. The moment of a rate change is one only where it was
a tick of the old period. -/
def State.tickDue (s : State) : Bool :=
  s.lt % s.period == 0 && s.msu.lastTick != some s.lt && s.msu.barred != some s.lt

/-- R35: a tick is taken. -/
def Msu.takeTick (m : Msu) (t : Nat) : Msu :=
  let reads := m.readsOf .a t ++ m.readsOf .b t
  { m with
    a := m.tickImu .a t
    b := m.tickImu .b t
    ticks := if reads.isEmpty then m.ticks else m.ticks ++ [⟨t, reads⟩]
    lastTick := some t }

/-- SAMPLE_TICK (R35). -/
def execSampleTick (s : State) : Host.Outcome State Fault Refusal :=
  .next (if s.tickDue then s.modMsu fun m => m.takeTick s.lt else s)

/-! ### Records and the motion queue (R36 to R41) -/

/-- R36: a raw value at its limit. -/
def rawLimit (v : Int) : Bool := v == 32767 || v == -32767 || v == -32768

/-- R36: SATURATED. -/
def dataSaturated (d : ImuData) : Bool :=
  rawLimit d.rateX || rawLimit d.rateY || rawLimit d.rateZ || rawLimit d.forceX || rawLimit d.forceY ||
    rawLimit d.forceZ

/-- R36: the rates in RU, raw counts times 2. -/
def dataRates (d : ImuData) : Axes := ⟨2 * d.rateX, 2 * d.rateY, 2 * d.rateZ⟩

/-- R36: the temperature, −4096 when not yet valid. -/
def dataTemp (d : ImuData) : Int := d.temp.getD (-4096)

/-- The oldest record of a sensor takes GAP (R40). -/
def gapOldest (x : Sensor) : List MotionRecord → List MotionRecord
  | [] => []
  | r :: rs => if r.sensor = x then { r with gap := true } :: rs else r :: gapOldest x rs

/-- The oldest record takes TIME_STEP if the removed one carried it (R19, R40). -/
def stepOldest (carried : Bool) : List MotionRecord → List MotionRecord
  | [] => []
  | r :: rs => { r with timeStep := r.timeStep || carried } :: rs

/-- R40: the queue after a record of a full queue is removed and the new one appended. -/
def overflowed (old : MotionRecord) (rest : List MotionRecord) (r : MotionRecord) : List MotionRecord :=
  gapOldest old.sensor (stepOldest old.timeStep (rest ++ [r]))

/-- R22, R40, R140: a block removed by overflow while it is in transmission is cut off. -/
def State.cutIf (s : State) (x : Transmission) : State :=
  if s.tlc.tx = some x then s.modTlc fun t => { t with tx := none } else s

/-- R39, R40: a record enters the motion queue. -/
def State.enqueueRecord (s : State) (r : MotionRecord) : State :=
  if s.msu.queue.length < Config.motionQueueMax then
    (s.modMsu fun m => { m with queue := m.queue ++ [r] }).opportunity
  else
    match s.msu.queue with
    | [] => s
    | old :: rest =>
      let q := overflowed old rest r
      let s := s.modMsu fun m => { m with queue := q }
      let s :=
        if q.any (fun m => m.sensor == old.sensor) then s
        else s.modImu old.sensor fun i => { i with gapPending := true }
      (((s.cutIf .motion).bump .motionQueueDrops).raise .queueDrop).opportunity

/-- R36: the record of a succeeded read at its tick's completion. -/
def State.recordOf (s : State) (t : Nat) (r : Read) (d : ImuData) : MotionRecord :=
  { sensor := r.sensor, seq := r.seq, time := t + s.tlc.offset, rate := dataRates d,
    force := ⟨d.forceX, d.forceY, d.forceZ⟩, temp := dataTemp d, saturated := dataSaturated d,
    gap := (s.msu.imu r.sensor).gapPending, timeStep := s.tlc.stepMotion, freeTime := s.tlc.basis == .free,
    syncMark := r.sync || (s.msu.imu r.sensor).syncPending }

/-- R36, R37, R41: a record is created and queued, and takes the marks. DESIGN CHOICE 67: SATURATION is raised before the record
is queued, which may raise QUEUE_DROP, and one record is done with before the next of the completion. -/
def State.makeRecord (s : State) (t : Nat) (r : Read) (d : ImuData) : State :=
  let m := s.recordOf t r d
  let s := s.modImu r.sensor fun i => { i with gapPending := false, syncPending := false }
  let s := s.modTlc fun c => { c with stepMotion := false }
  let s := if m.saturated then (s.bump .saturatedSamples).raise .saturation else s
  s.enqueueRecord m

/-- R37: a sample is handed to the OIN, and to the PRR while a BIAS_CAL runs. -/
def State.handSample (s : State) (t : Nat) (r : Read) (d : ImuData) : State :=
  (s.takeSample r.sensor t (dataRates d) (dataSaturated d)).collect r.sensor (dataRates d) (dataTemp d)

/-- R36, R38: the order in which a tick's records are queued: at a sync tick its targets in descending order first. -/
def Tick.order (t : Tick) : List Read := (t.reads.filter (·.sync)).reverse ++ t.reads.filter (fun r => !r.sync)

/-- Do something for each succeeded read. -/
def eachSucceeded (f : State → Read → ImuData → State) (rs : List Read) (s : State) : State :=
  rs.foldl (fun s r => match r.status with
    | .succeeded d => f s r d
    | _ => s) s

/-- R180: the outcome of a target at the sync tick, none when it was not read there to an end. -/
def Tick.outcome (t : Tick) (x : Sensor) : Option ProcValue :=
  match t.reads.find? (fun r => r.sensor == x && r.sync) with
  | some ⟨_, _, _, .succeeded _⟩ => some .recorded
  | some ⟨_, _, _, .failed⟩ => some .pendingMark
  | _ => none

/-- R180: SENSOR_SYNC ends DONE at the completion of its sync tick with every target read there. -/
def State.syncDone (s : State) (t : Tick) : State :=
  match s.prr.running with
  | some ⟨_, _, .sync targets tick⟩ =>
    if tick = t.time ∧ targets.list.all (fun x => (t.outcome x).isSome) then
      s.endProc .done (.time tick :: targets.list.filterMap t.outcome)
    else s
  | _ => s

/-- Whether the read of a sensor at the tick failed. -/
def Tick.failed (t : Tick) (x : Sensor) : Bool := t.reads.any fun r => r.sensor == x && r.status == .failed

/-- R41: the law of the queue. A failed read sets the gap-pending mark when it ends (R35); a record of an earlier tick that
completes later may take that mark, so the mark is set again at the completion of the read's own tick (DEDUCED 51). -/
def State.markGaps (s : State) (t : Tick) : State :=
  let mark (x : Sensor) (i : Imu) : Imu := { i with gapPending := i.gapPending || t.failed x }
  (s.modImu .a (mark .a)).modImu .b (mark .b)

/-- R36, R37, R41, R180: the completion of a tick: its records, then its samples (R53), then the end of a SENSOR_SYNC (DESIGN
CHOICE 67: PROC_DONE is raised last). -/
def State.finishTick (s : State) (t : Tick) : State :=
  let s := s.markGaps t
  let s := eachSucceeded (fun s r d => s.makeRecord t.time r d) t.order s
  let s := eachSucceeded (fun s r d => s.handSample t.time r d) t.order s
  s.syncDone t

/-- R35: every read of the tick has ended. -/
def Tick.ended (t : Tick) : Bool := t.reads.all fun r => r.status != .inProgress

/-- R35: ticks complete in order, each when its reads have ended and every earlier tick has completed. -/
def State.completeTicks (s : State) : State :=
  (s.msu.ticks.takeWhile Tick.ended).foldl State.finishTick
    (s.modMsu fun m => { m with ticks := m.ticks.dropWhile Tick.ended })

/-- The read in progress with a sensor ends. -/
def Tick.endRead (x : Sensor) (st : ReadStatus) (t : Tick) : Tick :=
  { t with reads := t.reads.map fun r => if r.sensor = x ∧ r.status = .inProgress then { r with status := st } else r }

/-- Whether the read in progress with a sensor is a sync-tick read (R38). -/
def Msu.busySync (m : Msu) (x : Sensor) : Bool :=
  m.ticks.any fun t => t.reads.any fun r => r.sensor == x && r.status == .inProgress && r.sync

/-- R28, R31, R35, R38: a failed sample read. DEDUCED 62: the pending sync mark of a sync-tick read is set when the read fails, so
that the next record created takes it, also one of an earlier tick that completes later. -/
def State.readFails (s : State) (x : Sensor) : State :=
  let sync := s.msu.busySync x
  let s := s.modMsu fun m => { m with ticks := m.ticks.map (Tick.endRead x .failed) }
  let s := (s.modImu x fun i =>
    { i with fails := i.fails + 1, gapPending := true, syncPending := i.syncPending || sync }).bump (readFailures x)
  if 3 ≤ (s.msu.imu x).fails then s.enterFault x else s

/-- R28, R35: a succeeded sample read. -/
def State.readSucceeds (s : State) (x : Sensor) (d : ImuData) : State :=
  (s.modMsu fun m => { m with ticks := m.ticks.map (Tick.endRead x (.succeeded d)) }).modImu x
    fun i => { i with fails := 0 }

/-- SAMPLE_READ_END (R35): the read ends, and its tick may complete. -/
def execSampleReadEnd (x : Sensor) (r : ReadResult) (s : State) : Host.Outcome State Fault Refusal :=
  .next (
    if s.msu.busy x then
      match r with
      | .failed => (s.readFails x).completeTicks
      | .succeeded d => (s.readSucceeds x d).completeTicks
    else s)

/-- R29: both IMUs cease to be enabled. Reads in progress are discarded, ticks that this completes are completed, then
each IMU enters OFF (DEDUCED 11: this order). -/
def State.imusOff (s : State) : State :=
  let s := s.modMsu fun m =>
    { m with ticks := m.ticks.map fun t => (t.endRead .a .discarded).endRead .b .discarded }
  ((s.completeTicks).enterOff .a).enterOff .b

/-! ### The start-up exchange (R30, R32) -/

/-- R30: the exchange goes on after a transaction that succeeded. -/
def State.startupGoesOn (s : State) (x : Sensor) (step : StartStep) (entered : Nat) (asExpected : Bool) : State :=
  let s := s.modImu x fun i => { i with fails := 0 }
  let to_ (n : StartStep) : State := s.modImu x fun i => { i with state := .starting n entered }
  match step with
  | .reset => to_ .identity
  | .identity => if asExpected then to_ .scales else s.enterFault x
  | .scales => to_ .readBack
  | .readBack => if asExpected then s.enterRunning x else s.enterFault x

/-- IMU_STARTUP_TRANSACTION (R30). -/
def execImuStartupTransaction (x : Sensor) (r : StartupResult) (s : State) : Host.Outcome State Fault Refusal :=
  .next (
    match (s.msu.imu x).state, r with
    | .starting .., .failed =>
      let s := s.modImu x fun i => { i with fails := i.fails + 1 }
      if 3 ≤ (s.msu.imu x).fails then s.enterFault x else s
    | .starting step entered, .succeeded ok => s.startupGoesOn x step entered ok
    | _, _ => s)

/-- IMU_STARTUP_TIMEOUT (R30). -/
def execImuStartupTimeout (x : Sensor) (s : State) : Host.Outcome State Fault Refusal :=
  .next (
    match (s.msu.imu x).state with
    | .starting _ entered => if entered + Config.startupLimit ≤ s.lt then s.enterFault x else s
    | _ => s)

/-- IMU_RETRY_EXPIRY (R32). -/
def execImuRetryExpiry (x : Sensor) (s : State) : Host.Outcome State Fault Refusal :=
  .next (
    match (s.msu.imu x).state with
    | .fault retryAt => if retryAt ≤ s.lt then s.enterStarting x else s
    | _ => s)

/-! ### Rate -/

/-- R34, R179: what follows a change of effective period, whatever made it (SET_SENSOR_RATE, a shed level, the store load, RESTART):
the moment of it is no tick unless it was one of the old period (DEDUCED 47), and it re-forms a sync tick not yet reached, in the MSU and in the PRR (DESIGN CHOICE 12: also where the procedure has ended
and a target is still held). -/
def State.reformSync (s : State) (oldPeriod : Nat) : State :=
  if s.period = oldPeriod then s
  else
    let s := s.modMsu fun m => { m with barred := if s.lt % oldPeriod = 0 then m.barred else some s.lt }
    let held (x : Sensor) : Bool := (s.msu.imu x).syncAt.isSome
    let s := s.modPrr fun q =>
      match q.running with
      | some ⟨n, at_, .sync t tick⟩ =>
        if t.list.any held then { q with running := some ⟨n, at_, .sync t (ceilTo s.period tick)⟩ } else q
      | _ => q
    (s.modImu .a fun i => { i with syncAt := i.syncAt.map (ceilTo s.period) }).modImu .b
      fun i => { i with syncAt := i.syncAt.map (ceilTo s.period) }

/-- R48: SET_SENSOR_RATE. -/
def setRate (payload : List Byte) (s : State) : Answer :=
  match parseRate payload with
  | none => .plain s .badArgument
  | some r => .ok ((s.modMsu fun m => { m with requestedRate := r }).reformSync s.period) []

/-- SET_SENSOR_RATE (R48). -/
def execSetSensorRate (p : Port) (tag : Byte) (payload : List Byte) (s : State) :
    Host.Outcome State Fault Refusal :=
  .next (s.request .setSensorRate p tag payload (setRate payload))

/-! ### The wear sensor (R42 to R47) -/

/-- R45: the wear state changes; both counts are set to zero (R43). -/
def State.changeWear (s : State) (w : Wear) : State :=
  (((s.modMsu fun m => { m with wear := w, wornCount := 0, removedCount := 0 }).bump .wearChanges).raise
    .wearChange).judgeDark

/-- R44: the local time at which the away timer expires, if it runs. -/
def Msu.awayAt (m : Msu) : Option Nat :=
  match m.wear with
  | .removed since => some (since + m.awayTime * 1000000)
  | _ => none

/-- R44: the away timer expires. -/
def State.awayExpires (s : State) : State := if s.expired s.msu.awayAt then s.changeWear .away else s

/-- AWAY_TIMER_EXPIRY (R44). -/
def execAwayTimerExpiry (s : State) : Host.Outcome State Fault Refusal := .next s.awayExpires

/-- R42, R47: the counts after a reading, classed by the thresholds in force when its read was started. -/
def Msu.classify (m : Msu) (reading : Nat) : Msu :=
  if m.readWorn ≤ reading then { m with wornCount := min 10 (m.wornCount + 1), removedCount := 0 }
  else if reading < m.readRemoved then { m with wornCount := 0, removedCount := min 10 (m.removedCount + 1) }
  else { m with wornCount := 0, removedCount := 0 }

/-- R43: the wear state after the counts have moved. -/
def State.judgeWear (s : State) : State :=
  if s.msu.wornCount = 10 ∧ s.msu.wear ≠ .worn then s.changeWear .worn
  else if s.msu.removedCount = 10 ∧ (s.msu.wear = .unknown ∨ s.msu.wear = .worn) then s.changeWear (.removed s.lt)
  else s

/-- R42, R43: a wear read ends. -/
def State.wearRead (s : State) (r : WearResult) : State :=
  match r with
  | .failed =>
    let s := (s.modMsu fun m => { m with wearBusy := false, wearFails := m.wearFails + 1 }).bump .wearReadFailures
    if s.msu.wearFails = 50 ∧ s.msu.wear ≠ .unknown then s.changeWear .unknown else s
  | .succeeded reading =>
    (s.modMsu fun m =>
      { m.classify reading with wearBusy := false, wearFails := 0, wearReading := some reading }).judgeWear

/-- R42: whether a wear read starts now. DESIGN CHOICE 52: a multiple of 20,000 µs that falls while the earlier read is still
in progress is passed over, for one transaction is in progress with a device at a time (R28). DESIGN CHOICE 76: a multiple at which
the SENSOR rail has just reached ON starts a read (R46). -/
def State.wearTickDue (s : State) : Bool :=
  s.pmg.rails.sensor == .on && s.lt % 20000 == 0 && s.msu.lastWearTick != some s.lt && !s.msu.wearBusy

/-- R42, R47: a wear read starts, under the thresholds in force. -/
def Msu.startWearRead (m : Msu) (t : Nat) : Msu :=
  { m with wearBusy := true, lastWearTick := some t, readWorn := m.wornThreshold, readRemoved := m.removedThreshold }

/-- WEAR_READ_TICK (R42). -/
def execWearReadTick (s : State) : Host.Outcome State Fault Refusal :=
  .next (if s.wearTickDue then s.modMsu fun m => m.startWearRead s.lt else s)

/-- R46: the SENSOR rail leaves ON: the wear part. -/
def State.wearStops (s : State) : State :=
  let changed := s.msu.wear != .unknown
  let s := s.modMsu fun m =>
    { m with wornCount := 0, removedCount := 0, wearFails := 0, wearReading := none, wearBusy := false }
  if changed then s.changeWear .unknown else s

/-- R47, R44: SET_WEAR. -/
def setWear (payload : List Byte) (s : State) : Answer :=
  match parseWear payload with
  | none => .plain s .badArgument
  | some a =>
    .ok (s.modMsu fun m =>
      { m with wornThreshold := a.worn, removedThreshold := a.removed, awayTime := a.away, wornCount := 0,
               removedCount := 0 }).awayExpires []

/-- SET_WEAR (R47). -/
def execSetWear (p : Port) (tag : Byte) (payload : List Byte) (s : State) : Host.Outcome State Fault Refusal :=
  .next (s.request .setWear p tag payload (setWear payload))

end Sys2Proof.Machine
end

