-- ==== Sys2Proof/Machine/Picture.lean ====
section
/-!
DEFINITION. Chapters 4 and 5: frame slots and frame arrival (R74 to R80), scan-out and the blank schedule (R82, R83), the
blank start (R84 to R88), the late shift (R95 to R104), the scanned image (R89, R103), SET_PROFILE (R72).
-/

namespace Sys2Proof.Machine

/-! ### Slots -/

/-- The four slots in order. -/
def Slots.toList (q : Slots) : List Slot := [q.s0, q.s1, q.s2, q.s3]

/-- Change each slot. -/
def Slots.map (f : Slot → Slot) (q : Slots) : Slots := ⟨f q.s0, f q.s1, f q.s2, f q.s3⟩

/-- Change each slot, by number. -/
def Slots.mapIdx (f : Nat → Slot → Slot) (q : Slots) : Slots := ⟨f 0 q.s0, f 1 q.s1, f 2 q.s2, f 3 q.s3⟩

/-- The number of slots in a state. -/
def Slots.count (q : Slots) (x : SlotState) : Nat := q.toList.countP (fun t => t.state == x)

/-- The first slot in a state. -/
def Slots.find (q : Slots) (x : SlotState) : Option Slot := q.toList.find? (fun t => t.state == x)

/-- Change the slots in a state. -/
def Slots.change (q : Slots) (x : SlotState) (f : Slot → Slot) : Slots := q.map fun t => if t.state = x then f t else t

/-- Put a slot in place of the lowest-numbered FREE one (R76). -/
def Slots.fillLowest (q : Slots) (t : Slot) : Slots :=
  if q.s0.state = .free then { q with s0 := t }
  else if q.s1.state = .free then { q with s1 := t }
  else if q.s2.state = .free then { q with s2 := t }
  else if q.s3.state = .free then { q with s3 := t }
  else q

/-- Change the slots. -/
def State.modSlots (s : State) (f : Slots → Slots) : State := s.modFst fun x => { x with slots := f x.slots }

/-- R79: the FILLING slot is abandoned; with none FILLING nothing happens. -/
def State.abandon (s : State) : State :=
  if 0 < s.fst.slots.count .filling then
    ((s.modSlots fun q => q.change .filling fun _ => .empty).bump .framesDamaged).raise .frameDamaged
  else s

/-! ### Frame arrival (R75 to R78) -/

/-- R75: why a FRAME_BEGIN is refused, by the counter it increments; the causes in their order. -/
def Fst.refusal (f : Fst) (b : FrameBegin) : Option Counter :=
  if b.pose.any (fun a => !a.ok) then some .framesRefusedMalformed
  else if f.newest.any (fun n => !frameGreater b.frame n) then some .framesRefusedOrder
  else if f.slots.toList.any (fun t =>
      (t.state == .ready || t.state == .showing) && !frameGreater b.frame t.frame) then some .framesRefusedOrder
  else if f.slots.count .free = 0 then some .framesRefusedFull
  else none

/-- R76: the record of a slot that begins to fill. -/
def FrameBegin.slot (b : FrameBegin) : Slot :=
  { state := .filling, frame := b.frame, pose := b.pose, renderTime := b.renderTime, left := [], right := [],
    repeats := 0, unposed := b.pose.isNone, clamped := false }

/-- R75, R76: a FRAME_BEGIN is taken; none is one too short (R213). -/
def State.frameBegin (s : State) (block : Option FrameBegin) : State :=
  match block with
  | none => (s.bump .framesRefusedMalformed).raise .frameRefused
  | some b =>
    match s.fst.refusal b with
    | some c => (s.bump c).raise .frameRefused
    | none =>
      ((s.abandon).modFst fun f =>
        { f with slots := f.slots.fillLowest b.slot, newest := some b.frame }).bump .framesAccepted

/-- Write one row; a row written again takes the later pixels (R77). -/
def insertRow (n : Nat) (px : List Byte) : EyeRows → EyeRows
  | [] => [(n, px)]
  | (m, q) :: rs => if n < m then (n, px) :: (m, q) :: rs else if n = m then (n, px) :: rs else (m, q) :: insertRow n px rs

/-- Write consecutive rows from their pixels. -/
def insertRows (rowBytes : Nat) : Nat → Nat → List Byte → EyeRows → EyeRows
  | _, 0, _, e => e
  | first, n + 1, px, e => insertRows rowBytes (first + 1) n (px.drop rowBytes) (insertRow first (px.take rowBytes) e)

/-- R77: a LINES block for the FILLING frame that is malformed. -/
def LinesBlock.malformed (b : LinesBlock) (f : Profile) : Bool :=
  decide (1 < b.eye) || b.rows == 0 || decide (f.rows < b.first + b.rows) ||
    b.pixels.length != b.rows * f.columns * 3

/-- R77: the rows of a LINES block written into a slot. -/
def LinesBlock.write (b : LinesBlock) (columns : Nat) (t : Slot) : Slot :=
  if b.eye = 0 then { t with left := insertRows (columns * 3) b.first b.rows b.pixels t.left }
  else { t with right := insertRows (columns * 3) b.first b.rows b.pixels t.right }

/-- Whether a slot is FILLING a given frame. -/
def Slot.fills (t : Slot) (n : FrameNo) : Bool := t.state == .filling && t.frame == n

/-- R77, R213: a LINES block is taken. -/
def State.lines (s : State) (block : Option LinesBlock) : State :=
  match block with
  | none => s.bump .pictureStrayBlocks
  | some b =>
    if s.fst.slots.toList.any (fun t => t.fills b.frame) then
      if b.malformed s.fst.profile then s.bump .linesMalformed
      else s.modSlots fun q => q.map fun t => if t.fills b.frame then b.write s.fst.profile.columns t else t
    else s.bump .pictureStrayBlocks

/-- Whether an eye holds every row from 0 to `rows` less one (R78). -/
def eyeWhole (rows : Nat) (e : EyeRows) : Bool := (List.range rows).all fun r => e.any fun q => q.1 == r

/-- R78: whether a slot is complete for a profile. -/
def Slot.whole (t : Slot) (f : Profile) : Bool := eyeWhole f.rows t.left && eyeWhole f.rows t.right

/-- R78, R213: a FRAME_END is taken. -/
def State.frameEnd (s : State) (block : Option FrameNo) : State :=
  match block with
  | none => s.bump .pictureStrayBlocks
  | some n =>
    match s.fst.slots.toList.find? (fun t => t.fills n) with
    | none => s.bump .pictureStrayBlocks
    | some t =>
      if t.whole s.fst.profile then
        (s.modSlots fun q => q.change .filling fun t => { t with state := .ready }).bump .framesCompleted
      else s.abandon

/-- FRAME_BEGIN (R75, R76); no block is delivered out of ACTIVE (R1). -/
def execFrameBegin (payload : List Byte) (s : State) : Host.Outcome State Fault Refusal :=
  .next (if s.linkActive then s.frameBegin (parseFrameBegin payload) else s)

/-- LINES (R77). -/
def execLines (payload : List Byte) (s : State) : Host.Outcome State Fault Refusal :=
  .next (if s.linkActive then s.lines (parseLines payload) else s)

/-- FRAME_END (R78). -/
def execFrameEnd (payload : List Byte) (s : State) : Host.Outcome State Fault Refusal :=
  .next (if s.linkActive then s.frameEnd (parseFrameEnd payload) else s)

/-! ### Scan-out and the blank schedule (R82, R83) -/

/-- R83: a schedule started at local time `t`. -/
def Schedule.startAt (t period : Nat) : Schedule := ⟨t + period, period⟩

/-- R82, R104: scan-out enters OFF. -/
def State.scanOff (s : State) : State :=
  if s.sou.scanOut = .off then s
  else (s.modSou fun x =>
    { x with scanOut := .off, schedule := none, left := .cleared, right := .cleared, scan := none }).judgeDark

/-- R82: whether scan-out may leave OFF. -/
def State.panelsOn (s : State) : Bool :=
  s.pmg.rails.panelL == .on && s.pmg.rails.panelR == .on && !s.asleep

/-- R82, R83: scan-out leaves OFF for IDLE when both panel rails are ON and the link is not in SLEEP. -/
def State.scanStart (s : State) : State :=
  if s.sou.scanOut = .off ∧ s.panelsOn then
    s.modSou fun x => { x with scanOut := .idle, schedule := some (.startAt s.lt s.fst.profile.period) }
  else s

/-! ### The late shift (chapter 5) -/

/-- R97, R98, R99: the basis of the computation for the frame of a slot. -/
def State.shiftBasis (s : State) (t : Slot) : ShiftBasis :=
  if t.unposed then .unposed
  else if s.oin.pose.isSome then .override
  else if s.poseIsStale then .stale
  else .history

/-- R96: the display instant of an eye. -/
def displayInstant (blank : Nat) (p : Pulse) : Nat := blank + p.offset + p.width / 2

/-- R99: the predicted angle of one axis. -/
def predict (angle rate lead : Int) : Int := wrapAngle (angle + roundDiv (rate * lead) 15625)

/-- R102: a shift clamped to the limit. -/
def clampShift (limit : Nat) (v : Int) : Int := clampInt (-(limit : Int)) limit v

/-- R100 to R102: from a prediction to the record of an eye. -/
def ShiftRecord.from (f : Profile) (render predicted : YawPitch) (base : ShiftRecord) : ShiftRecord :=
  let err : YawPitch := ⟨wrapAngle (predicted.yaw - render.yaw), wrapAngle (predicted.pitch - render.pitch)⟩
  let u : Shift := ⟨roundDiv (err.yaw * f.ppdH) 65536, roundDiv (err.pitch * f.ppdV) 65536⟩
  { base with
    predicted := some predicted
    error := some err
    unclamped := u
    applied := ⟨clampShift f.limit u.h, clampShift f.limit u.v⟩
    clamped := decide (f.limit < u.h.natAbs) || decide (f.limit < u.v.natAbs) }

/-- R95 to R104: the shift record of an eye at a blank start taken at `s.lt`. -/
def State.eyeShift (s : State) (x : Side) (t : Slot) : ShiftRecord :=
  let td := displayInstant s.lt (s.ilg.active.side x)
  let basis := s.shiftBasis t
  let base : ShiftRecord := { ShiftRecord.cleared with basis := basis, blankStart := some s.lt, display := some td }
  let render : YawPitch := ⟨(t.pose.getD .zero).yaw, (t.pose.getD .zero).pitch⟩
  match basis, s.oin.pose, s.oin.ring.getLast? with
  | .override, some a, _ => base.from s.fst.profile render ⟨a.yaw, a.pitch⟩
  | .history, _, some e =>
    let raw : Int := (td : Int) - e.time
    let lead := clampInt 0 Config.leadMax raw
    ({ base with lead := some lead, leadClamped := decide ((Config.leadMax : Int) < raw) }).from s.fst.profile render
      ⟨predict e.angles.yaw e.rates.yaw lead, predict e.angles.pitch e.rates.pitch lead⟩
  | _, _, _ => base

/-- The counters of the zero cases, once for each blank start (R97). -/
def State.countZeroed (s : State) (b : ShiftBasis) : State :=
  match b with
  | .unposed => s.bump .shiftsZeroedUnposed
  | .stale => s.bump .shiftsZeroedStale
  | _ => s

/-- How many of two facts hold. -/
def howMany (a b : Bool) : Nat := (if a then 1 else 0) + (if b then 1 else 0)

/-- R95, R102, R104: the computation for the SHOWING slot. -/
def State.lateShift (s : State) : State :=
  match s.fst.slots.find .showing with
  | none => s
  | some t =>
    let l := s.eyeShift .left t
    let r := s.eyeShift .right t
    let s := s.countZeroed (s.shiftBasis t)
    let s := s.modSou fun x => { x with left := l, right := r }
    let s := s.addCount .leadsClamped (howMany l.leadClamped r.leadClamped)
    let s := s.addCount .shiftsClamped (howMany l.clamped r.clamped)
    if l.clamped || r.clamped then
      (s.modSlots fun q => q.change .showing fun t => { t with clamped := true }).raise .shiftClamped
    else s

/-! ### Selection (R85 to R88) and the blank start (R84) -/

/-- The better of two candidates for selection: the greater frame number among READY slots (R85). -/
def better (best : Option (Nat × Slot)) (c : Nat × Slot) : Option (Nat × Slot) :=
  if c.2.state = .ready then
    match best with
    | none => some c
    | some b => if frameGreater c.2.frame b.2.frame then some c else some b
  else best

/-- The number of the READY slot accepted last, if any is READY. -/
def Slots.newestReady (q : Slots) : Option Nat :=
  ([(0, q.s0), (1, q.s1), (2, q.s2), (3, q.s3)].foldl better none).map (·.1)

/-- R85: slot `k` becomes SHOWING, every other READY slot and the slot SHOWING before become FREE. -/
def Slots.selected (q : Slots) (k : Nat) : Slots :=
  q.mapIdx fun i t =>
    if i = k then { t with state := .showing, repeats := 0 }
    else if t.state = .ready ∨ t.state = .showing then .empty
    else t

/-- R86: the SHOWING slot is shown again. -/
def Slots.repeated (q : Slots) : Slots := q.change .showing fun t => { t with repeats := min 65535 (t.repeats + 1) }

/-- R71, R88: what the scan takes at its blank start. -/
def State.newScan (s : State) : Scan :=
  ⟨s.lt, s.fst.profile.blank, s.fst.profile.columns, s.fst.profile.rows, s.fst.profile.border⟩

/-- R88: the frame selected is scanned from this blank start. -/
def State.beginScan (s : State) : State :=
  s.modSou fun x => { x with scanOut := .scanning, scan := some s.newScan }

/-- R85: FRAMES_DROPPED counts READY slots freed unshown, and FRAME_DROPPED is raised if any was. -/
def State.dropFrames (s : State) (n : Nat) : State :=
  if n = 0 then s else (s.addCount .framesDropped n).raise .frameDropped

/-- R87, R104: no frame is scanned. -/
def State.scanIdle (s : State) : State :=
  s.modSou fun x => { x with scanOut := .idle, left := .cleared, right := .cleared, scan := none }

/-- R85 to R88, R95: selection at a blank start, with the shift of the frame selected. -/
def State.selectFrame (s : State) : State :=
  match s.fst.slots.newestReady with
  | some k =>
    let dropped := s.fst.slots.count .ready - 1
    let s := ((s.modSlots fun q => q.selected k).bump .framesShown).dropFrames dropped
    (s.beginScan).lateShift
  | none =>
    if 0 < s.fst.slots.count .showing then
      ((((s.modSlots Slots.repeated).bump .frameRepeats).raise .repeat).beginScan).lateShift
    else s.scanIdle

/-- R83: whether a blank start of the schedule is due. -/
def State.blankDue (s : State) : Bool :=
  match s.sou.schedule with
  | some c => s.sou.scanOut != .off && decide (c.next ≤ s.lt)
  | none => false

/-- R83, R84: the blank start is counted and taken, and the next is one frame period on. -/
def State.takeBlank (s : State) : State :=
  (s.bump .blankStarts).modSou fun x =>
    { x with
      schedule := x.schedule.map fun c => { c with next := c.next + c.period }
      lastBlank := some s.linkTime }

/-- BLANK_START (R84): taken, pulses copied (R113), frame selected and shift computed (R85, R95), output judged (R120). -/
def execBlankStart (s : State) : Host.Outcome State Fault Refusal :=
  .next (if s.blankDue then (((s.takeBlank).copyAtBlank).selectFrame).outputAtBlank else s)

/-! ### SET_PROFILE (R72) -/

/-- R72, steps 3 and 4: READY slots are freed and counted, a SHOWING slot is freed. -/
def State.freeShown (s : State) : State :=
  let n := s.fst.slots.count .ready
  (s.modSlots fun q => (q.change .ready fun _ => .empty).change .showing fun _ => .empty).dropFrames n

/-- R72, step 5: IDLE with the schedule restarted, unless scan-out is OFF. -/
def State.restartScan (s : State) : State :=
  if s.sou.scanOut = .off then s
  else (s.scanIdle).modSou fun x => { x with schedule := some (.startAt s.lt s.fst.profile.period) }

/-- R72: SET_PROFILE. DEDUCED 59: the dark causes are judged once, after step 5, so that an output dark for AWAY alone, which
the new profile no longer blanks, stays DARK for SCAN and counts no entry (R118). -/
def setProfile (payload : List Byte) (s : State) : Answer :=
  match parseProfile payload with
  | none => .plain s .badArgument
  | some f => .ok ((((s.modFst fun x => { x with profile := f }).abandon).freeShown).restartScan).judgeDark []

/-- SET_PROFILE (R72). -/
def execSetProfile (p : Port) (tag : Byte) (payload : List Byte) (s : State) : Host.Outcome State Fault Refusal :=
  .next (s.request .setProfile p tag payload (setProfile payload))

/-! ### The scanned image (R89, R103) -/

/-- The shift record of an eye. -/
def Sou.shift (x : Sou) : Side → ShiftRecord
  | .left => x.left
  | .right => x.right

/-- The rows of an eye. -/
def Slot.eye (t : Slot) : Side → EyeRows
  | .left => t.left
  | .right => t.right

/-- The pixel of a stored row. -/
def pixelAt (e : EyeRows) (column row : Nat) : Option Colour :=
  (e.find? fun q => q.1 == row).map fun q =>
    ⟨byteAt q.2 (3 * column), byteAt q.2 (3 * column + 1), byteAt q.2 (3 * column + 2)⟩

/-- R88: whether a scan has begun to send its rows: they follow the blank length, until the next blank start. -/
def Scan.sends (c : Scan) (lt : Nat) : Bool := decide (c.start + c.blank ≤ lt)

/-- R89, R103: output pixel (column, row) of an eye of the frame being scanned: source pixel (column + H, row − V), or
the border colour where there is none. No pixel is sent in the blank (R88), and none outside the rows and columns of the eye. -/
def State.outputPixel (s : State) (x : Side) (column row : Nat) : Option Colour :=
  match s.sou.scan, s.fst.slots.find .showing with
  | some c, some t =>
    if c.sends s.lt && decide (column < c.columns) && decide (row < c.rows) then
      let sx : Int := (column : Int) + (s.sou.shift x).applied.h
      let sy : Int := (row : Int) - (s.sou.shift x).applied.v
      if 0 ≤ sx ∧ sx < c.columns ∧ 0 ≤ sy ∧ sy < c.rows then pixelAt (t.eye x) sx.toNat sy.toNat else some c.border
    else none
  | _, _ => none

/-- R88: one row of an eye as it is sent to its panel, from column 0 on. -/
def State.sentRow (s : State) (x : Side) (c : Scan) (row : Nat) : List (Option Colour) :=
  (List.range c.columns).map fun column => s.outputPixel x column row

/-- R88, R103: what the scan in progress sends to the panel of an eye after its blank, until the next blank start: rows 0 to
rows per eye less one in order of row. Nothing is sent where no frame is scanned. -/
def State.sentRows (s : State) (x : Side) : List (List (Option Colour)) :=
  match s.sou.scan with
  | some c => if c.sends s.lt then (List.range c.rows).map (s.sentRow x c) else []
  | none => []

end Sys2Proof.Machine
end

