-- ==== Sys2Proof/Machine/Audio.lean ====
section
/-!
DEFINITION. Chapter 7: sound blocks and the playback buffer (R126, R127), output instants and playback states (R128 to
R131), the drift servo (R132 to R134), gain (R135 to R137), capture and the voice gate (R138 to R142).
-/

namespace Sys2Proof.Machine

/-- Whether the AUDIO rail is ON. -/
def State.audioOn (s : State) : Bool := s.pmg.rails.audio == .on

/-! ### Sound blocks (R126, R127) -/

/-- R126: the judgement of a block's sequence: none when it is late, else the number of blocks missed. -/
def judgeSequence (expected : Option Seq) (seq : Seq) : Option Nat :=
  match expected with
  | none => some 0
  | some e => if (seq - e).toNat ≤ 32767 then some (seq - e).toNat else none

/-- R127: the frames of an accepted block are appended, those that find the buffer full are discarded. -/
def State.appendFrames (s : State) (frames : List Stereo) : State :=
  let kept := frames.take (Config.playbackMax - s.aud.buffer.length)
  let lost := frames.length - kept.length
  let s := s.modAud fun a => { a with buffer := a.buffer ++ kept }
  if lost = 0 then s else (s.addCount .playbackFramesDiscarded lost).raise .overrun

/-- R126, R129: a SOUND block is taken; none is one too short (R213). -/
def State.takeSound (s : State) (block : Option (Seq × List Stereo)) : State :=
  match block with
  | none => s.bump .soundBlocksDiscarded
  | some (seq, frames) =>
    if s.aud.playback = .stopped ∧ s.audioOn = false then s.bump .soundBlocksDiscarded
    else
      match judgeSequence s.aud.expected seq with
      | none => s.bump .soundBlocksLate
      | some missed =>
        let s := (s.addCount .soundBlocksMissed missed).bump .soundBlocksAccepted
        let s := s.modAud fun a =>
          { a with
            expected := some (seq + 1)
            playback := if a.playback = .stopped then .priming else a.playback }
        s.appendFrames frames

/-- SOUND (R126). -/
def execSound (payload : List Byte) (s : State) : Host.Outcome State Fault Refusal :=
  .next (if s.linkActive then s.takeSound (parseSound payload) else s)

/-! ### Output instants -/

/-- R128: whether the present moment is an output instant: floor(j × 125 / 6) µs into its millisecond, j = 0 … 47. -/
def isInstant (lt : Nat) : Bool :=
  let r := lt % 1000
  let j := (6 * r + 124) / 125
  decide (j < 48) && j * 125 / 6 == r

/-- R128: whether an output instant not yet taken is due. -/
def State.instantDue (s : State) : Bool := s.audioOn && isInstant s.lt && s.aud.lastInstant != some s.lt

/-- R129: the fade-in factor on the k-th frame of PLAYING. -/
def fadeIn (k : Nat) (f : Stereo) : Stereo := if k ≤ 64 then f.scale64 k else f

/-- R134: the drift run after an adjustment in a direction, before the limit is judged. -/
def Aud.runOn (a : Aud) (d : Adjust) : Aud :=
  if a.runDirection = d then { a with runLength := a.runLength + 1 } else { a with runDirection := d, runLength := 1 }

/-- R133, R134: an adjustment is made. DEDUCED 56: an insertion is made at the first of its two instants; its counter and the
drift run move there, also where a flush or the loss of the rail prevents the second. -/
def State.adjusted (s : State) (d : Adjust) : State :=
  let s := s.bump (match d with | .removal => .driftRemovals | .insertion => .driftInsertions)
  let s := s.modAud fun a => a.runOn d
  if 10 ≤ s.aud.runLength then
    ((s.modAud fun a => { a with runLength := 0 }).bump .driftLimits).raise .driftLimit
  else s

/-- R132: the decision of a completed window. -/
def decide_ (err : Int) : Option Adjust :=
  if 48 < err then some .removal else if err < -48 then some .insertion else none

/-- R132: err = floor(sum / 10) − target. -/
def windowErr (window : List Nat) (target : Nat) : Int := ((window.sum / 10 : Nat) : Int) - target

/-- R132, R134: the fill is sampled after every 48th output instant of PLAYING; ten samples make a window. -/
def Aud.sampleFill (a : Aud) : Aud :=
  if a.played % 48 = 0 then
    let w := a.window ++ [a.buffer.length]
    if 10 ≤ w.length then
      let err := windowErr w a.target
      { a with
        window := []
        lastErr := some err
        due := decide_ err
        runLength := if (decide_ err).isNone then 0 else a.runLength }
    else { a with window := w }
  else a

/-- R128 to R130: a frame is delivered in PLAYING: fade-in, then gain; it is the last value until the next. -/
def Aud.deliver (a : Aud) (f : Stereo) : Aud :=
  let g := fadeIn (a.played + 1) f
  { a with played := a.played + 1, lastValue := g, out := g.gain a.applied }

/-- R130: the frame of the k-th instant of UNDERRUN. -/
def Aud.fadeOut (a : Aud) : Aud :=
  if a.faded < 64 then
    { a with faded := a.faded + 1, out := (a.lastValue.scale64 (64 - (a.faded + 1))).gain a.applied }
  else { a with out := ⟨0, 0⟩ }

/-- R130, R132, R134: PLAYING finds the buffer empty. -/
def State.underrun (s : State) : State :=
  ((s.modAud fun a =>
    ({ a with playback := .underrun, window := [], due := none, runLength := 0, faded := 0 } : Aud).fadeOut).bump
      .playbackUnderruns).raise .underrun

/-- R133: the average of two frames, each value rounded. -/
def Stereo.mean (f g : Stereo) : Stereo := ⟨roundDiv (f.left + g.left) 2, roundDiv (f.right + g.right) 2⟩

/-- R133, R134: a due adjustment that is not made. -/
def Aud.notMade (a : Aud) : Aud := if a.due.isSome then { a with due := none, runLength := 0 } else a

/-- R128, R133: an output instant in PLAYING. -/
def State.playInstant (s : State) : State :=
  match s.aud.again with
  | some f => s.modAud fun a => ({ a with again := none } : Aud).deliver f |>.sampleFill
  | none =>
    match s.aud.due, s.aud.buffer with
    | _, [] => s.underrun
    | some .removal, f :: g :: rest =>
      ((s.modAud fun a => ({ a with buffer := rest, due := none } : Aud).deliver (f.mean g)).adjusted
        .removal).modAud Aud.sampleFill
    | some .insertion, f :: rest =>
      ((s.modAud fun a => ({ a with buffer := rest, due := none, again := some f } : Aud).deliver f).adjusted
        .insertion).modAud Aud.sampleFill
    | _, f :: rest => s.modAud fun a => (({ a with buffer := rest } : Aud).notMade.deliver f).sampleFill

/-- R129: an entry into PLAYING starts a fade-in and a new drift window. -/
def Aud.enterPlaying (a : Aud) : Aud :=
  { a with playback := .playing, played := 0, window := [], lastErr := none, due := none, again := none }

/-- R129: an instant that may start PLAYING: it does when the fill is at least the target, else `silent` is done. -/
def State.tryPlay (s : State) (silent : Aud → Aud) : State :=
  if s.aud.target ≤ s.aud.buffer.length then (s.modAud Aud.enterPlaying).playInstant else s.modAud silent

/-- A silent output frame. -/
def Aud.silent (a : Aud) : Aud := { a with out := ⟨0, 0⟩ }

/-- R128: the playback half of an output instant. -/
def State.playback (s : State) : State :=
  match s.aud.playback with
  | .stopped => s.modAud Aud.silent
  | .priming => s.tryPlay Aud.silent
  | .playing => s.playInstant
  | .underrun => if s.aud.faded < 64 then s.modAud Aud.fadeOut else s.tryPlay Aud.silent

/-- R131: playback becomes STOPPED: flush. -/
def State.stopPlayback (s : State) : State :=
  (s.addCount .playbackFramesFlushed s.aud.buffer.length).modAud fun a =>
    { a with
      playback := .stopped
      buffer := []
      expected := none
      played := 0
      faded := 0
      window := []
      due := none
      again := none
      runLength := 0 }

/-! ### Capture (R138 to R142) -/

/-- R138: capture runs while the AUDIO rail is ON and capture is enabled. -/
def State.captureRuns (s : State) : Bool := s.audioOn && s.aud.captureEnabled

/-- R140: the block that is oldest takes GAP, and what the removed one carried. -/
def inherit (old : CaptureBlock) : List CaptureBlock → List CaptureBlock
  | [] => []
  | b :: bs =>
    { b with gap := true, timeStep := b.timeStep || old.timeStep, gateOpen := b.gateOpen || old.gateOpen } :: bs

/-- R140: a block enters the capture queue. -/
def State.enqueueCapture (s : State) (b : CaptureBlock) : State :=
  if s.aud.queue.length < Config.captureQueueMax then
    (s.modAud fun a => { a with queue := a.queue ++ [b] }).opportunity
  else
    match s.aud.queue with
    | [] => s
    | old :: rest =>
      ((((s.modAud fun a => { a with queue := inherit old (rest ++ [b]) }).cutIf .capture).bump
        .captureQueueDrops).raise .captureDrop).opportunity

/-- R139, R141, R19: a block is queued and takes the marks; `opens` says that it opens the gate. -/
def State.queueBlock (s : State) (b : CaptureBlock) (opens : Bool) : State :=
  let b : CaptureBlock :=
    { b with gap := s.aud.gapPending, timeStep := s.tlc.stepCapture, gateOpen := opens || s.aud.gateMark }
  let s := s.modAud fun a => { a with gapPending := false, gateMark := false, gatedSince := false }
  let s := s.modTlc fun t => { t with stepCapture := false }
  s.enqueueCapture b

/-- R139: a gated block is lost. DEDUCED 55: it counts as gated since the last block queued also when none has been queued
since the reset. -/
def State.gateBlock (s : State) : State :=
  (s.modAud fun a => { a with gatedSince := true }).bump .captureBlocksGated

/-- R138: the greatest magnitude of a block's samples. -/
def peak (frames : List (Int × Int)) : Nat := frames.foldl (fun p f => max p (max f.1.natAbs f.2.natAbs)) 0

/-- R138: a sample at its limit. -/
def clips (v : Int) : Bool := v == 32767 || v == -32768

/-- R139: the voice gate on a completed block. -/
def State.gate (s : State) (b : CaptureBlock) : State :=
  let loud := decide (s.aud.openThreshold ≤ peak b.frames)
  match s.aud.gate with
  | .disabled => s.queueBlock b false
  | .closed =>
    if loud then
      if 2 ≤ s.aud.loudRun + 1 then
        (((s.modAud fun a => { a with gate := .open, loudRun := 0, quietRun := 0 }).queueBlock b true).raise
          .voiceStart).bump .voiceStarts
      else (s.modAud fun a => { a with loudRun := a.loudRun + 1 }).gateBlock
    else (s.modAud fun a => { a with loudRun := 0 }).gateBlock
  | .open =>
    if loud then (s.modAud fun a => { a with quietRun := 0 }).queueBlock b false
    else if s.aud.quietRun + 1 < s.aud.hangover then
      (s.modAud fun a => { a with quietRun := a.quietRun + 1 }).queueBlock b false
    else
      ((s.queueBlock b false).modAud fun a => { a with gate := .closed, quietRun := 0 }).raise .voiceEnd

/-- R138: the block that a completed formation gives, before the voice gate. -/
def State.blockOf (s : State) (g : Forming) : CaptureBlock :=
  { seq := s.aud.captureSeq + 1, time := g.start + s.tlc.offset, frames := g.frames, gap := false,
    gateOpen := false, clipped := g.frames.any (fun f => clips f.1 || clips f.2), timeStep := false,
    freeTime := s.tlc.basis == .free }

/-- R138: a block is completed. -/
def State.completeBlock (s : State) (g : Forming) : State :=
  let b := s.blockOf g
  let s := s.modAud fun a => { a with captureSeq := b.seq, forming := none }
  (if b.clipped then s.bump .captureClippedBlocks else s).gate b

/-- R138: the capture half of an output instant: a block begins at a multiple of 1,000 µs and ends with its 48th
frame. DESIGN CHOICE 72: capture that began to run at this very microsecond begins its first block here (R142). -/
def State.capture (s : State) (mic1 mic2 : Int) : State :=
  if s.captureRuns then
    let g : Option Forming :=
      if s.lt % 1000 = 0 then some ⟨s.lt, [(mic1, mic2)]⟩
      else s.aud.forming.map fun g => ⟨g.start, g.frames ++ [(mic1, mic2)]⟩
    match g with
    | none => s
    | some g =>
      if 48 ≤ g.frames.length then s.completeBlock g else s.modAud fun a => { a with forming := some g }
  else s

/-- R138, R139, R141: capture stops running. -/
def State.stopCapture (s : State) : State :=
  let wasOpen := s.aud.gate == .open
  let s := s.modAud fun a =>
    { a with
      forming := none
      gapPending := true
      gate := if a.gate = .open then .closed else a.gate
      loudRun := if a.gate = .open then 0 else a.loudRun
      quietRun := if a.gate = .open then 0 else a.quietRun }
  if wasOpen then s.raise .voiceEnd else s

/-- OUTPUT_INSTANT (R128, R138). DESIGN CHOICE 68: playback acts before capture. -/
def execOutputInstant (mic1 mic2 : Int) (s : State) : Host.Outcome State Fault Refusal :=
  .next (
    if s.instantDue then
      ((s.modAud fun a => { a with lastInstant := some s.lt }).playback).capture mic1 mic2
    else s)

/-- R139: the gate is enabled or disabled. -/
def State.setGate (s : State) (enabled : Bool) : State :=
  match s.aud.gate, enabled with
  | .disabled, true => s.modAud fun a => { a with gate := .closed, loudRun := 0, quietRun := 0 }
  | .open, false => (s.modAud fun a => { a with gate := .disabled, loudRun := 0, quietRun := 0 }).raise .voiceEnd
  | .closed, false =>
    s.modAud fun a =>
      { a with gate := .disabled, loudRun := 0, quietRun := 0, gateMark := a.gateMark || a.gatedSince }
  | _, _ => s

/-- R138, R139, R142: the settings of capture and of its gate are taken; capture stops running where they disable it. -/
def State.takeCapture (s : State) (c : CaptureArgs) : State :=
  let stops := s.captureRuns && !c.capture
  let s := s.modAud fun a =>
    { a with captureEnabled := c.capture, openThreshold := c.threshold, hangover := c.hangover }
  let s := if stops then s.stopCapture else s
  s.setGate c.gate

/-- R142: SET_CAPTURE. -/
def setCapture (payload : List Byte) (s : State) : Answer :=
  match parseCapture payload with
  | none => .plain s .badArgument
  | some c => .ok (s.takeCapture c) []

/-- SET_CAPTURE (R142). -/
def execSetCapture (p : Port) (tag : Byte) (payload : List Byte) (s : State) : Host.Outcome State Fault Refusal :=
  .next (s.request .setCapture p tag payload (setCapture payload))

/-! ### Gain (R135 to R137) -/

/-- R135: the shed cap, in steps. -/
def Level.gainCap : Level → Nat
  | .l0 | .l1 => 0
  | .l2 => 12
  | .l3 => muteStep

/-- R135: the effective attenuation, the greatest of its four terms. -/
def State.effective (s : State) : Nat :=
  max (max s.aud.requested s.pmg.level.gainCap)
    (max (if s.msu.wear = .away then muteStep else 0) (if s.aud.mute then muteStep else 0))

/-- R136: one step toward the effective attenuation. -/
def rampStep (applied effective : Nat) : Nat :=
  if applied < effective then applied + 1 else if effective < applied then applied - 1 else applied

/-- R136: whether a ramp step not yet taken is due. -/
def State.rampDue (s : State) : Bool := s.lt % 1000 == 0 && s.aud.lastRamp != some s.lt

/-- ATTENUATION_RAMP_STEP (R136). -/
def execAttenuationRampStep (s : State) : Host.Outcome State Fault Refusal :=
  .next (
    if s.rampDue then s.modAud fun a => { a with applied := rampStep a.applied s.effective, lastRamp := some s.lt }
    else s)

/-- R136: a rise of the shed cap acts without a ramp. -/
def State.capGain (s : State) : State := s.modAud fun a => { a with applied := max a.applied s.pmg.level.gainCap }

/-- R137: SET_VOLUME. -/
def setVolume (payload : List Byte) (s : State) : Answer :=
  match parseVolume payload with
  | none => .plain s .badArgument
  | some v =>
    let s := s.modAud fun a => { a with requested := v.requested, mute := v.mute, target := v.target }
    let s := if v.flush then s.stopPlayback else s
    .ok s (attenuationBytes s.effective ++ attenuationBytes s.aud.applied)

/-- SET_VOLUME (R137). -/
def execSetVolume (p : Port) (tag : Byte) (payload : List Byte) (s : State) : Host.Outcome State Fault Refusal :=
  .next (s.request .setVolume p tag payload (setVolume payload))

end Sys2Proof.Machine
end

