-- ==== Sys2Proof/Machine/Power.lean ====
section
/-!
DEFINITION. Chapter 8: the rails and their sequencer (R157 to R161), the rail target (R162), the budget (R149), changes of
shed level (R153), cable resistance and power limits (R163, R165).
-/

namespace Sys2Proof.Machine

/-! ### Rails -/

/-- The state of a rail. -/
def Rails.get (r : Rails) : Rail → RailState
  | .sensor => r.sensor
  | .audio => r.audio
  | .panelL => r.panelL
  | .panelR => r.panelR
  | .illum => r.illum

/-- Replace the state of a rail. -/
def Rails.set (r : Rails) (x : Rail) (st : RailState) : Rails :=
  match x with
  | .sensor => { r with sensor := st }
  | .audio => { r with audio := st }
  | .panelL => { r with panelL := st }
  | .panelR => { r with panelR := st }
  | .illum => { r with illum := st }

/-- The rails in the order of 8.5. -/
def railOrder : List Rail := [.sensor, .audio, .panelL, .panelR, .illum]

/-- The rail before another in the order; SENSOR has none. -/
def railBefore : Rail → Option Rail
  | .sensor => none
  | .audio => some .sensor
  | .panelL => some .audio
  | .panelR => some .panelL
  | .illum => some .panelR

/-- The rails after another in the order, last first. -/
def laterRails : Rail → List Rail
  | .sensor => [.illum, .panelR, .panelL, .audio]
  | .audio => [.illum, .panelR, .panelL]
  | .panelL => [.illum, .panelR]
  | .panelR => [.illum]
  | .illum => []

/-- The live condition of a rail (R158). -/
def railFault : Rail → Condition
  | .sensor => .railFaultSensor
  | .audio => .railFaultAudio
  | .panelL => .railFaultPanelL
  | .panelR => .railFaultPanelR
  | .illum => .railFaultIllum

/-- 8.5: whether a rail is within the rail target. -/
def RailTarget.covers : RailTarget → Rail → Bool
  | .none, _ => false
  | .sensorOnly, x => x == .sensor
  | .all, _ => true

/-- What the readers of a rail do when it reaches ON: R29 (SENSOR), R82 (panels), R118 (ILLUM); the AUD waits for the
next instant and the next block (R128, R129). -/
def State.railReached (s : State) (x : Rail) : State :=
  match x with
  | .sensor => s.startImus
  | .audio => s
  | .panelL | .panelR => s.scanStart
  | .illum => s.judgeDark

/-- What the readers of a rail do when it leaves ON: R29 and R46 (SENSOR), R131 and R138 (AUDIO), R82 (panels), R118
(ILLUM). `captured` says that capture was running. DESIGN CHOICE 61: when SENSOR leaves ON the IMUs enter OFF, which may raise
PROC_DONE, before the wear part raises WEAR_CHANGE. -/
def State.railLeft (s : State) (x : Rail) (captured : Bool) : State :=
  match x with
  | .sensor => s.imusOff.wearStops
  | .audio => if captured then s.stopPlayback.stopCapture else s.stopPlayback
  | .panelL | .panelR => s.scanOff
  | .illum => s.judgeDark

/-- R158: the live condition of a rail that changes from one state to another. -/
def State.followRail (s : State) (x : Rail) (old st : RailState) : State :=
  if st = .fault then s.raise (railFault x)
  else if old = .fault then s.lower (railFault x)
  else s

/-- A rail takes a state: its condition follows (R158), and then its readers act, with the conditions that they raise (DESIGN CHOICE
64: in this order). -/
def State.setRail (s : State) (x : Rail) (st : RailState) : State :=
  let old := s.pmg.rails.get x
  let captured := s.captureRuns
  let s := (s.modPmg fun p => { p with rails := p.rails.set x st }).followRail x old st
  if old = .on ∧ st ≠ .on then s.railLeft x captured
  else if st = .on ∧ old ≠ .on then s.railReached x
  else s

/-- R157: whether a rail may enter RAMPING. -/
def Pmg.mayRamp (p : Pmg) (x : Rail) : Bool :=
  p.rails.get x == .off && p.target.covers x && ((railBefore x).map (fun y => p.rails.get y == .on)).getD true

/-- R157: the sequencer, at a change of a rail or of the target. -/
def State.sequence (s : State) : State :=
  railOrder.foldl (fun s x => if s.pmg.mayRamp x then s.setRail x (.ramping (s.lt + Config.rampLimit)) else s) s

/-- Rails are taken to OFF one after another. -/
def State.takeDown (s : State) (xs : List Rail) : State :=
  xs.foldl (fun s x => if s.pmg.rails.get x = .off then s else s.setRail x .off) s

/-- R158, R159: a rail enters FAULT; later rails that are RAMPING or ON go OFF, last first. -/
def State.railFails (s : State) (x : Rail) : State :=
  let s := (s.setRail x .fault).bump .railFaults
  (s.takeDown ((laterRails x).filter fun y => s.pmg.rails.get y != .fault)).sequence

/-- RAIL_POWER_GOOD (R158): the report reaches a RAMPING rail only. -/
def execRailPowerGood (x : Rail) (s : State) : Host.Outcome State Fault Refusal :=
  .next (
    match s.pmg.rails.get x with
    | .ramping _ => (s.setRail x .on).sequence
    | _ => s)

/-- RAIL_RAMP_TIMEOUT (R158). -/
def execRailRampTimeout (x : Rail) (s : State) : Host.Outcome State Fault Refusal :=
  .next (
    match s.pmg.rails.get x with
    | .ramping e => if e ≤ s.lt then s.railFails x else s
    | _ => s)

/-- POWER_GOOD_WITHDRAWN (R159): by an ON rail. -/
def execPowerGoodWithdrawn (x : Rail) (s : State) : Host.Outcome State Fault Refusal :=
  .next (if s.pmg.rails.get x = .on then s.railFails x else s)

/-- R161: every FAULT rail enters OFF. -/
def restartRails (s : State) : Answer :=
  let failed := railOrder.filter fun x => s.pmg.rails.get x == .fault
  if failed.isEmpty then .plain s .wrongState
  else .ok ((s.takeDown failed).bump .railRestarts).sequence []

/-- RAIL_RESTART (R161). -/
def execRailRestart (p : Port) (tag : Byte) (payload : List Byte) (s : State) : Host.Outcome State Fault Refusal :=
  .next (s.request .railRestart p tag payload (withoutArgs payload restartRails))

/-! ### Target and budget -/

/-- R162: the rail target of a supply state and a standby mark. -/
def railTarget (supply : Supply) (standby : Bool) : RailTarget :=
  match supply with
  | .normal => if standby then .sensorOnly else .all
  | .start | .brownout => .none

/-- R160, R162: the target is formed; rails outside it go OFF in reverse order, rails within it are brought up. -/
def State.formTarget (s : State) : State :=
  let s := s.modPmg fun p => { p with target := railTarget p.supply p.standby }
  (s.takeDown (railOrder.reverse.filter fun x => !s.pmg.target.covers x)).sequence

/-- R149: the budget of a link state. -/
def budgetOf (link : Link) (offer : Option Nat) (l : Limits) : Nat :=
  match link with
  | .active _ | .retrain .. => if offer.getD 0 = 0 then l.cap else min (offer.getD 0) l.cap
  | .down _ | .training .. | .sleep => l.safe

/-- R149: B is re-formed. -/
def State.formBudget (s : State) : State :=
  s.modPmg fun p => { p with budget := budgetOf s.tlc.link s.tlc.offer p.limits }

/-! ### Changes of level (R153) -/

/-- R153: a new level is in force for every reader at once, and both counts start afresh (R152). -/
def State.setLevel (s : State) (l : Level) : State :=
  (((s.modPmg fun p => { p with level := l, rise := 0, fall := 0 }).judgeDark).capGain).reformSync s.period

/-- R153: a change of level is raised and counted. -/
def State.changeLevel (s : State) (l : Level) : State :=
  if s.pmg.level = l then s else ((s.setLevel l).raise .shedChange).bump .shedChanges

/-! ### Settings -/

/-- R165: SET_POWER_LIMITS. -/
def setLimits (payload : List Byte) (s : State) : Answer :=
  match parseLimits payload with
  | none => .plain s .badArgument
  | some l =>
    let s := (s.modPmg fun p => { p with limits := l }).formBudget
    .ok (s.modPmg fun p => { p with rise := 0, fall := 0, cut := 0, recovery := 0 }) (numBytes s.pmg.budget)

/-- SET_POWER_LIMITS (R165). -/
def execSetPowerLimits (p : Port) (tag : Byte) (payload : List Byte) (s : State) : Host.Outcome State Fault Refusal :=
  .next (s.request .setPowerLimits p tag payload (setLimits payload))

/-- R163: SET_CABLE_RESISTANCE. -/
def setResistance (payload : List Byte) (s : State) : Answer :=
  match parseResistance payload with
  | none => .plain s .badArgument
  | some r => .ok (s.modPmg fun p => { p with rCable := r }) []

/-- SET_CABLE_RESISTANCE (R163). -/
def execSetCableResistance (p : Port) (tag : Byte) (payload : List Byte) (s : State) :
    Host.Outcome State Fault Refusal :=
  .next (s.request .setCableResistance p tag payload (setResistance payload))

end Sys2Proof.Machine
end

