-- ==== Sys2Proof/Machine/Supply.lean ====
section
/-!
DEFINITION. INPUT_MEASUREMENT (R146): the power figures (R147), the live conditions (R148), the shed evaluation (R150 to
R152), leaving START (R154), brownout and recovery (R155, R156), and the hand-over to a CABLE_MEASURE (R176 to R178).
-/

namespace Sys2Proof.Machine

/-! ### Figures -/

/-- R146: a reading above its range is taken as the top of the range. -/
def topped (top v : Nat) : Nat := min top v

/-- R147: the current drawn by the headset's own loads. -/
def effectiveCurrent (iin : Nat) (testLoad : Bool) : Nat := if testLoad then iin - Config.testLoadCurrent else iin

/-- R147, R148: a measurement and its figures. -/
def figures (vin iin rCable : Nat) (testLoad : Bool) : Measurement :=
  let eff := effectiveCurrent iin testLoad
  let pIn := vin * eff / 1000
  let pLoss := eff * eff * rCable / 1000000
  { vin := vin, iin := iin, iinEff := eff, pIn := pIn, pLoss := pLoss, pTotal := pIn + pLoss,
    drop := iin * rCable / 1000 }

/-- R148: BUDGET_LOW and CABLE_DROP_HIGH are judged, in this order (DESIGN CHOICE 63). -/
def State.judgePower (s : State) (m : Measurement) : State :=
  (s.follow .budgetLow (decide (s.pmg.budget * 85 < m.pTotal * 100))).follow .cableDropHigh (decide (1500 < m.drop))

/-! ### Shed evaluation (R150 to R152) -/

/-- R151: a measurement calls for a rise. -/
def callsRise (p : Pmg) (m : Measurement) : Bool := decide (p.budget ≤ m.pTotal) || decide (m.vin < p.limits.vWarn)

/-- R152: a measurement calls for a fall. -/
def callsFall (p : Pmg) (m : Measurement) : Bool :=
  decide (m.pTotal * 100 ≤ p.budget * 85) && decide (p.limits.vWarn + 300 ≤ m.vin)

/-- The next level up; L3 has none. -/
def Level.up : Level → Option Level
  | .l0 => some .l1
  | .l1 => some .l2
  | .l2 => some .l3
  | .l3 => none

/-- The next level down; L0 has none. -/
def Level.down : Level → Option Level
  | .l0 => none
  | .l1 => some .l0
  | .l2 => some .l1
  | .l3 => some .l2

/-- R150: the jump; at L3 only the counts are set to zero. -/
def State.jump (s : State) : State :=
  if s.pmg.level = .l3 then s.modPmg fun p => { p with rise := 0, fall := 0 }
  else (s.changeLevel .l3).bump .shedJumps

/-- R151: the rise test. -/
def State.riseTest (s : State) (m : Measurement) : State :=
  let s := s.modPmg fun p => { p with rise := if callsRise p m then min 3 (p.rise + 1) else 0 }
  if s.pmg.rise = 3 then
    match s.pmg.level.up with
    | some l => (s.changeLevel l).bump .shedRises
    | none => s
  else s

/-- R152: the fall test. -/
def State.fallTest (s : State) (m : Measurement) : State :=
  let s := s.modPmg fun p => { p with fall := if callsFall p m then min 200 (p.fall + 1) else 0 }
  if s.pmg.fall = 200 then
    match s.pmg.level.down with
    | some l => (s.changeLevel l).bump .shedFalls
    | none => s
  else s

/-- R150 to R152: the shed evaluation, made in START and NORMAL. -/
def State.shed (s : State) (m : Measurement) : State :=
  if s.pmg.supply = .brownout then s
  else if m.vin < s.pmg.limits.vCrit then s.jump
  else (s.riseTest m).fallTest m

/-! ### Supply states (R154 to R156) -/

/-- R208, step 4, and R6: with NORMAL entered and the store load ended, the link leaves the DOWN of power-on, which has no
retry timer, for TRAINING at attempt 1 (DEDUCED 40: where a recovery from BROWNOUT enters NORMAL before the load has ended, the
link step is taken at the end of the load). -/
def State.linkStep (s : State) : State :=
  if s.pmg.reachedNormal ∧ s.cmu.storeState ≠ .loading ∧ s.tlc.link = .down none then
    s.modTlc fun t => { t with link := .training 1 s.lt none }
  else s

/-- An entry into NORMAL: the target is formed and the rails come up; the first one reaches the link step. -/
def State.enterNormal (s : State) : State :=
  ((s.modPmg fun p => { p with supply := .normal, reachedNormal := true }).formTarget).linkStep

/-- R154: START is left at the first measurement at or above V_warn after the store load. -/
def State.leaveStart (s : State) (m : Measurement) : State :=
  if s.pmg.supply = .start ∧ s.cmu.storeState ≠ .loading ∧ s.pmg.limits.vWarn ≤ m.vin then s.enterNormal else s

/-- R155: the entry into BROWNOUT. -/
def State.enterBrownout (s : State) : State :=
  let s := (s.modPmg fun p => { p with supply := .brownout, testLoad := false }).formTarget
  ((s.raise .brownout).bump .brownoutEntries).modPmg fun p => { p with cut := 0, recovery := 0, rise := 0, fall := 0 }

/-- R155: the brownout test. -/
def State.brownoutTest (s : State) (m : Measurement) : State :=
  let s := s.modPmg fun p => { p with cut := if m.vin < p.limits.vCut then p.cut + 1 else 0 }
  if 2 ≤ s.pmg.cut then s.enterBrownout else s

/-- R156: the recovery from BROWNOUT; the motion queue is drained again (R52), which may give the link a block (R22). DESIGN
CHOICE 69: NORMAL is entered with step 3, so that step 1 raises SHED_CHANGE while the supply state is still BROWNOUT. -/
def State.recover (s : State) : State :=
  (((s.changeLevel .l2).modPmg fun p => { p with cut := 0, recovery := 0, rise := 0, fall := 0 }).enterNormal).opportunity

/-- R156: the recovery test. -/
def State.recoveryTest (s : State) (m : Measurement) : State :=
  let s := s.modPmg fun p => { p with recovery := if p.limits.vWarn ≤ m.vin then min 500 (p.recovery + 1) else 0 }
  if s.pmg.recovery = 500 then s.recover else s

/-- R154 to R156: the tests of the supply state the measurement was taken in. -/
def State.supplyTests (s : State) (m : Measurement) : State :=
  match s.pmg.supply with
  | .brownout => s.recoveryTest m
  | .start | .normal => (s.leaveStart m).brownoutTest m

/-! ### CABLE_MEASURE (R176 to R178) -/

/-- R164: the test load is switched; on only in NORMAL. -/
def State.load (s : State) (on : Bool) : State :=
  s.modPmg fun p => { p with testLoad := on && p.supply == .normal }

/-- R176: a phase mean. -/
def phaseMean (sum : Nat) : Nat := (roundDiv sum 1000).toNat

/-- R178: ΔI. -/
def deltaI (i1 i2 i3 : Nat) : Int := (i2 : Int) - roundDiv ((i1 : Int) + i3) 2

/-- R178: R, clamped. -/
def cableR (v1 v2 v3 : Nat) (di : Int) : Int :=
  clampInt 0 65535 (roundDiv ((roundDiv ((v1 : Int) + v3) 2 - v2) * 1000) di.toNat)

/-- R178: the ending after the 3,000th measurement. -/
def State.cableEnd (s : State) (v1 i1 v2 i2 v3 i3 : Nat) : State :=
  let di := deltaI i1 i2 i3
  if di < 100 then s.endProc .failed [.number di]
  else
    let r := cableR v1 v2 v3 di
    (s.modPmg fun p => { p with rCable := r.toNat }).endProc .done [.number r, .number di]

/-- R177: the state after a measurement that ends a CABLE_MEASURE LOADED. -/
def Pmg.tooLoaded (p : Pmg) : Bool := p.level == .l2 || p.level == .l3 || p.supply == .brownout

/-- Replace the working state of the running procedure. -/
def State.work (s : State) (w : Work) : State :=
  s.modPrr fun q => { q with running := q.running.map fun r => { r with work := w } }

/-- R176 to R178: a measurement is handed to a running CABLE_MEASURE. -/
def State.cableStep (s : State) (m : Measurement) : State :=
  match s.prr.running with
  | some ⟨_, _, .cable count sumV sumI v1 i1 v2 i2⟩ =>
    if s.pmg.tooLoaded then (s.load false).endProc .loaded []
    else
      let count := count + 1
      let sumV := sumV + m.vin
      let sumI := sumI + m.iin
      if count = 1000 then (s.work (.cable count 0 0 (phaseMean sumV) (phaseMean sumI) 0 0)).load true
      else if count = 2000 then (s.work (.cable count 0 0 v1 i1 (phaseMean sumV) (phaseMean sumI))).load false
      else if 3000 ≤ count then s.cableEnd v1 i1 v2 i2 (phaseMean sumV) (phaseMean sumI)
      else s.work (.cable count sumV sumI v1 i1 v2 i2)
  | _ => s

/-! ### The measurement -/

/-- R146: the local time of the measurement that may be taken now, none while the next is still to come. -/
def State.measurementAt (s : State) : Option Nat :=
  match s.pmg.measuredAt with
  | none => some s.lt
  | some t => if t + 1000 ≤ s.lt then some (t + 1000) else none

/-- R146: a measurement is acted on whole, in the order of its rules. -/
def State.measure (s : State) (m : Measurement) : State :=
  ((((s.modPmg fun p => { p with meas := some m }).judgePower m).shed m).supplyTests m).cableStep m

/-- INPUT_MEASUREMENT (R146). -/
def execInputMeasurement (vin iin : Nat) (s : State) : Host.Outcome State Fault Refusal :=
  .next (
    match s.measurementAt with
    | none => s
    | some t =>
      (s.modPmg fun p => { p with measuredAt := some t }).measure
        (figures (topped 30000 vin) (topped 5000 iin) s.pmg.rCable s.pmg.testLoad))

end Sys2Proof.Machine
end

