-- ==== Sys2Proof/Machine/Restart.lean ====
section
/-!
DEFINITION. The reset of a RESTART (R209): every block takes its RESTART values (R27, R51, R70, R93, R94, R104, R124, R145,
R168, R173, R196, R210).
-/

namespace Sys2Proof.Machine

/-- R27: an upstream block in transmission is completed on the wire although its queue is emptied. -/
def State.detachedTx (s : State) : Option Transmission :=
  match s.tlc.tx with
  | some .motion => s.msu.queue.head?.map fun r => .detached (.motion r)
  | some .capture => s.aud.queue.head?.map fun b => .detached (.capture b)
  | some .control => s.cmu.outTether.head?.map fun m => .detached (.control m.body)
  | x => x

/-- R19, R27: the TLC at RESTART; the link, the times and the step marks are kept, and a record or beat that carried
TIME_STEP and is emptied or dropped sets its stream's mark again. -/
def State.tlcRestart (s : State) : Tlc :=
  { s.tlc with
    crcCount := 0
    sleepPending := false
    stepMotion := s.tlc.stepMotion || s.msu.queue.any (·.timeStep)
    stepCapture := s.tlc.stepCapture || s.aud.queue.any (·.timeStep)
    stepBeat := s.tlc.stepBeat || s.tlc.beat.any (·.timeStep)
    beat := none
    tx := s.detachedTx }

/-- R51: the MSU at RESTART, before the IMUs are started again. -/
def State.msuRestart (s : State) : Msu :=
  { Msu.powerOn with
    requestedRate := s.loaded.rate
    wornThreshold := s.loaded.wornThreshold
    removedThreshold := s.loaded.removedThreshold
    awayTime := s.loaded.awayTime
    lastTick := s.msu.lastTick
    barred := s.msu.barred
    lastWearTick := s.msu.lastWearTick }

/-- R168: the shed level at RESTART. -/
def restartLevel (x : Supply) : Level :=
  match x with
  | .brownout => .l3
  | .start | .normal => .l0

/-- R168: the PMG at RESTART; supply state, counts of the supply tests, rails, standby mark and schedule are kept. -/
def State.pmgRestart (s : State) : Pmg :=
  { s.pmg with
    level := restartLevel s.pmg.supply
    rise := 0
    fall := 0
    budget := budgetOf s.tlc.link s.tlc.offer s.loaded.limits
    limits := s.loaded.limits
    rCable := s.loaded.rCable
    testLoad := false
    target := railTarget s.pmg.supply s.pmg.standby }

/-- R145: the AUD at RESTART. -/
def State.audRestart (s : State) : Aud :=
  { Aud.reset s.loaded ((restartLevel s.pmg.supply).gainCap == muteStep) with
    lastInstant := s.aud.lastInstant
    lastRamp := s.aud.lastRamp }

/-- R196: the NTU at RESTART, before the live conditions are reported. -/
def State.ntuRestart (s : State) : Ntu :=
  { pending := .none, enabled := s.loaded.enabled, holdoff := s.loaded.holdoff, due := false, timer := none,
    number := 0, attn := false, quiet := none }

/-- R210: a frame in transmission on the SERVICE port completes its last byte. -/
def Cmu.detachedFrame (c : Cmu) : ServiceTx :=
  match c.serviceTx with
  | .head => match c.outService with
    | m :: _ => .detached m.body
    | [] => .idle
  | x => x

/-- R210: the CMU at RESTART. -/
def Cmu.restarted (c : Cmu) : Cmu :=
  { c with role := none, queue := [], outTether := [], outService := [], serviceTx := c.detachedFrame, rx := [],
           restart := none }

/-- Every block at its RESTART values. -/
def State.blocksRestart (s : State) : State :=
  { s with
    counters := Vector.replicate 69 0
    tlc := s.tlcRestart
    msu := s.msuRestart
    oin := .reset s.loaded
    fst := .reset s.loaded
    sou := .reset
    ilg := .reset
    aud := s.audRestart
    pmg := s.pmgRestart
    prr := .reset
    ntu := s.ntuRestart
    cmu := s.cmu.restarted }

/-- R184: the live conditions whose states hold are reported after a reset. BUDGET_LOW and CABLE_DROP_HIGH follow the
next measurement, and no IMU is fault-held. -/
def State.reportLive (s : State) : State :=
  railOrder.foldl (fun s x => s.follow (railFault x) (s.pmg.rails.get x == .fault))
    ((s.follow .timeFree (s.tlc.basis == .free)).followStale)

/-- R209: the reset; the rate may change with it (R34, R51, R168), enabled IMUs enter STARTING (R51) and scan-out leaves OFF (R94) at
once. -/
def State.doRestart (s : State) : State := (s.blocksRestart.reformSync s.period).reportLive.startImus.scanStart

end Sys2Proof.Machine
end

