-- ==== Sys2Proof/Machine/Link.lean ====
section
/-!
DEFINITION. Chapter 1: link states, training and retraining (R1 to R12), sleep and wake (R13 to R15), time marks and the
time basis (R17 to R20), discarded blocks (R8, R9), the status beat and sent blocks (R22, R24), LINK_SLEEP.
-/

namespace Sys2Proof.Machine

/-! ### Agreement (R2, R4) -/

/-- R2: the lanes among 0 … MAXLANES − 1. -/
def laneLimit : MaxLanes → BitVec 4
  | .one => 0x1
  | .two => 0x3
  | .four => 0xF

/-- R2: the lane set the part offers in an attempt. -/
def ownLanes (straps : Straps) (attempt : Nat) (locked : BitVec 4) : BitVec 4 :=
  if attempt ≤ 3 then locked &&& laneLimit straps.maxLanes else locked &&& 0x1

/-- R2: the highest gear the part offers in an attempt. -/
def ownGear (straps : Straps) (attempt : Nat) : Gear :=
  if attempt ≤ 3 then .g3
  else match straps.fallback with
    | .g1 => .g1
    | .g2 => .g2

/-- The number of a gear in a training record. -/
def Gear.number : Gear → Nat
  | .g1 => 1
  | .g2 => 2
  | .g3 => 3

/-- R2: the training record that the part sends in an attempt; its features are SLEEP (bit 0) and WAKE_BEACON (bit 1). -/
def ownRecord (straps : Straps) (attempt : Nat) (locked : BitVec 4) : BaseRecord :=
  { gear := (ownGear straps attempt).number, lanes := (ownLanes straps attempt locked).toNat, offer := 0, features := 0x3 }

/-- The gear a training record names; none for one out of its range. -/
def gearOf (n : Nat) : Option Gear :=
  if n = 1 then some .g1 else if n = 2 then some .g2 else if n = 3 then some .g3 else none

/-- R4: the lower of two gears. -/
def Gear.lower (g h : Gear) : Gear :=
  match g, h with
  | .g1, _ | _, .g1 => .g1
  | .g2, _ | _, .g2 => .g2
  | .g3, .g3 => .g3

/-- R4: the largest of {0 … 3}, {0, 1} and {0} contained in a set of lanes. -/
def largestSet (common : BitVec 4) : Option LaneSet :=
  if common = 0xF then some .four
  else if common &&& 0x3 = 0x3 then some .two
  else if common &&& 0x1 = 0x1 then some .one
  else none

/-- R4: the features present in both records. -/
def commonFeatures (own base : BaseRecord) : Features :=
  ⟨own.features.testBit 0 && base.features.testBit 0, own.features.testBit 1 && base.features.testBit 1⟩

/-- R3, R4: what two training records agree; none when a field of the base's is out of range or no lane set is common. -/
def agreeRecords (own base : BaseRecord) : Option Agreement :=
  if 16 ≤ base.lanes ∨ 4 ≤ base.features then none
  else
    match gearOf own.gear, gearOf base.gear, largestSet (BitVec.ofNat 4 own.lanes &&& BitVec.ofNat 4 base.lanes) with
    | some g, some h, some l => some ⟨⟨g.lower h, l⟩, commonFeatures own base, min base.offer 30000⟩
    | _, _, _ => none

/-- R2 to R4: what the records of an attempt agree. -/
def agree (straps : Straps) (attempt : Nat) (locked : BitVec 4) (r : BaseRecord) : Option Agreement :=
  agreeRecords (ownRecord straps attempt locked) r

/-- The lanes of a lane set. -/
def LaneSet.mask : LaneSet → BitVec 4
  | .one => 0x1
  | .two => 0x3
  | .four => 0xF

/-- Whether a lane belongs to a lane set. -/
def LaneSet.has (l : LaneSet) (lane : Fin 4) : Bool := l.mask.getLsbD lane.val

/-! ### Changes of link state -/

/-- R189: an abandoned notice is discarded when another waits. -/
def dropAbandoned (sent : Bool) (q : List Message) : List Message :=
  match sent, q with
  | true, m :: ms => if m.role = .notice ∧ ms.any (fun n => n.role == .notice) then ms else m :: ms
  | _, ms => ms

/-- R22, R24: the block in transmission is abandoned and a waiting beat is dropped; a beat that carried TIME_STEP sets
the mark again (R19). -/
def Tlc.abandonTx (t : Tlc) : Tlc :=
  let carried := (match t.tx with
    | some (.beat b) => b.timeStep
    | _ => false) || t.beat.any (·.timeStep)
  { t with tx := none, beat := none, stepBeat := t.stepBeat || carried }

/-- R14: an OK reply to LINK_SLEEP whose mark is cleared is an ordinary reply. -/
def calmReply (m : Message) : Message := if m.role = .sleepReply then { m with role := .reply } else m

/-- R14: the sleep-pending mark is cleared. -/
def State.forgetSleep (s : State) : State :=
  (s.modTlc fun t => { t with sleepPending := false }).modCmu fun c =>
    { c with outTether := c.outTether.map calmReply, outService := c.outService.map calmReply }

/-- What leaving ACTIVE ends (R14, R22, R24, R189). -/
def State.leaveActive (s : State) : State :=
  ((s.modCmu fun c => { c with outTether := dropAbandoned (s.headSent .tether) c.outTether }).modTlc
    Tlc.abandonTx).forgetSleep

/-- R209: when the link leaves ACTIVE before a RESTART reply of the TETHER port has left, the reset takes place. -/
def State.restartOnLeave (s : State) : State := if s.cmu.restart = some .tether then s.doRestart else s

/-- R10: the link enters RETRAIN; the FST is told (R12). DESIGN CHOICE 54: RETRAIN is raised before the FST raises
FRAME_DAMAGED (R80), of which 10.8 lets either be first. DESIGN CHOICE 70: RETRAIN is raised before the notice in transmission is
abandoned (R189), FRAME_DAMAGED after it. -/
def State.enterRetrain (s : State) (c : Channel) : State :=
  let s := s.modTlc fun t => { t with link := .retrain c 1 s.lt, retrainAt := some s.lt }
  (((s.raise .retrain).bump .retrainEntries).leaveActive.abandon).restartOnLeave

/-- R6, R12: the link enters DOWN from TRAINING or RETRAIN; the FST, the CMU and the PMG are told. LINK_DOWN is raised before the
role is released and the budget formed (DEDUCED 37), and FRAME_DAMAGED (R80) between LINK_DOWN and the release (DESIGN CHOICE 77). -/
def State.enterDown (s : State) : State :=
  let s := s.modTlc fun t => { t with link := .down (some (s.lt + Config.retryInterval)) }
  let s := ((s.raise .linkDown).bump .linkDownEntries).abandon
  (if s.cmu.role = some .tether then s.release .tether else s).formBudget

/-- R12, R162: the PMG is told of an entry into ACTIVE or SLEEP. -/
def State.tellPmg (s : State) (standby : Bool) : State :=
  ((s.modPmg fun p => { p with standby := standby }).formBudget).formTarget

/-- R3: the line delay, half the round-trip time rounded to whole µs; the round-trip time is in ns (DESIGN CHOICE 29). -/
def lineDelayOf (roundTrip : Nat) : Nat := (roundDiv roundTrip 2000).toNat

/-- R7, R11, R12: what every entry into ACTIVE does, with the line delay measured (R3); the opportunity of R22 comes last. -/
def State.enterActive (s : State) (c : Channel) (roundTrip : Nat) : State :=
  s.modTlc fun t => { t with link := .active c, lineDelay := lineDelayOf roundTrip, crcCount := 0 }

/-- R13, R12: the link enters SLEEP; the PMG, the MSU and the SOU are told. DESIGN CHOICE 66: they act in this order, so that
VOICE_END from the AUDIO rail is raised before PROC_DONE from the IMUs. DESIGN CHOICE 70: the notice in transmission is abandoned
(R189) before any of them acts. -/
def State.enterSleep (s : State) : State :=
  let s := (s.modTlc fun t => { t with link := .sleep }).bump .sleepEntries
  (((s.leaveActive.tellPmg true).imusOff).scanOff).restartOnLeave

/-- R12, R15: a sleeping link enters TRAINING; the MSU and the SOU are told. -/
def State.wake (s : State) : State :=
  ((s.modTlc fun t => { t with link := .training 1 s.lt none }).startImus).scanStart

/-- R3, R5: a training attempt fails. -/
def State.trainingFails (s : State) : State :=
  match s.tlc.link with
  | .training n _ _ =>
    let s := s.bump .trainingFailures
    if n < 6 then s.modTlc fun t => { t with link := .training (n + 1) s.lt none } else s.enterDown
  | _ => s

/-- R11: the gear below another; G1 has none. -/
def Gear.below : Gear → Option Gear
  | .g1 => none
  | .g2 => some .g1
  | .g3 => some .g2

/-- R11: a retrain attempt fails. -/
def State.retrainFails (s : State) : State :=
  match s.tlc.link with
  | .retrain c n _ =>
    let s := s.bump .trainingFailures
    if n < 3 then s.modTlc fun t => { t with link := .retrain c (n + 1) s.lt }
    else
      match c.gear.below with
      | some g =>
        ((s.modTlc fun t => { t with link := .retrain { c with gear := g } 1 s.lt }).raise .gearReduced).bump
          .gearReductions
      | none => s.enterDown
  | _ => s

/-! ### Training and retraining rows -/

/-- TRAINING_RECORD_RECEIVED (R4): the first record of an attempt is judged. -/
def execTrainingRecordReceived (r : BaseRecord) (locked : BitVec 4) (s : State) : Host.Outcome State Fault Refusal :=
  .next (
    match s.tlc.link with
    | .training n began none =>
      match agree s.straps n locked r with
      | some a => s.modTlc fun t => { t with link := .training n began (some a) }
      | none => s.trainingFails
    | _ => s)

/-- TRAINING_ATTEMPT_SUCCEEDS (R7). -/
def execTrainingAttemptSucceeds (roundTrip : Nat) (s : State) : Host.Outcome State Fault Refusal :=
  .next (
    match s.tlc.link with
    | .training _ began (some a) =>
      if s.lt ≤ began + Config.attemptLimit then
        let s := (s.enterActive a.channel roundTrip).modTlc fun t =>
          { t with features := some a.features, offer := some a.offer }
        ((s.raise .trained).tellPmg false).opportunity
      else s
    | _ => s)

/-- TRAINING_ATTEMPT_TIMEOUT (R3). -/
def execTrainingAttemptTimeout (s : State) : Host.Outcome State Fault Refusal :=
  .next (
    match s.tlc.link with
    | .training _ began _ => if began + Config.attemptLimit ≤ s.lt then s.trainingFails else s
    | _ => s)

/-- RETRAIN_ATTEMPT_SUCCEEDS (R11). -/
def execRetrainAttemptSucceeds (roundTrip : Nat) (s : State) : Host.Outcome State Fault Refusal :=
  .next (
    match s.tlc.link with
    | .retrain c _ began =>
      if s.lt ≤ began + Config.attemptLimit then ((s.enterActive c roundTrip).tellPmg false).opportunity else s
    | _ => s)

/-- RETRAIN_ATTEMPT_TIMEOUT (R11). -/
def execRetrainAttemptTimeout (s : State) : Host.Outcome State Fault Refusal :=
  .next (
    match s.tlc.link with
    | .retrain _ _ began => if began + Config.attemptLimit ≤ s.lt then s.retrainFails else s
    | _ => s)

/-- R10: whether the link has entered RETRAIN at this very moment: it is in attempt 1 since then. An event that would enter it
too comes together with the entry and is taken second (DEDUCED 49). A new group of attempts (R11) is no entry. -/
def State.retrainJustBegun (s : State) : Bool :=
  match s.tlc.link with
  | .retrain _ n began => n == 1 && began == s.lt && s.tlc.retrainAt == some s.lt
  | _ => false

/-- SYMBOL_LOCK_LOST (R3, R10, R11) on a lane. -/
def execSymbolLockLost (lane : Fin 4) (s : State) : Host.Outcome State Fault Refusal :=
  .next (
    match s.tlc.link with
    | .active c => if c.lanes.has lane then s.enterRetrain c else s
    | .retrain c _ _ => if c.lanes.has lane && !s.retrainJustBegun then s.retrainFails else s
    | .training _ _ (some a) => if a.channel.lanes.has lane then s.trainingFails else s
    | _ => s)

/-- RETRY_TIMER_EXPIRY (R6). -/
def execRetryTimerExpiry (s : State) : Host.Outcome State Fault Refusal :=
  .next (
    match s.tlc.link with
    | .down (some e) => if e ≤ s.lt then s.modTlc fun t => { t with link := .training 1 s.lt none } else s
    | _ => s)

/-- LINE_ENERGY_DETECTED (R15): wakes a sleeping link; in DOWN it has no effect (R6). -/
def execLineEnergyDetected (s : State) : Host.Outcome State Fault Refusal := .next (if s.asleep then s.wake else s)

/-! ### Discarded blocks and error windows (R8, R9, R21, R213) -/

/-- R8, R21: a downstream block arrives on the lanes: its command goes to the end of the command queue of the interface, behind
those that arrived before it. The sender may queue the command itself. -/
def State.blockArrives (s : State) (b : List Byte) : State := { s with pending := s.pending ++ [commandOfBlock b] }

/-- R8, R9: a CRC error. -/
def State.crcError (s : State) : State :=
  let s := (s.bump .linkCrcErrors).modTlc fun t => { t with crcCount := t.crcCount + 1 }
  match s.tlc.link with
  | .active c => if s.tlc.threshold ≤ s.tlc.crcCount then s.enterRetrain c else s
  | _ => s

/-- The effect of discarding a block for a reason. -/
def State.discard (s : State) (d : Discard) : State :=
  match d with
  | .crc => s.crcError
  | .stream => s.bump .linkUnknownStream
  | .linkKind => s.bump .linkMarksIgnored
  | .pictureKind => s.bump .pictureStrayBlocks

/-- LINK_BLOCK_DISCARDED (R8): a block that passes every check is not discarded. R10: a CRC error that comes together
with an entry into RETRAIN and is taken second only moves its counter. -/
def execLinkBlockDiscarded (block : List Byte) (s : State) : Host.Outcome State Fault Refusal :=
  .next (
    if s.linkActive then
      match judgeBlock block with
      | some d => s.discard d
      | none => s
    else if s.retrainJustBegun && judgeBlock block == some .crc then s.bump .linkCrcErrors
    else s)

/-- CRC_WINDOW_BOUNDARY (R9). -/
def execCrcWindowBoundary (s : State) : Host.Outcome State Fault Refusal :=
  .next (if s.lt % 1000 = 0 then s.modTlc fun t => { t with crcCount := 0 } else s)

/-! ### Time (R17 to R20) -/

/-- R17: the error of a mark that carries link time `t`. -/
def State.markError (s : State) (t : Nat) : Int := (t : Int) + s.tlc.lineDelay - s.linkTime

/-- R18, R19: the offset is held, slewed or stepped. -/
def State.moveOffset (s : State) (e : Int) : State :=
  if e.natAbs ≤ 2 then s
  else if e.natAbs ≤ 500 then s.modTlc fun t => { t with offset := t.offset + (if 0 < e then 1 else -1) }
  else
    ((s.modTlc fun t =>
      { t with offset := t.offset + e, stepMotion := true, stepCapture := true, stepBeat := true }).raise
        .timeStep).bump .timeSteps

/-- R20: the basis is LOCKED from now. -/
def State.lockBasis (s : State) : State := (s.modTlc fun t => { t with basis := .locked s.lt }).lower .timeFree

/-- TIME_MARK (R17). DESIGN CHOICE 74: a step raises TIME_STEP before TIME_FREE clears. -/
def execTimeMark (payload : List Byte) (s : State) : Host.Outcome State Fault Refusal :=
  .next (
    if s.linkActive then
      match parseTimeMark payload with
      | none => s.bump .linkMarksIgnored
      | some t => (s.moveOffset (s.markError t)).lockBasis
    else s)

/-- TIME_BASIS_FREE (R20). -/
def execTimeBasisFree (s : State) : Host.Outcome State Fault Refusal :=
  .next (
    match s.tlc.basis with
    | .locked since =>
      if since + Config.basisHold ≤ s.lt then (s.modTlc fun t => { t with basis := .free }).raise .timeFree else s
    | .free => s)

/-! ### Sleep and wake (R13 to R15) -/

/-- Whether SLEEP is in the agreed feature set. -/
def Tlc.mayWait (t : Tlc) : Bool := t.features.any (·.sleep)

/-- SLEEP_MARK (R13): whatever follows in its payload is ignored (R217). -/
def execSleepMark (_payload : List Byte) (s : State) : Host.Outcome State Fault Refusal :=
  .next (
    if s.linkActive then
      if s.tlc.mayWait then s.enterSleep else s.bump .linkMarksIgnored
    else s)

/-- R14: LINK_SLEEP. -/
def linkSleepBy (s : State) : Answer :=
  if !s.linkActive || !s.tlc.mayWait then .plain s .wrongState
  else if s.tlc.sleepPending then .ok s []
  else ⟨s.modTlc fun t => { t with sleepPending := true }, .ok, [], .sleepReply⟩

/-- LINK_SLEEP (R14). -/
def execLinkSleep (p : Port) (tag : Byte) (payload : List Byte) (s : State) : Host.Outcome State Fault Refusal :=
  .next (s.request .linkSleep p tag payload (withoutArgs payload linkSleepBy))

/-- R15: a change into WORN wakes a sleeping link when WAKE_BEACON was agreed, with a wake beacon first. -/
def State.wearWakes (s : State) (old : Wear) : State :=
  if s.asleep && old != .worn && s.msu.wear == .worn && s.tlc.features.any (·.wakeBeacon) then
    (s.modTlc fun t => { t with beacons := t.beacons + 1 }).wake
  else s

/-- WEAR_READ_DONE (R42, R15). -/
def execWearReadDone (r : WearResult) (s : State) : Host.Outcome State Fault Refusal :=
  .next (if s.msu.wearBusy then (s.wearRead r).wearWakes s.msu.wear else s)

/-! ### The status beat (R24, R25) -/

/-- R25: the values of a beat built now; `carries` is its TIME_STEP flag. -/
def State.buildBeat (s : State) (carries : Bool) : Beat :=
  { linkTime := s.linkTime
    lastBlank := s.sou.lastBlank
    freeSlots := s.fst.slots.count .free
    showing := (s.fst.slots.find .showing).map (·.frame)
    fill := s.aud.buffer.length
    level := s.pmg.level
    wear := s.msu.wear
    summary := setMask s.ntu.summary
    timeStep := carries
    freeTime := s.tlc.basis == .free }

/-- R24: whether a beat not yet built is due. DESIGN CHOICE 73: a beat may fall due at the very multiple of 1,000 µs at which the link
entered ACTIVE (R7). -/
def State.beatDue (s : State) : Bool := s.linkActive && s.lt % 1000 == 0 && s.tlc.beatTakenAt != some s.lt

/-- R19, R24: the beat is built; one still unsent is replaced, and its TIME_STEP goes to the new one. DESIGN CHOICE 75: a beat in
transmission is not unsent; it goes on, and the new one waits. -/
def State.takeBeat (s : State) : State :=
  let b := s.buildBeat (s.tlc.stepBeat || s.tlc.beat.any (·.timeStep))
  let s := if s.tlc.beat.isSome then s.bump .beatsReplaced else s
  (s.modTlc fun t => { t with beat := some b, stepBeat := false, beatTakenAt := some s.lt }).opportunity

/-- STATUS_BEAT_DUE (R24). -/
def execStatusBeatDue (s : State) : Host.Outcome State Fault Refusal := .next (if s.beatDue then s.takeBeat else s)

/-! ### Messages that have left the part (R22, R200, R14, R209) -/

/-- What follows when a message has left on a port: the sleep of R14, the reset of R209, the entry of R200. -/
def State.messageLeft (s : State) (p : Port) (role : MessageRole) : State :=
  match role with
  | .notice => s
  | .reply => s.replyLeft p
  | .sleepReply => if s.tlc.sleepPending then (s.replyLeft p).enterSleep else s.replyLeft p
  | .restartReply => (s.replyLeft p).doRestart

/-- R22: the block in transmission has been sent whole and leaves its queue. -/
def State.blockSent (s : State) (x : Transmission) : State :=
  let s := s.modTlc fun t => { t with tx := none }
  match x with
  | .beat _ | .detached _ => s
  | .motion => s.modMsu fun m => { m with queue := m.queue.tail }
  | .capture => s.modAud fun a => { a with queue := a.queue.tail }
  | .control =>
    match s.cmu.outTether with
    | [] => s
    | m :: ms => (s.modCmu fun c => { c with outTether := ms }).messageLeft .tether m.role

/-- UPSTREAM_BLOCK_SENT (R22): then the next opportunity. -/
def execUpstreamBlockSent (s : State) : Host.Outcome State Fault Refusal :=
  .next (
    if s.linkActive then
      match s.tlc.tx with
      | some x => (s.blockSent x).opportunity
      | none => s
    else s)

/-- R201: the frame of the UART has left whole. -/
def State.frameSent (s : State) : State :=
  let sent := s.cmu.serviceTx
  let s := s.modCmu fun c => { c with serviceTx := .idle }
  match sent, s.cmu.outService with
  | .head, m :: ms => (s.modCmu fun c => { c with outService := ms }).messageLeft .service m.role
  | _, _ => s

/-- SERVICE_FRAME_SENT (R201): then the UART begins the next message. -/
def execServiceFrameSent (s : State) : Host.Outcome State Fault Refusal :=
  .next (if s.cmu.serviceTx = .idle then s else s.frameSent.uartStart)

end Sys2Proof.Machine
end

