-- ==== Sys2Proof/Machine/Report.lean ====
section
/-!
DEFINITION. The values of the read-only replies, as bytes: GET_INFO (R204), GET_STATUS (R205), READ_CONDITIONS (R192),
READ_COUNTERS (R194), GET_PROCEDURE_RESULT (R171). The coding is R215's: see notes/assumptions, entry 13.
-/

namespace Sys2Proof.Machine

/-- A set of enumerated values: one bit for each value, in order (R215). -/
def bitsByte (bs : List Bool) : List Byte := flagsByte bs

/-- Seconds, milliseconds, counts and the like: 4 bytes. -/
def countBytes (n : Nat) : List Byte := leBytes 4 n

/-- A time left until an expiry, none when nothing runs. -/
def leftBytes (now : Nat) (t : Option Nat) : List Byte := optBytes 4 (t.map fun e => countBytes (e - now))

/-! ### GET_INFO (R204) -/

/-- The lanes of a MAXLANES strap. -/
def maxLanesNumber : MaxLanes → Nat
  | .one => 1
  | .two => 2
  | .four => 4

/-- The straps' values (R206): a number, an enumerated value, two settings. -/
def strapsBytes (x : Straps) : List Byte :=
  countBytes (maxLanesNumber x.maxLanes) ++ codeByte x.fallback.ctorIdx ++ boolByte x.serviceEn ++
    boolByte x.storePresent

/-- The store state by its place in R204; the model's own value before the load has the next code. -/
def StoreState.code : StoreState → Nat
  | .loaded => 0
  | .defaultedAbsent => 1
  | .defaultedBad => 2
  | .loading => 3

/-- The controlling port, or none. -/
def rolePort (c : Cmu) : List Byte := optBytes 1 (c.role.map fun p => codeByte (portCode p))

/-- R204: the values of GET_INFO. -/
def State.infoBytes (s : State) (carrying : Port) : List Byte :=
  Config.partCode ++ countBytes Config.revision ++ strapsBytes s.straps ++ codeByte s.cmu.storeState.code ++
    rolePort s.cmu ++ codeByte (portCode carrying) ++ timeBytes s.lt

/-! ### GET_STATUS (R205), group by group -/

/-- The link states by their place in 1.1. -/
def Link.code : Link → Nat
  | .down _ => 0
  | .training .. => 1
  | .active _ => 2
  | .retrain .. => 3
  | .sleep => 4

/-- The current gear and lanes (R1). -/
def Link.channel : Link → Option Channel
  | .active c => some c
  | .retrain c _ _ => some c
  | _ => none

/-- The attempt number, held in TRAINING and RETRAIN. -/
def Link.attempt : Link → Option Nat
  | .training n _ _ => some n
  | .retrain _ n _ => some n
  | _ => none

/-- LINK. -/
def State.linkBytes (s : State) : List Byte :=
  let t := s.tlc
  codeByte t.link.code ++ optBytes 1 (t.link.channel.map fun c => codeByte c.gear.ctorIdx) ++
    optBytes 1 (t.link.channel.map fun c => codeByte c.lanes.mask.toNat) ++
    optBytes 1 (t.features.map fun f => bitsByte [f.sleep, f.wakeBeacon]) ++ optBytes 4 (t.offer.map countBytes) ++
    countBytes t.lineDelay ++ numBytes t.offset ++ codeByte (if t.basis = .free then 1 else 0) ++
    countBytes t.threshold ++ optBytes 4 (t.link.attempt.map countBytes)

/-- The IMU states by their place in 2.2. -/
def ImuState.code : ImuState → Nat
  | .off => 0
  | .starting .. => 1
  | .running => 2
  | .fault _ => 3

/-- MOTION. -/
def State.motionBytes (s : State) : List Byte :=
  let m := s.msu
  codeByte m.a.state.code ++ codeByte m.b.state.code ++ countBytes s.effectiveRate ++ leBytes 2 m.requestedRate ++
    countBytes m.queue.length ++ codeByte m.wear.code ++
    (leBytes 2 m.wornThreshold ++ leBytes 2 m.removedThreshold ++ leBytes 2 m.awayTime) ++
    optBytes 4 (m.wearReading.map countBytes)

/-- ORIENTATION. -/
def State.orientationBytes (s : State) : List Byte :=
  let o := s.oin
  o.angles.bytes ++ o.residues.bytes ++ o.rates.bytes ++ codeByte (sensorCode o.primary) ++
    boolByte o.failoverPending ++ countBytes o.ring.length ++
    optBytes 8 (o.ring.getLast?.map fun e => timeBytes e.time) ++ o.axisMap.bytes ++ o.biasA.bytes ++ o.biasB.bytes ++
    optBytes 12 (o.pose.map Angles.bytes)

/-- A slot's record (4.2); a FREE slot's other fields are none. -/
def Slot.bytes (t : Slot) : List Byte :=
  let used (v : List Byte) : Option (List Byte) := if t.state = .free then none else some v
  codeByte t.state.ctorIdx ++ optBytes 4 (used (leBytes 4 t.frame.toNat)) ++
    optBytes 12 (if t.state = .free then none else t.pose.map Angles.bytes) ++
    optBytes 8 (used (timeBytes t.renderTime)) ++ optBytes 4 (used (countBytes t.left.length)) ++
    optBytes 4 (used (countBytes t.right.length)) ++ optBytes 4 (used (countBytes t.repeats)) ++
    optBytes 1 (used (bitsByte [t.unposed, t.clamped]))

/-- PICTURE. -/
def State.pictureBytes (s : State) : List Byte :=
  s.fst.profile.bytes ++ s.fst.slots.toList.flatMap Slot.bytes ++
    optBytes 4 (s.fst.newest.map fun n => leBytes 4 n.toNat) ++ codeByte s.sou.scanOut.ctorIdx

/-- A pair of numbers. -/
def pairBytes (u v : Int) : List Byte := numBytes u ++ numBytes v

/-- A shift record (5.7). -/
def ShiftRecord.bytes (r : ShiftRecord) : List Byte :=
  codeByte r.basis.ctorIdx ++ optBytes 8 (r.blankStart.map fun t => timeBytes t) ++
    optBytes 8 (r.display.map fun t => timeBytes t) ++ optBytes 4 (r.lead.map numBytes) ++ boolByte r.leadClamped ++
    optBytes 8 (r.predicted.map fun y => pairBytes y.yaw y.pitch) ++
    optBytes 8 (r.error.map fun y => pairBytes y.yaw y.pitch) ++ pairBytes r.unclamped.h r.unclamped.v ++
    pairBytes r.applied.h r.applied.v ++ boolByte r.clamped

/-- SHIFT. DESIGN CHOICE 13: eye by eye, each with its applied shifts and then its record. -/
def State.shiftBytes (s : State) : List Byte :=
  pairBytes s.sou.left.applied.h s.sou.left.applied.v ++ s.sou.left.bytes ++
    pairBytes s.sou.right.applied.h s.sou.right.applied.v ++ s.sou.right.bytes

/-- The staged set as in STAGE_PULSES. -/
def PulseSet.staged (p : PulseSet) : List Byte :=
  leBytes 2 p.left.offset ++ leBytes 2 p.left.width ++ leBytes 2 p.right.offset ++ leBytes 2 p.right.width

/-- The active set. -/
def PulseSet.active (p : PulseSet) : List Byte :=
  countBytes p.left.offset ++ countBytes p.left.width ++ countBytes p.right.offset ++ countBytes p.right.width

/-- ILLUMINATION. -/
def State.illuminationBytes (s : State) : List Byte :=
  let g := s.ilg
  g.staged.staged ++ boolByte g.interleaveRequest ++ g.active.active ++ boolByte g.interleaved ++
    optBytes 1 (g.levelAtCopy.map fun l => codeByte l.code) ++ codeByte g.output.ctorIdx ++
    bitsByte ([DarkCause.shedL3, .rail, .scan, .away].map s.causeHolds)

/-- AUDIO. -/
def State.audioBytes (s : State) : List Byte :=
  let a := s.aud
  codeByte a.playback.ctorIdx ++ leBytes 2 a.buffer.length ++ leBytes 2 a.target ++
    optBytes 4 (a.lastErr.map numBytes) ++ codeByte a.runDirection.ctorIdx ++ countBytes a.runLength ++
    codeByte a.requested ++ attenuationBytes s.effective ++ attenuationBytes a.applied ++ boolByte a.mute ++
    boolByte a.captureEnabled ++ boolByte (a.gate != .disabled) ++ leBytes 2 a.openThreshold ++ leBytes 2 a.hangover ++
    codeByte a.gate.ctorIdx ++ countBytes a.loudRun ++ countBytes a.quietRun ++ countBytes a.queue.length

/-- A measurement with its figures and cable drop. -/
def Measurement.bytes (m : Measurement) : List Byte :=
  countBytes m.vin ++ countBytes m.iin ++ countBytes m.iinEff ++ countBytes m.pIn ++ countBytes m.pLoss ++
    countBytes m.pTotal ++ countBytes m.drop

/-- The rail states by their place in 8.5. -/
def RailState.code : RailState → Nat
  | .off => 0
  | .ramping _ => 1
  | .on => 2
  | .fault => 3

/-- The ramp timer of a rail. -/
def RailState.timer : RailState → Option Nat
  | .ramping e => some e
  | _ => none

/-- POWER. DESIGN CHOICE 13: the rails one by one, each state followed by its time left. -/
def State.powerBytes (s : State) : List Byte :=
  let p := s.pmg
  optBytes 28 (p.meas.map Measurement.bytes) ++ countBytes p.budget ++ codeByte p.level.code ++ countBytes p.rise ++
    countBytes p.fall ++ codeByte p.supply.ctorIdx ++ countBytes p.cut ++ countBytes p.recovery ++
    railOrder.flatMap (fun x => codeByte (p.rails.get x).code ++ leftBytes s.lt (p.rails.get x).timer) ++
    codeByte p.target.ctorIdx ++ boolByte p.standby ++ countBytes p.rCable ++ boolByte p.testLoad ++ p.limits.bytes

/-- COMMAND. -/
def State.commandBytes (s : State) : List Byte :=
  let c := s.cmu
  rolePort c ++ countBytes c.queue.length ++ countBytes (c.queue.countP (·.complete)) ++
    countBytes c.outTether.length ++ countBytes c.outService.length ++ boolByte s.straps.serviceEn

/-- R205: the values of a group. -/
def State.groupBytes (s : State) : StatusGroup → List Byte
  | .link => s.linkBytes
  | .motion => s.motionBytes
  | .orientation => s.orientationBytes
  | .picture => s.pictureBytes
  | .shift => s.shiftBytes
  | .illumination => s.illuminationBytes
  | .audio => s.audioBytes
  | .power => s.powerBytes
  | .command => s.commandBytes

/-! ### READ_CONDITIONS (R192) and READ_COUNTERS (R194) -/

/-- Whether a notice waits in the controlling port's outgoing queue. -/
def State.noticeWaits (s : State) : Bool :=
  match s.cmu.role with
  | some p => hasWaiting (s.headSent p) (s.cmu.out p)
  | none => false

/-- R192: the values of READ_CONDITIONS. -/
def State.conditionBytes (s : State) : List Byte :=
  let n := s.ntu
  CondSet.all.flatMap (fun c => maskBytes (n.pending.get c) ++ maskBytes (n.enabled.get c)) ++ [setMask n.summary] ++
    codeByte n.holdoff ++ leftBytes s.lt n.timer ++ boolByte n.due ++ boolByte s.noticeWaits ++
    leBytes 2 n.number.toNat ++ boolByte n.attn ++ leftBytes s.lt n.quiet

/-- The counters of some groups, in the order of 10.6. -/
def countersOf (gs : List CounterGroup) : List Counter := gs.flatMap CounterGroup.members

/-- R194: the values of READ_COUNTERS. -/
def State.counterBytes (s : State) (gs : List CounterGroup) : List Byte :=
  (countersOf gs).flatMap fun c => countBytes (s.count c)

/-! ### GET_PROCEDURE_RESULT (R171) -/

/-- One value of a result record. -/
def ProcValue.bytes : ProcValue → List Byte
  | .target x => codeByte (sensorCode x)
  | .number n => numBytes n
  | .time t => timeBytes t
  | .recorded => codeByte 0
  | .pendingMark => codeByte 1

/-- R171: the progress, for CABLE_MEASURE the phase in progress and the measurements taken. -/
def Work.progress : Work → Option (Nat × Nat)
  | .cable count .. => some (min 3 (count / 1000 + 1), count)
  | _ => none

/-- The running procedure. -/
def Proc.bytes (q : Proc) : List Byte :=
  codeByte q.work.kind.ctorIdx ++ countBytes q.run ++
    optBytes 8 (q.work.progress.map fun g => countBytes g.1 ++ countBytes g.2)

/-- R170: the result record. -/
def ResultRecord.bytes (r : ResultRecord) : List Byte :=
  codeByte r.kind.ctorIdx ++ countBytes r.run ++ codeByte r.result.ctorIdx ++ timeBytes r.acceptedAt ++
    timeBytes r.endedAt ++ r.values.flatMap ProcValue.bytes

/-- R171: the values of GET_PROCEDURE_RESULT. -/
def Prr.bytes (q : Prr) : List Byte :=
  codeByte (if q.running.isSome then 1 else 0) ++ optBytes 14 (q.running.map Proc.bytes) ++
    optBytes 22 (q.result.map ResultRecord.bytes)

end Sys2Proof.Machine
end

