-- ==== Sys2Proof/Machine/Control.lean ====
section
/-!
DEFINITION. Chapter 11: arrivals on the two ports (R198, R200, R213), unknown kinds (R199), the controller role (R202,
R203), GET_INFO and GET_STATUS (R204, R205), RESTART (R209).
-/

namespace Sys2Proof.Machine

/-! ### Arrivals -/

/-- CONTROL_BLOCK_RECEIVED (R200); a payload too short to hold a body is discarded (R213). -/
def execControlBlockReceived (payload : List Byte) (s : State) : Host.Outcome State Fault Refusal :=
  .next (
    if s.linkActive then if payload.length < 2 then s.bump .linkUnknownStream else s.arrive .tether payload
    else s)

/-- R197: the SERVICE port takes frames. -/
def State.serviceOpen (s : State) : Bool := s.straps.serviceEn && s.cmu.storeState != .loading

/-- The sync byte of a service frame (R212). -/
def syncByte : Byte := 0xA5

/-- How the bytes from a sync byte on are judged (R198). -/
inductive Heard where
  | partly
  | bad
  | whole (body rest : List Byte)
  deriving DecidableEq, Repr

/-- R198, R212, R213: judge the bytes after a sync byte. -/
def hear (bs : List Byte) : Heard :=
  if bs.length < 2 then .partly
  else
    let n := natAt bs 0 2
    if n = 0 ∨ 2048 < n then .bad
    else if bs.length < n + 4 then .partly
    else if crc16 (bs.take (n + 2)) ≠ natAt bs (n + 2) 2 ∨ n < 2 then .bad
    else .whole (slice bs 2 n) (bs.drop (n + 4))

/-- R198: hunt through the bytes received; the search goes on after the sync byte of a bad frame. `late` says that no
more bytes of a frame partly received can come in time. The first argument bounds the search. -/
def State.hunt (late : Bool) : Nat → List Byte → State → State
  | 0, rx, s => s.modCmu fun c => { c with rx := rx }
  | _, [], s => s.modCmu fun c => { c with rx := [] }
  | n + 1, b :: bs, s =>
    if b ≠ syncByte then s.hunt late n bs
    else
      match hear bs with
      | .whole body rest => (s.arrive .service body).hunt late n rest
      | .bad => (s.bump .serviceFramesBad).hunt late n bs
      | .partly =>
        if late then (s.bump .serviceFramesBad).hunt late n bs else s.modCmu fun c => { c with rx := b :: bs }

/-- Whether a frame is partly received and its next byte can no longer come in time (R198). -/
def State.byteLate (s : State) : Bool := !s.cmu.rx.isEmpty && decide (s.cmu.rxLast + 1000 < s.lt)

/-- R198: a frame partly received is bad when more than 1,000 µs pass before its next byte. -/
def State.timeOutBytes (s : State) : State :=
  if s.byteLate then s.hunt true (s.cmu.rx.length + 1) s.cmu.rx else s

/-- SERVICE_BYTE_TIMEOUT (R198). -/
def execServiceByteTimeout (s : State) : Host.Outcome State Fault Refusal := .next s.timeOutBytes

/-- R198: bytes are received. -/
def State.hearBytes (s : State) (bytes : List Byte) : State :=
  let rx := s.cmu.rx ++ bytes
  (s.modCmu fun c => { c with rxLast := s.lt }).hunt false (rx.length + 1) rx

/-- SERVICE_FRAME_RECEIVED (R198). -/
def execServiceFrameReceived (bytes : List Byte) (s : State) : Host.Outcome State Fault Refusal :=
  .next (if s.serviceOpen && !bytes.isEmpty then s.timeOutBytes.hearBytes bytes else s)

/-- UNKNOWN_KIND (R199): a kind that names a request is not replied so. -/
def execUnknownKind (p : Port) (tag kind : Byte) (payload : List Byte) (s : State) : Host.Outcome State Fault Refusal :=
  .next (
    if !knownKind kind && s.turn kind p tag payload then s.reply kind p tag .unknownKind [] .reply else s)

/-! ### The controller role (R202, R203) -/

/-- R202: ATTACH: the answer, with the role taken where it was free. -/
def attachTo (p : Port) (s : State) : Answer :=
  match s.cmu.role with
  | none => .ok (s.modCmu fun c => { c with role := some p }) (codeByte (portCode p))
  | some q =>
    if q = p then .ok s (codeByte (portCode p)) else ⟨s, .notController, codeByte (portCode q), .reply⟩

/-- R183, R187: whether raising a condition now makes it signalled. -/
def Ntu.newlySignals (n : Ntu) (c : Condition) : Bool := n.enabled.has c && !n.pending.has c

/-- R190, R202: the role has been taken: CONTROLLER_CHANGE is raised and a notice is due for it, and one more when the
summary was not empty. The two lead to one issue, or to one issue and a due mark: with a holdoff of 0, under which no timer
stands between them, the issue of the first serves both (DEDUCED 17). -/
def State.roleTaken (s : State) : State :=
  let more := !s.ntu.summary.isEmpty && !(s.ntu.newlySignals .controllerChange && s.ntu.holdoff == 0)
  let s := s.raise .controllerChange
  (if more then s.noticeDue else s).attend

/-- ATTACH (R202). DEDUCED 15: the reply is placed before the notice (11.9). -/
def execAttach (p : Port) (tag : Byte) (payload : List Byte) (s : State) : Host.Outcome State Fault Refusal :=
  let t := s.request .attach p tag payload (withoutArgs payload (attachTo p))
  .next (
    if s.carried .attach p tag payload && payload.isEmpty && s.cmu.role.isNone then t.roleTaken else t)

/-- DETACH (R203): the role is released when the reply has been formed. -/
def execDetach (p : Port) (tag : Byte) (payload : List Byte) (s : State) : Host.Outcome State Fault Refusal :=
  let t := s.request .detach p tag payload (withoutArgs payload fun s => .ok s [])
  .next (if s.carried .detach p tag payload && payload.isEmpty then t.release p else t)

/-! ### GET_INFO and GET_STATUS -/

/-- GET_INFO (R204). -/
def execGetInfo (p : Port) (tag : Byte) (payload : List Byte) (s : State) : Host.Outcome State Fault Refusal :=
  .next (s.request .getInfo p tag payload (withoutArgs payload fun s => .ok s (s.infoBytes p)))

/-- R205: GET_STATUS. -/
def statusOf (payload : List Byte) (s : State) : Answer :=
  match parseStatusGroups payload with
  | none => .plain s .badArgument
  | some gs => .ok s (gs.flatMap s.groupBytes)

/-- GET_STATUS (R205). -/
def execGetStatus (p : Port) (tag : Byte) (payload : List Byte) (s : State) : Host.Outcome State Fault Refusal :=
  .next (s.request .getStatus p tag payload (statusOf payload))

/-! ### RESTART (R209) -/

/-- R209: the request completes; no further request is carried out until the reset. -/
def restartBy (p : Port) (s : State) : Answer :=
  ⟨s.modCmu fun c => { c with restart := some p }, .ok, [], .restartReply⟩

/-- RESTART (R209): from the TETHER port with the link out of ACTIVE, the reset takes place at once. -/
def execRestart (p : Port) (tag : Byte) (payload : List Byte) (s : State) : Host.Outcome State Fault Refusal :=
  let t := s.request .restart p tag payload (withoutArgs payload (restartBy p))
  .next (
    if s.carried .restart p tag payload && payload.isEmpty && p == .tether && !s.linkActive then t.doRestart else t)

end Sys2Proof.Machine
end

