-- ==== Sys2Proof/Machine/Notices.lean ====
section
/-!
DEFINITION. Chapter 10: READ_CONDITIONS, READ_COUNTERS, CLEAR_CONDITIONS and SET_NOTICE_MASK (R185, R192 to R194), and the
two timers of the NTU (R187, R191).
-/

namespace Sys2Proof.Machine

/-- READ_CONDITIONS (R192). -/
def execReadConditions (p : Port) (tag : Byte) (payload : List Byte) (s : State) : Host.Outcome State Fault Refusal :=
  .next (s.request .readConditions p tag payload (withoutArgs payload fun s => .ok s s.conditionBytes))

/-- R194: READ_COUNTERS; the clear option is the controller's. -/
def readCountersBy (p : Port) (payload : List Byte) (s : State) : Answer :=
  if asksClear payload && s.cmu.role != some p then .plain s .notController
  else
    match parseCounters payload with
    | none => .plain s .badArgument
    | some (gs, clear) => .ok (if clear then s.clearCounts (countersOf gs) else s) (s.counterBytes gs)

/-- READ_COUNTERS (R194). -/
def execReadCounters (p : Port) (tag : Byte) (payload : List Byte) (s : State) : Host.Outcome State Fault Refusal :=
  .next (s.request .readCounters p tag payload (readCountersBy p payload))

/-- R193: what a list of conditions of a set clears: its latched ones; the empty list stands for all of them. -/
def clearable (c : CondSet) (m : BitVec 16) : BitVec 16 := if m = 0 then c.latched else m &&& c.latched

/-- R193: latched conditions are made clear; the summary is re-formed and ATTN follows. -/
def State.clearSet (s : State) (c : CondSet) (m : BitVec 16) : State :=
  (s.modNtu fun n => { n with pending := n.pending.set c (n.pending.get c &&& ~~~(clearable c m)) }).attend

/-- R193: CLEAR_CONDITIONS. -/
def clearBy (payload : List Byte) (s : State) : Answer :=
  match parseClear payload with
  | none => .plain s .badArgument
  | some (c, m) => .ok (s.clearSet c m) (maskBytes ((s.clearSet c m).ntu.pending.get c))

/-- CLEAR_CONDITIONS (R193). -/
def execClearConditions (p : Port) (tag : Byte) (payload : List Byte) (s : State) : Host.Outcome State Fault Refusal :=
  .next (s.request .clearConditions p tag payload (clearBy payload))

/-- R185: a notice is due for each condition that becomes signalled. -/
def State.dueFor (s : State) (cs : List Condition) : State := cs.foldl (fun s _ => s.noticeDue) s

/-- R185: the conditions that a new mask makes signalled. -/
def newlySignalled (pending old new : Masks) : List Condition :=
  Condition.all.filter fun c => pending.has c && new.has c && !old.has c

/-- R185: SET_NOTICE_MASK. -/
def maskBy (payload : List Byte) (s : State) : Answer :=
  match parseMask payload with
  | none => .plain s .badArgument
  | some (m, h) =>
    .ok (((s.modNtu fun n => { n with enabled := m, holdoff := h }).dueFor
      (newlySignalled s.ntu.pending s.ntu.enabled m)).attend) []

/-- SET_NOTICE_MASK (R185). -/
def execSetNoticeMask (p : Port) (tag : Byte) (payload : List Byte) (s : State) : Host.Outcome State Fault Refusal :=
  .next (s.request .setNoticeMask p tag payload (maskBy payload))

/-- R187: the holdoff timer has expired. -/
def State.holdoffExpires (s : State) : State :=
  let due := s.ntu.due
  let s := s.modNtu fun n => { n with timer := none, due := false }
  if due then s.issue else s

/-- HOLDOFF_EXPIRY (R187). -/
def execHoldoffExpiry (s : State) : Host.Outcome State Fault Refusal :=
  .next (if s.expired s.ntu.timer then s.holdoffExpires else s)

/-- QUIET_HOLD_END (R191). -/
def execQuietHoldEnd (s : State) : Host.Outcome State Fault Refusal :=
  .next (if s.expired s.ntu.quiet then (s.modNtu fun n => { n with quiet := none }).attend else s)

end Sys2Proof.Machine
end

