-- ==== Sys2Proof/Machine/Procedures.lean ====
section
/-!
DEFINITION. Chapter 9: START_PROCEDURE, ABORT_PROCEDURE, GET_PROCEDURE_RESULT (R169 to R172), the collection end of a
BIAS_CAL (R175), the sync tick (R179), the store image and WRITE_STORE (R181, R182, R218).
-/

namespace Sys2Proof.Machine

/-! ### The store image (R181, R218) -/

/-- R181, R218: the 95 bytes of the store image, from the settings as they stand. -/
def State.storeImage (s : State) : List Byte :=
  s.fst.profile.bytes ++ s.oin.axisMap.bytes ++ s.oin.biasA.image ++ s.oin.biasB.image ++ s.pmg.limits.bytes ++
    leBytes 2 s.pmg.rCable ++ leBytes 1 s.tlc.threshold ++ leBytes 2 s.loaded.rate ++
    (leBytes 2 s.loaded.wornThreshold ++ leBytes 2 s.loaded.removedThreshold ++ leBytes 2 s.loaded.awayTime) ++
    leBytes 1 s.loaded.requested ++ leBytes 2 s.loaded.target ++ boolByte s.loaded.captureEnabled ++
    boolByte (s.aud.gate != .disabled) ++ leBytes 2 s.aud.openThreshold ++ leBytes 2 s.aud.hangover ++
    s.ntu.enabled.bytes ++ codeByte s.ntu.holdoff

/-- R181: what is written: the image with its CRC-32. -/
def withCrc (image : List Byte) : List Byte := image ++ leBytes 4 (crc32 image)

/-! ### START_PROCEDURE (R169) -/

/-- R179: the sync tick for an acceptance at local time `t`. -/
def syncTick (t period : Nat) : Nat := ceilTo period ((t / 1000 + 1) * 1000 + 2000)

/-- The working state of a procedure accepted now (R174, R176, R179, R181). -/
def State.firstWork (s : State) (a : StartArgs) : Work :=
  match a with
  | .biasCal t duration threshold => .biasCal t (s.lt + duration * 1000) threshold .empty .empty
  | .cableMeasure => .cable 0 0 0 0 0 0 0
  | .sensorSync t => .sync t (syncTick s.lt s.period)
  | .writeStore => .store (withCrc s.storeImage) false

/-- R169: a procedure is accepted. -/
def State.accept (s : State) (a : StartArgs) : State :=
  let n := min Config.counterMax (s.prr.runNumber + 1)
  (s.modPrr fun q => { q with runNumber := n, running := some ⟨n, s.lt, s.firstWork a⟩ }).bump .proceduresAccepted

/-- R169: START_PROCEDURE. -/
def startBy (payload : List Byte) (s : State) : Answer :=
  if s.prr.running.isSome then .plain (s.bump .proceduresBusy) .busy
  else
    match parseStart payload with
    | none => .plain s .badArgument
    | some a => ⟨s.accept a, .accepted, countBytes (s.accept a).prr.runNumber, .reply⟩

/-- The targets that are not RUNNING (R174, R179). -/
def State.notRunning (s : State) (t : Targets) : List Sensor := t.list.filter fun x => !s.imuRunning x

/-- R38, R179: the targets enter sync hold until the sync tick. DESIGN CHOICE 60: a target still held from an earlier
SENSOR_SYNC that has ended FAILED takes the new tick in place of the old one, and an abort of the new procedure ends its
hold. -/
def State.hold (s : State) (t : Targets) (tick : Nat) : State :=
  t.list.foldl (fun s x => s.modImu x fun i => { i with syncAt := some tick }) s

/-- R169: the start check of the procedure just accepted, and the beginning of its work. -/
def State.startCheck (s : State) (a : StartArgs) : State :=
  let failed (t : Targets) : State := s.endProc .notReady ((s.notRunning t).map .target)
  match a with
  | .biasCal t _ _ => if (s.notRunning t).isEmpty then s else failed t
  | .cableMeasure => if s.pmg.supply = .normal then s else s.endProc .notReady []
  | .sensorSync t => if (s.notRunning t).isEmpty then s.hold t (syncTick s.lt s.period) else failed t
  | .writeStore =>
    if s.straps.storePresent then s.modCmu fun c => { c with storeWhole := false } else s.endProc .notReady []

/-- START_PROCEDURE (R169): the start check follows the ACCEPTED reply. -/
def execStartProcedure (p : Port) (tag : Byte) (payload : List Byte) (s : State) : Host.Outcome State Fault Refusal :=
  let t := s.request .startProcedure p tag payload (startBy payload)
  .next (
    if s.carried .startProcedure p tag payload && s.prr.running.isNone then
      match parseStart payload with
      | some a => t.startCheck a
      | none => t
    else t)

/-! ### ABORT_PROCEDURE (R172) and GET_PROCEDURE_RESULT (R171) -/

/-- R180: the sync hold of each target ends at once. -/
def State.unhold (s : State) (t : Targets) : State :=
  t.list.foldl (fun s x => s.modImu x fun i => { i with syncAt := none }) s

/-- What an abort does to the block through which the procedure acts (R177, R180, R182). -/
def State.stopWork (s : State) (w : Work) : State :=
  match w with
  | .biasCal .. | .store .. => s
  | .cable .. => s.load false
  | .sync t _ => s.unhold t

/-- R172: ABORT_PROCEDURE. -/
def abortBy (s : State) : Answer :=
  match s.prr.running with
  | none => .plain s .wrongState
  | some q => .ok ((s.stopWork q.work).endProc .aborted []) []

/-- ABORT_PROCEDURE (R172). -/
def execAbortProcedure (p : Port) (tag : Byte) (payload : List Byte) (s : State) : Host.Outcome State Fault Refusal :=
  .next (s.request .abortProcedure p tag payload (withoutArgs payload abortBy))

/-- GET_PROCEDURE_RESULT (R171). -/
def execGetProcedureResult (p : Port) (tag : Byte) (payload : List Byte) (s : State) :
    Host.Outcome State Fault Refusal :=
  .next (s.request .getProcedureResult p tag payload (withoutArgs payload fun s => .ok s s.prr.bytes))

/-! ### The collection end (R175) -/

/-- R175: the biases of a collection. -/
def Collection.biases (c : Collection) : Axes := c.sums.map fun v => roundDiv v c.count

/-- R175: the ranges of a collection. -/
def Collection.ranges (c : Collection) : Axes := c.maxs.zip (· - ·) c.mins

/-- R175: the calibration temperature. -/
def Collection.temp (c : Collection) : Int := if c.tempCount = 0 then -4096 else roundDiv c.tempSum c.tempCount

/-- R175: whether a range exceeds twice the stillness threshold. -/
def Collection.moved (c : Collection) (threshold : Nat) : Bool :=
  let limit : Int := 2 * threshold
  decide (limit < c.ranges.x) || decide (limit < c.ranges.y) || decide (limit < c.ranges.z)

/-- R175: the six values of a target. -/
def Collection.values (c : Collection) : List ProcValue :=
  [.number c.biases.x, .number c.biases.y, .number c.biases.z, .number c.ranges.x, .number c.ranges.y,
   .number c.ranges.z]

/-- R57: the OIN replaces an IMU's entry of the bias table. -/
def State.writeBias (s : State) (x : Sensor) (c : Collection) : State :=
  s.modOin fun o =>
    match x with
    | .a => { o with biasA := ⟨c.biases, c.temp⟩ }
    | .b => { o with biasB := ⟨c.biases, c.temp⟩ }

/-- The collection of a target. -/
def collectionOf (a b : Collection) : Sensor → Collection
  | .a => a
  | .b => b

/-- R175: the judgement at the collection end. -/
def State.judgeBias (s : State) (t : Targets) (threshold : Nat) (a b : Collection) : State :=
  let col := collectionOf a b
  let empty := t.list.filter fun x => (col x).count == 0
  let values := t.list.flatMap fun x => (col x).values
  if !empty.isEmpty then s.endProc .failed (empty.map .target)
  else if t.list.any fun x => (col x).moved threshold then s.endProc .moved values
  else (t.list.foldl (fun s x => s.writeBias x (col x)) s).endProc .done values

/-- BIAS_CAL_COLLECTION_END (R175). -/
def execBiasCalCollectionEnd (s : State) : Host.Outcome State Fault Refusal :=
  .next (
    match s.prr.running with
    | some ⟨_, _, .biasCal t endAt threshold a b⟩ => if endAt ≤ s.lt then s.judgeBias t threshold a b else s
    | _ => s)

/-! ### WRITE_STORE (R181, R182) -/

/-- STORE_WRITE_COMPLETE (R182): the write has ended and the store is whole. -/
def execStoreWriteComplete (s : State) : Host.Outcome State Fault Refusal :=
  .next (
    match s.prr.running with
    | some ⟨_, _, .store image false⟩ =>
      (s.work (.store image true)).modCmu fun c => { c with storeWhole := true }
    | _ => s)

/-- STORE_READBACK_COMPLETE (R182): the bytes read back are compared with those written. -/
def execStoreReadbackComplete (readBack : List Byte) (s : State) : Host.Outcome State Fault Refusal :=
  .next (
    match s.prr.running with
    | some ⟨_, _, .store image true⟩ =>
      match firstDiff image readBack with
      | none => s.endProc .done [.number image.length]
      | some k => s.endProc .failed [.number image.length, .number k]
    | _ => s)

end Sys2Proof.Machine
end

