-- ==== Sys2Proof/Machine/StartUp.lean ====
section
/-!
DEFINITION. POWER_ON (R206, R208) and the end of the store load (R207), with each block's judgement of its stored settings
(R9, R50, R69, R73, R144, R166, R196).
-/

namespace Sys2Proof.Machine

/-! ### Stored settings -/

/-- A value in its range, or its default. -/
def inRange (lo hi default_ v : Nat) : Nat := if lo ≤ v ∧ v ≤ hi then v else default_

/-- A stored enable: enabled when the byte is neither 0 nor 1. -/
def storedBool (b : Byte) : Bool := (parseBool b).getD true

/-- R50: the wear settings; an unordered pair that one default does not order takes both. -/
def storedWear (worn removed away : Nat) : WearArgs :=
  let w := inRange 0 4095 2400 worn
  let r := if removed ≤ 4095 ∧ removed < worn then removed else 1600
  let a := inRange 1 600 30 away
  if r < w then ⟨w, r, a⟩ else ⟨2400, 1600, a⟩

/-- R69: a stored bias. -/
def storedBias (v : Int) : Int := if -65536 ≤ v ∧ v ≤ 65534 then v else 0

/-- R69: a stored bias table entry. -/
def storedEntry (p : List Byte) (off : Nat) : BiasEntry :=
  let t := intAt p (off + 12) 2
  ⟨⟨storedBias (intAt p off 4), storedBias (intAt p (off + 4) 4), storedBias (intAt p (off + 8) 4)⟩,
   if Config.temperatureInRange t then t else -4096⟩

/-- R166: stored power limits. -/
def storedLimits (l : Limits) : Limits :=
  let d := Limits.builtIn
  let m : Limits :=
    ⟨inRange 1000 30000 d.cap l.cap, inRange 1000 30000 d.safe l.safe, inRange 6000 20000 d.vWarn l.vWarn,
     inRange 5500 19999 d.vCrit l.vCrit, inRange 5000 19998 d.vCut l.vCut⟩
  if m.vCut < m.vCrit ∧ m.vCrit < m.vWarn then m
  else { m with vWarn := d.vWarn, vCrit := d.vCrit, vCut := d.vCut }

/-- R48, R50: a stored rate. -/
def storedRate (r : Nat) : Nat := if r = 1000 ∨ r = 500 ∨ r = 250 then r else 1000

/-- R207, R218: the loaded values of a whole image. -/
def storedValues (p : List Byte) : Loaded :=
  let wear := storedWear (natAt p 67 2) (natAt p 69 2) (natAt p 71 2)
  { profile := (parseProfile (slice p 0 18)).getD .builtIn
    axisMap := (parseAxisMap (slice p 18 6)).getD .builtIn
    biasA := storedEntry p 24
    biasB := storedEntry p 38
    limits := storedLimits (limitsAt p 52)
    rCable := natAt p 62 2
    threshold := inRange 1 64 8 (natAt p 64 1)
    rate := storedRate (natAt p 65 2)
    wornThreshold := wear.worn
    removedThreshold := wear.removed
    awayTime := wear.away
    requested := inRange 0 180 24 (natAt p 73 1)
    target := inRange 96 384 192 (natAt p 74 2)
    captureEnabled := storedBool (byteAt p 76)
    gateEnabled := storedBool (byteAt p 77)
    openThreshold := inRange 1 32767 1024 (natAt p 78 2)
    hangover := inRange 10 1000 300 (natAt p 80 2)
    enabled := (masksAt p 82).trim
    holdoff := inRange 0 15 2 (natAt p 94 1) }

/-- Each block takes its loaded values (R207). DESIGN CHOICE 65: the load changes the settings alone; an away timer that runs
expires by the loaded away time (R44), and the worn and removed counts are kept. -/
def State.takeLoaded (s : State) (v : Loaded) : State :=
  { s with
    loaded := v
    tlc := { s.tlc with threshold := v.threshold }
    msu := { s.msu with
      requestedRate := v.rate, wornThreshold := v.wornThreshold, removedThreshold := v.removedThreshold,
      awayTime := v.awayTime }
    oin := { s.oin with axisMap := v.axisMap, biasA := v.biasA, biasB := v.biasB }
    fst := { s.fst with profile := v.profile }
    aud := { s.aud with requested := v.requested, target := v.target }
    pmg := { s.pmg with limits := v.limits, rCable := v.rCable }
    ntu := { s.ntu with enabled := v.enabled, holdoff := v.holdoff } }

/-- R207: the image is used when the store is whole, it is 95 bytes with a CRC-32, and the CRC matches. -/
def imageGood (whole : Bool) (read : List Byte) : Bool :=
  whole && read.length == 99 && natAt read 95 4 == crc32 (read.take 95)

/-- The capture settings of the loaded values, as SET_CAPTURE carries them. -/
def Loaded.capture (v : Loaded) : CaptureArgs := ⟨v.captureEnabled, v.gateEnabled, v.openThreshold, v.hangover⟩

/-- R207: the load ends with a store state; a defaulted store raises STORE_DEFAULTED. The new rate is a change of the effective
period (R34). DESIGN CHOICE 58: the AUD takes the loaded capture settings as it takes those of a SET_CAPTURE (R139, R142). The
link step follows where NORMAL has been entered before (DEDUCED 40). -/
def State.endLoad (s : State) (x : StoreState) (v : Loaded) : State :=
  let s := (((s.takeLoaded v).reformSync s.period).takeCapture v.capture).modCmu fun c => { c with storeState := x }
  let s := s.judgeDark.attend
  (if x = .loaded then s else s.raise .storeDefaulted).linkStep

/-- STORE_LOAD_COMPLETE (R207). -/
def execStoreLoadComplete (read : Option (List Byte)) (s : State) : Host.Outcome State Fault Refusal :=
  .next (
    if s.cmu.storeState = .loading then
      match read with
      | some bs =>
        if imageGood s.cmu.storeWhole bs then s.endLoad .loaded (storedValues bs)
        else s.endLoad .defaultedBad .builtIn
      | none => s.endLoad .defaultedBad .builtIn
    else s)

/-! ### POWER_ON -/

/-- R206, R208: every block takes its power-on values and the straps are latched; the store keeps what it holds, and the
commands that wait still wait. -/
def State.powerOn (s : State) (straps : Straps) : State :=
  { State.reset with
    straps := straps
    cmu := { Cmu.powerOn with storeWhole := s.cmu.storeWhole }
    pending := s.pending }

/-- POWER_ON (R208); with STORE_PRESENT clear the load ends at once (R207). -/
def execPowerOn (straps : Straps) (s : State) : Host.Outcome State Fault Refusal :=
  .next (
    if straps.storePresent then s.powerOn straps
    else (s.powerOn straps).endLoad .defaultedAbsent .builtIn)

end Sys2Proof.Machine
end

