-- ==== Sys2Proof/Machine/Dispatch.lean ====
section
/-! DEFINITION. The meaning of each command: one arm for each row of spec/opcode_table.json. -/

namespace Sys2Proof.Machine

/-- The effect of a command on everything but the queue of waiting commands. -/
def exec (i : Instr) (s : State) : Host.Outcome State Fault Refusal :=
  match i with
  | .powerOn straps => Sys2Proof.Machine.execPowerOn straps s
  | .storeLoadComplete read => Sys2Proof.Machine.execStoreLoadComplete read s
  | .inputMeasurement vin iin => Sys2Proof.Machine.execInputMeasurement vin iin s
  | .railPowerGood r => Sys2Proof.Machine.execRailPowerGood r s
  | .railRampTimeout r => Sys2Proof.Machine.execRailRampTimeout r s
  | .powerGoodWithdrawn r => Sys2Proof.Machine.execPowerGoodWithdrawn r s
  | .trainingRecordReceived record locked => Sys2Proof.Machine.execTrainingRecordReceived record locked s
  | .trainingAttemptSucceeds roundTrip => Sys2Proof.Machine.execTrainingAttemptSucceeds roundTrip s
  | .trainingAttemptTimeout => Sys2Proof.Machine.execTrainingAttemptTimeout s
  | .symbolLockLost lane => Sys2Proof.Machine.execSymbolLockLost lane s
  | .retrainAttemptSucceeds roundTrip => Sys2Proof.Machine.execRetrainAttemptSucceeds roundTrip s
  | .retrainAttemptTimeout => Sys2Proof.Machine.execRetrainAttemptTimeout s
  | .retryTimerExpiry => Sys2Proof.Machine.execRetryTimerExpiry s
  | .lineEnergyDetected => Sys2Proof.Machine.execLineEnergyDetected s
  | .linkBlockDiscarded block => Sys2Proof.Machine.execLinkBlockDiscarded block s
  | .crcWindowBoundary => Sys2Proof.Machine.execCrcWindowBoundary s
  | .timeMark payload => Sys2Proof.Machine.execTimeMark payload s
  | .timeBasisFree => Sys2Proof.Machine.execTimeBasisFree s
  | .sleepMark payload => Sys2Proof.Machine.execSleepMark payload s
  | .statusBeatDue => Sys2Proof.Machine.execStatusBeatDue s
  | .upstreamBlockSent => Sys2Proof.Machine.execUpstreamBlockSent s
  | .frameBegin payload => Sys2Proof.Machine.execFrameBegin payload s
  | .lines payload => Sys2Proof.Machine.execLines payload s
  | .frameEnd payload => Sys2Proof.Machine.execFrameEnd payload s
  | .sound payload => Sys2Proof.Machine.execSound payload s
  | .controlBlockReceived payload => Sys2Proof.Machine.execControlBlockReceived payload s
  | .serviceFrameReceived bytes => Sys2Proof.Machine.execServiceFrameReceived bytes s
  | .serviceByteTimeout => Sys2Proof.Machine.execServiceByteTimeout s
  | .serviceFrameSent => Sys2Proof.Machine.execServiceFrameSent s
  | .unknownKind port tag kind payload => Sys2Proof.Machine.execUnknownKind port tag kind payload s
  | .attach port tag payload => Sys2Proof.Machine.execAttach port tag payload s
  | .detach port tag payload => Sys2Proof.Machine.execDetach port tag payload s
  | .getInfo port tag payload => Sys2Proof.Machine.execGetInfo port tag payload s
  | .getStatus port tag payload => Sys2Proof.Machine.execGetStatus port tag payload s
  | .restart port tag payload => Sys2Proof.Machine.execRestart port tag payload s
  | .linkSleep port tag payload => Sys2Proof.Machine.execLinkSleep port tag payload s
  | .setSensorRate port tag payload => Sys2Proof.Machine.execSetSensorRate port tag payload s
  | .setWear port tag payload => Sys2Proof.Machine.execSetWear port tag payload s
  | .setAxisMap port tag payload => Sys2Proof.Machine.execSetAxisMap port tag payload s
  | .selectPrimary port tag payload => Sys2Proof.Machine.execSelectPrimary port tag payload s
  | .anchor port tag payload => Sys2Proof.Machine.execAnchor port tag payload s
  | .setPoseOverride port tag payload => Sys2Proof.Machine.execSetPoseOverride port tag payload s
  | .clearPoseOverride port tag payload => Sys2Proof.Machine.execClearPoseOverride port tag payload s
  | .setProfile port tag payload => Sys2Proof.Machine.execSetProfile port tag payload s
  | .stagePulses port tag payload => Sys2Proof.Machine.execStagePulses port tag payload s
  | .setVolume port tag payload => Sys2Proof.Machine.execSetVolume port tag payload s
  | .setCapture port tag payload => Sys2Proof.Machine.execSetCapture port tag payload s
  | .setPowerLimits port tag payload => Sys2Proof.Machine.execSetPowerLimits port tag payload s
  | .setCableResistance port tag payload => Sys2Proof.Machine.execSetCableResistance port tag payload s
  | .railRestart port tag payload => Sys2Proof.Machine.execRailRestart port tag payload s
  | .startProcedure port tag payload => Sys2Proof.Machine.execStartProcedure port tag payload s
  | .abortProcedure port tag payload => Sys2Proof.Machine.execAbortProcedure port tag payload s
  | .getProcedureResult port tag payload => Sys2Proof.Machine.execGetProcedureResult port tag payload s
  | .readConditions port tag payload => Sys2Proof.Machine.execReadConditions port tag payload s
  | .readCounters port tag payload => Sys2Proof.Machine.execReadCounters port tag payload s
  | .clearConditions port tag payload => Sys2Proof.Machine.execClearConditions port tag payload s
  | .setNoticeMask port tag payload => Sys2Proof.Machine.execSetNoticeMask port tag payload s
  | .biasCalCollectionEnd => Sys2Proof.Machine.execBiasCalCollectionEnd s
  | .storeWriteComplete => Sys2Proof.Machine.execStoreWriteComplete s
  | .storeReadbackComplete readBack => Sys2Proof.Machine.execStoreReadbackComplete readBack s
  | .sampleTick => Sys2Proof.Machine.execSampleTick s
  | .sampleReadEnd sensor result => Sys2Proof.Machine.execSampleReadEnd sensor result s
  | .imuStartupTransaction sensor result => Sys2Proof.Machine.execImuStartupTransaction sensor result s
  | .imuStartupTimeout sensor => Sys2Proof.Machine.execImuStartupTimeout sensor s
  | .imuRetryExpiry sensor => Sys2Proof.Machine.execImuRetryExpiry sensor s
  | .silenceWatchExpiry => Sys2Proof.Machine.execSilenceWatchExpiry s
  | .poseStale => Sys2Proof.Machine.execPoseStale s
  | .wearReadTick => Sys2Proof.Machine.execWearReadTick s
  | .wearReadDone result => Sys2Proof.Machine.execWearReadDone result s
  | .awayTimerExpiry => Sys2Proof.Machine.execAwayTimerExpiry s
  | .blankStart => Sys2Proof.Machine.execBlankStart s
  | .illumPulseStart panel => Sys2Proof.Machine.execIllumPulseStart panel s
  | .illumPulseEnd panel => Sys2Proof.Machine.execIllumPulseEnd panel s
  | .outputInstant mic1 mic2 => Sys2Proof.Machine.execOutputInstant mic1 mic2 s
  | .attenuationRampStep => Sys2Proof.Machine.execAttenuationRampStep s
  | .holdoffExpiry => Sys2Proof.Machine.execHoldoffExpiry s
  | .quietHoldEnd => Sys2Proof.Machine.execQuietHoldEnd s

end Sys2Proof.Machine
end

