-- ==== Sys2Proof/Safety.lean ====
section
/-!
DEFINITION. What the statements speak in: the invariants of the part, each from the rules it names, and the relations between
the state before and after a command.
-/

namespace Sys2Proof.Machine

/-! ### Invariants -/

/-- R39, R56, R127, R140, R200: no queue, buffer or ring is over its capacity. -/
def State.withinCapacity (s : State) : Prop :=
  s.msu.queue.length ≤ 64 ∧ s.aud.queue.length ≤ 32 ∧ s.cmu.queue.length ≤ 8 ∧ s.aud.buffer.length ≤ 512 ∧
    s.oin.ring.length ≤ 128

/-- 4.5: every counter is at most 2^32 − 1. -/
def State.countersFit (s : State) : Prop := ∀ c : Counter, s.count c ≤ 4294967295

/-- An angle in −737,280 … +737,279 AU (4.3). -/
def InTurn (x : Int) : Prop := -737280 ≤ x ∧ x ≤ 737279

/-- Three angles in range. -/
def Angles.inTurn (a : Angles) : Prop := InTurn a.yaw ∧ InTurn a.pitch ∧ InTurn a.roll

/-- 3.1: a residue. -/
def IsResidue (x : Int) : Prop := 0 ≤ x ∧ x ≤ 15624

/-- 3.1, R55, R65, R66: the angles, the history ring and the pose override are wrapped, and residues are 0 … 15,624. -/
def Oin.wrapped (o : Oin) : Prop :=
  o.angles.inTurn ∧ (∀ e ∈ o.ring, e.angles.inTurn) ∧ (∀ a, o.pose = some a → a.inTurn) ∧
    IsResidue o.residues.yaw ∧ IsResidue o.residues.pitch ∧ IsResidue o.residues.roll

/-- R74: at most one slot is FILLING and at most one SHOWING; every READY slot's frame is greater than the SHOWING slot's,
and the FILLING slot's frame is greater than both (R75). -/
def Slots.ordered (q : Slots) : Prop :=
  q.count .filling ≤ 1 ∧ q.count .showing ≤ 1 ∧
    (∀ t ∈ q.toList, ∀ u ∈ q.toList, t.state = .ready → u.state = .showing → frameGreater t.frame u.frame = true) ∧
    (∀ t ∈ q.toList, ∀ u ∈ q.toList, t.state = .filling → (u.state = .ready ∨ u.state = .showing) →
      frameGreater t.frame u.frame = true)

/-- The canonical form of the rows of an eye: row numbers strictly rising. -/
def rowsRising (e : EyeRows) : Prop := e.Pairwise fun p q => p.1 < q.1

/-- Frame memory is in canonical form. -/
def Slots.canonical (q : Slots) : Prop := ∀ t ∈ q.toList, rowsRising t.left ∧ rowsRising t.right

/-- R157: a rail that is RAMPING or ON has every rail before it ON. -/
def Rails.ordered (r : Rails) : Prop :=
  ∀ x y : Rail, y ∈ laterRails x → (r.get y = .on ∨ ∃ e, r.get y = .ramping e) → r.get x = .on

/-- R154 to R157, R160, R162, R165: the power limits are in range and order, the target is that of the supply state and the
standby mark, rails outside it are OFF, the rails stand in their order, and BROWNOUT is at L3. -/
def State.powerSound (s : State) : Prop :=
  s.pmg.limits.ok = true ∧ s.loaded.limits.ok = true ∧
    s.pmg.target = railTarget s.pmg.supply s.pmg.standby ∧
    (∀ x, s.pmg.target.covers x = false → s.pmg.rails.get x = .off) ∧ s.pmg.rails.ordered ∧
    (s.pmg.supply = .brownout → s.pmg.level = .l3)

/-- 8.3, 8.4: the counts of the shed evaluation and of the supply tests are in range. -/
def Pmg.countsFit (p : Pmg) : Prop := p.rise ≤ 3 ∧ p.fall ≤ 200 ∧ p.cut ≤ 1 ∧ p.recovery ≤ 500

/-- R169, R176, R177: the test load is on only in NORMAL and during phase 2 of a running CABLE_MEASURE. -/
def State.loadSound (s : State) : Prop :=
  s.pmg.testLoad = true →
    s.pmg.supply = .normal ∧
      ∃ q n sv si v1 i1 v2 i2, s.prr.running = some q ∧ q.work = .cable n sv si v1 i1 v2 i2 ∧ 1000 ≤ n ∧ n < 2000

/-- R135, R136: the applied attenuation is at least the shed cap and at most MUTE. -/
def State.gainSound (s : State) : Prop :=
  s.aud.requested ≤ 180 ∧ s.loaded.requested ≤ 180 ∧ s.aud.applied ≤ 181 ∧ s.pmg.level.gainCap ≤ s.aud.applied

/-- R1, R6, R14, R22, R24, R208: out of ACTIVE nothing is in transmission on the tether, no beat waits and no sleep is
pending; before NORMAL was first entered the link is DOWN without a retry timer. -/
def State.linkSound (s : State) : Prop :=
  (s.linkActive = false → s.tlc.tx = none ∧ s.tlc.beat = none ∧ s.tlc.sleepPending = false) ∧
    (s.pmg.reachedNormal = false → s.tlc.link = .down none)

/-- R184: the live conditions that follow a state at once are pending exactly while it holds. -/
def State.liveSound (s : State) : Prop :=
  (s.ntu.pending.has .timeFree = true ↔ s.tlc.basis = .free) ∧
    (s.ntu.pending.has .imuFaultA = true ↔ s.msu.a.faultHeld = true) ∧
    (s.ntu.pending.has .imuFaultB = true ↔ s.msu.b.faultHeld = true) ∧
    ∀ x, s.ntu.pending.has (railFault x) = true ↔ s.pmg.rails.get x = .fault

/-- R185, R211: the masks hold no bit beyond the conditions of their sets. -/
def State.masksTrim (s : State) : Prop :=
  s.ntu.pending.trim = s.ntu.pending ∧ s.ntu.enabled.trim = s.ntu.enabled ∧ s.loaded.enabled.trim = s.loaded.enabled

/-- R191: ATTN is active exactly while its three facts hold. -/
def State.attnSound (s : State) : Prop :=
  s.ntu.attn = true ↔ s.cmu.role = some .service ∧ s.ntu.summary ≠ [] ∧ s.ntu.quiet = none

/-- The messages of a port that have not begun to leave. -/
def State.waiting (s : State) (p : Port) : List Message :=
  if s.headSent p then (s.cmu.out p).tail else s.cmu.out p

/-- R189: at most one notice waits in a port's outgoing queue. -/
def State.oneNotice (s : State) : Prop := ∀ p, (s.waiting p).countP (fun m => m.role == .notice) ≤ 1

/-- R200, R201: each port's outgoing queue holds one reply for each complete entry of that port. -/
def State.repliesMatch (s : State) : Prop :=
  ∀ p, (s.cmu.out p).countP (fun m => m.role != .notice) = s.cmu.queue.countP (fun e => e.port == p && e.complete)

/-- R118: the output is DARK exactly while a dark cause holds. -/
def State.darkSound (s : State) : Prop := s.ilg.output = .dark ↔ s.darkCauses ≠ []

/-- R82: scan-out is OFF exactly while a panel rail is not ON or the link is in SLEEP. -/
def State.scanSound (s : State) : Prop := s.sou.scanOut = .off ↔ s.panelsOn = false

/-- 2.2, R29: an IMU is OFF exactly while it is not enabled. -/
def State.imusSound (s : State) : Prop := ∀ x, (s.msu.imu x).state = .off ↔ s.imuEnabled = false

/-- R28, R29, R31, R35: a sample read in progress is one with a RUNNING IMU. -/
def State.readsSound (s : State) : Prop := ∀ x, s.msu.busy x = true → (s.msu.imu x).state = .running

/-! ### What a command leaves alone -/

/-- Two states agree but for what reports and notices move: the NTU, the outgoing queues and what is being sent of them, and
the two counters of the NTU (R183 to R191, R195, R201). -/
structure SameButNotices (u t : State) : Prop where
  lt : t.lt = u.lt
  straps : t.straps = u.straps
  loaded : t.loaded = u.loaded
  counts : ∀ c, c ≠ .noticesIssued → c ≠ .noticesCoalesced → t.count c = u.count c
  tlc : t.tlc = { u.tlc with tx := t.tlc.tx, beat := t.tlc.beat }
  msu : t.msu = u.msu
  oin : t.oin = u.oin
  fst : t.fst = u.fst
  sou : t.sou = u.sou
  ilg : t.ilg = u.ilg
  aud : t.aud = u.aud
  pmg : t.pmg = u.pmg
  prr : t.prr = u.prr
  mask : t.ntu.enabled = u.ntu.enabled ∧ t.ntu.holdoff = u.ntu.holdoff
  cmu : t.cmu = { u.cmu with outTether := t.cmu.outTether, outService := t.cmu.outService, serviceTx := t.cmu.serviceTx }
  pending : t.pending = u.pending

/-- A request is replied: `u` is the state its effect leaves, `t` the state after the reply. The entry is complete and keeps
its place (R200), the reply stands last in the outgoing queue of its port (R201), and nothing else differs but the block
or frame that begins to be sent. -/
structure Replied (u t : State) (k : ReqKind) (p : Port) (tag : Byte) (x : Status) (values : List Byte) : Prop where
  queue : t.cmu.queue = markComplete u.cmu.queue
  placed : ∃ m : Message,
    t.cmu.out p = u.cmu.out p ++ [m] ∧ m.body = [k.code + 0x80, tag, x.code] ++ values ∧ m.entered = u.lt ∧
      m.role ≠ .notice
  other : ∀ q, q ≠ p → t.cmu.out q = u.cmu.out q
  tlc : t.tlc = { u.tlc with tx := t.tlc.tx, beat := t.tlc.beat }
  cmu : t.cmu = { u.cmu with
    queue := t.cmu.queue, outTether := t.cmu.outTether, outService := t.cmu.outService, serviceTx := t.cmu.serviceTx }
  rest : t = { u with tlc := t.tlc, cmu := t.cmu }

/-- A command is a request that is carried out: `u` is `s` with the request's effect, and the reply follows, with no notice
between. -/
def Answers (i : Instr) (s u : State) (k : ReqKind) (p : Port) (tag : Byte) (x : Status) (values : List Byte) : Prop :=
  ∃ t, exec i s = .next t ∧ Replied u t k p tag x values

/-- The same where the effect raises or clears conditions before the reply: it leaves `u` but for notices. -/
def AnswersWithNotices (i : Instr) (s u : State) (k : ReqKind) (p : Port) (tag : Byte) (x : Status)
    (values : List Byte) (pending : Masks) : Prop :=
  ∃ v t, exec i s = .next t ∧ SameButNotices u v ∧ v.ntu.pending = pending ∧ Replied v t k p tag x values

/-- A command completes in a state that is `u` but for notices, with the conditions `pending`. -/
def Completes (i : Instr) (s u : State) (pending : Masks) : Prop :=
  ∃ t, exec i s = .next t ∧ SameButNotices u t ∧ t.ntu.pending = pending

/-- A counter one higher, held at 2^32 − 1 (4.5). -/
def oneMore (n : Nat) : Nat := min 4294967295 (n + 1)

/-- A request row whose turn it is, sent by the controller (R199). -/
def State.directed (s : State) (k : ReqKind) (p : Port) (tag : Byte) (payload : List Byte) : Prop :=
  s.turn k.code p tag payload = true ∧ s.cmu.role = some p

/-! ### Requests and what they leave -/

/-- The row that carries out a request of a kind. -/
def ReqKind.row (k : ReqKind) (p : Port) (tag : Byte) (q : List Byte) : Instr :=
  match k with
  | .attach => .attach p tag q | .detach => .detach p tag q | .getInfo => .getInfo p tag q
  | .getStatus => .getStatus p tag q | .restart => .restart p tag q | .linkSleep => .linkSleep p tag q
  | .setSensorRate => .setSensorRate p tag q | .setWear => .setWear p tag q | .setAxisMap => .setAxisMap p tag q
  | .selectPrimary => .selectPrimary p tag q | .anchor => .anchor p tag q
  | .setPoseOverride => .setPoseOverride p tag q | .clearPoseOverride => .clearPoseOverride p tag q
  | .setProfile => .setProfile p tag q | .stagePulses => .stagePulses p tag q | .setVolume => .setVolume p tag q
  | .setCapture => .setCapture p tag q | .setPowerLimits => .setPowerLimits p tag q
  | .setCableResistance => .setCableResistance p tag q | .railRestart => .railRestart p tag q
  | .startProcedure => .startProcedure p tag q | .abortProcedure => .abortProcedure p tag q
  | .getProcedureResult => .getProcedureResult p tag q | .readConditions => .readConditions p tag q
  | .readCounters => .readCounters p tag q | .clearConditions => .clearConditions p tag q
  | .setNoticeMask => .setNoticeMask p tag q

/-- What a port's newest reply says. -/
def State.lastReply (t : State) (p : Port) (k : ReqKind) (tag : Byte) (x : Status) (values : List Byte) : Prop :=
  ∃ m ∈ t.cmu.out p, m.role ≠ .notice ∧ m.body = [k.code + 0x80, tag, x.code] ++ values

/-- R209, R210, R34 and the RESTART columns of the blocks: `t` is the part after the reset of a RESTART taken in `s`. The moment of a
reset that changes the rate is no tick unless it was one before (log entry 47, DEDUCED). -/
structure ResetDone (s t : State) : Prop where
  kept : t.lt = s.lt ∧ t.straps = s.straps ∧ t.loaded = s.loaded ∧ t.cmu.storeState = s.cmu.storeState ∧
    t.pending = s.pending
  link : t.tlc.link = s.tlc.link ∧ t.tlc.features = s.tlc.features ∧ t.tlc.offset = s.tlc.offset ∧
    t.tlc.basis = s.tlc.basis ∧ t.tlc.crcCount = 0 ∧ t.tlc.sleepPending = false ∧ t.tlc.beat = none
  counters : ∀ c, t.count c = 0
  cmu : t.cmu.role = none ∧ t.cmu.queue = [] ∧ t.cmu.outTether = [] ∧ t.cmu.outService = [] ∧ t.cmu.rx = [] ∧
    t.cmu.restart = none
  power : t.pmg.supply = s.pmg.supply ∧ t.pmg.rails = s.pmg.rails ∧ t.pmg.standby = s.pmg.standby ∧
    t.pmg.limits = s.loaded.limits ∧ t.pmg.rCable = s.loaded.rCable ∧ t.pmg.testLoad = false ∧
    t.pmg.level = (if s.pmg.supply = .brownout then .l3 else .l0) ∧ t.pmg.rise = 0 ∧ t.pmg.fall = 0
  procedures : t.prr = ⟨none, 0, none⟩
  picture : t.fst.slots.count .free = 4 ∧ t.fst.newest = none ∧ t.fst.profile = s.loaded.profile ∧
    t.ilg.staged = ⟨⟨0, 0⟩, ⟨0, 0⟩⟩ ∧ t.ilg.output = .dark
  motion : t.msu.queue = [] ∧ t.msu.requestedRate = s.loaded.rate ∧ t.msu.wear = .unknown ∧ t.oin.primary = .a ∧
    t.oin.ring = [] ∧ t.oin.pose = none ∧ t.oin.angles = ⟨0, 0, 0⟩
  rate : t.msu.barred = if t.period = s.period ∨ s.lt % s.period = 0 then s.msu.barred else some s.lt
  audio : t.aud.playback = .stopped ∧ t.aud.buffer = [] ∧ t.aud.queue = [] ∧ t.aud.requested = s.loaded.requested
  notices : t.ntu.number = 0 ∧ t.ntu.timer = none ∧ t.ntu.due = false ∧ t.ntu.attn = false ∧
    t.ntu.enabled = s.loaded.enabled ∧ t.ntu.holdoff = s.loaded.holdoff

/-- Frame memory: the bytes a row of an eye holds, none when the row has not been received. -/
def rowOf (e : EyeRows) (r : Nat) : Option (List Byte) := (e.find? fun q => q.1 == r).map (·.2)

/-! ### What an output instant does -/

/-- R129: a frame under the fade-in factor of the k-th frame delivered in PLAYING. -/
def fadedIn (k : Nat) (f : Stereo) : Stereo :=
  if k ≤ 64 then ⟨roundDiv (f.left * k) 64, roundDiv (f.right * k) 64⟩ else f

/-- R128, R136: a frame under the gain of the applied attenuation. -/
def State.louder (s : State) (f : Stereo) : Stereo := ⟨gain s.aud.applied f.left, gain s.aud.applied f.right⟩

/-- R134: the drift run after an adjustment in direction `d`; a window that ends at the same instant may then set its length to
zero. -/
structure DriftRun (d : Adjust) (s t : State) : Prop where
  direction : t.aud.runDirection = d
  longer : let n := if s.aud.runDirection = d then s.aud.runLength + 1 else 1
    n < 10 → t.count .driftLimits = s.count .driftLimits ∧ ((s.aud.played + 1) % 48 ≠ 0 → t.aud.runLength = n)
  limit : let n := if s.aud.runDirection = d then s.aud.runLength + 1 else 1
    10 ≤ n → t.aud.runLength = 0 ∧ t.ntu.pending.has .driftLimit = true ∧
      t.count .driftLimits = oneMore (s.count .driftLimits)

/-- R132, R134: the fill is sampled after every 48th output instant of PLAYING. The tenth sample ends the window: its err is the
floor of the mean less the target fill, an err beyond 48 either way makes an adjustment due, and none sets the run to zero. -/
structure DriftWindow (s t : State) : Prop where
  between : (s.aud.played + 1) % 48 ≠ 0 →
    t.aud.window = s.aud.window ∧ t.aud.lastErr = s.aud.lastErr ∧ t.aud.due = none
  sampled : (s.aud.played + 1) % 48 = 0 → s.aud.window.length < 9 →
    t.aud.window = s.aud.window ++ [t.aud.buffer.length] ∧ t.aud.lastErr = s.aud.lastErr ∧ t.aud.due = none
  ended : (s.aud.played + 1) % 48 = 0 → s.aud.window.length = 9 →
    let err : Int := ((s.aud.window.sum + t.aud.buffer.length) / 10 : Nat) - (s.aud.target : Int)
    t.aud.window = [] ∧ t.aud.lastErr = some err ∧
      (48 < err → t.aud.due = some .removal) ∧ (err < -48 → t.aud.due = some .insertion) ∧
      (-48 ≤ err → err ≤ 48 → t.aud.due = none ∧ t.aud.runLength = 0)

/-- R128 to R134: the playback half of an output instant taken in `s`. -/
structure PlaybackDone (s t : State) : Prop where
  stopped : s.aud.playback = .stopped → t.aud.out = ⟨0, 0⟩ ∧ t.aud.playback = .stopped ∧ t.aud.buffer = s.aud.buffer
  primes : s.aud.playback = .priming → s.aud.buffer.length < s.aud.target →
    t.aud.out = ⟨0, 0⟩ ∧ t.aud.playback = .priming ∧ t.aud.buffer = s.aud.buffer
  starts : ∀ f rest, s.aud.playback = .priming ∨ (s.aud.playback = .underrun ∧ 64 ≤ s.aud.faded) →
    s.aud.buffer = f :: rest → s.aud.target ≤ rest.length + 1 →
    t.aud.playback = .playing ∧ t.aud.buffer = rest ∧ t.aud.played = 1 ∧ t.aud.window = [] ∧
      t.aud.out = s.louder (fadedIn 1 f)
  empties : s.aud.playback = .playing → s.aud.again = none → s.aud.buffer = [] →
    t.aud.playback = .underrun ∧ t.aud.faded = 1 ∧ t.aud.due = none ∧ t.aud.runLength = 0 ∧
      t.ntu.pending.has .underrun = true ∧ t.count .playbackUnderruns = oneMore (s.count .playbackUnderruns) ∧
      t.count .driftRemovals = s.count .driftRemovals ∧ t.count .driftInsertions = s.count .driftInsertions ∧
      t.aud.out = s.louder ⟨roundDiv (s.aud.lastValue.left * 63) 64, roundDiv (s.aud.lastValue.right * 63) 64⟩
  fades : s.aud.playback = .underrun → s.aud.faded < 64 →
    let left : Int := 64 - (s.aud.faded + 1)
    t.aud.playback = .underrun ∧ t.aud.buffer = s.aud.buffer ∧ t.aud.faded = s.aud.faded + 1 ∧
      t.aud.lastValue = s.aud.lastValue ∧
      t.aud.out = s.louder ⟨roundDiv (s.aud.lastValue.left * left) 64, roundDiv (s.aud.lastValue.right * left) 64⟩
  silent : s.aud.playback = .underrun → 64 ≤ s.aud.faded → s.aud.buffer.length < s.aud.target →
    t.aud.playback = .underrun ∧ t.aud.buffer = s.aud.buffer ∧ t.aud.out = ⟨0, 0⟩
  plays : ∀ f rest, s.aud.playback = .playing → s.aud.again = none → s.aud.due = none → s.aud.buffer = f :: rest →
    t.aud.playback = .playing ∧ t.aud.buffer = rest ∧ t.aud.played = s.aud.played + 1 ∧
      t.aud.lastValue = fadedIn (s.aud.played + 1) f ∧ t.aud.out = s.louder (fadedIn (s.aud.played + 1) f) ∧
      DriftWindow s t
  removal : ∀ f g rest, s.aud.playback = .playing → s.aud.again = none → s.aud.due = some .removal →
    s.aud.buffer = f :: g :: rest →
    t.aud.buffer = rest ∧ t.count .driftRemovals = oneMore (s.count .driftRemovals) ∧
      t.aud.out = s.louder (fadedIn (s.aud.played + 1)
        ⟨roundDiv (f.left + g.left) 2, roundDiv (f.right + g.right) 2⟩) ∧
      DriftRun .removal s t ∧ DriftWindow s t
  notMade : ∀ f, s.aud.playback = .playing → s.aud.again = none → s.aud.due = some .removal → s.aud.buffer = [f] →
    t.aud.playback = .playing ∧ t.aud.buffer = [] ∧ t.aud.runLength = 0 ∧
      t.count .driftRemovals = s.count .driftRemovals ∧ t.aud.out = s.louder (fadedIn (s.aud.played + 1) f) ∧
      DriftWindow s t
  insertion : ∀ f rest, s.aud.playback = .playing → s.aud.again = none → s.aud.due = some .insertion →
    s.aud.buffer = f :: rest →
    t.aud.buffer = rest ∧ t.aud.again = some f ∧ t.aud.out = s.louder (fadedIn (s.aud.played + 1) f) ∧
      t.count .driftInsertions = oneMore (s.count .driftInsertions) ∧ DriftRun .insertion s t ∧ DriftWindow s t
  again : ∀ f, s.aud.playback = .playing → s.aud.again = some f →
    t.aud.playback = .playing ∧ t.aud.buffer = s.aud.buffer ∧ t.aud.again = none ∧
      t.aud.out = s.louder (fadedIn (s.aud.played + 1) f)

/-- R138, R139, R141: `b` is the capture block of the frames `taken`, begun at `start`, as it enters the queue. -/
structure Captured (s : State) (start : Nat) (taken : List (Int × Int)) (opens : Bool) (b : CaptureBlock) : Prop where
  seq : b.seq = s.aud.captureSeq + 1
  time : b.time = start + s.tlc.offset
  frames : b.frames = taken
  gap : b.gap = s.aud.gapPending
  gateOpen : b.gateOpen = (opens || s.aud.gateMark)
  timeStep : b.timeStep = s.tlc.stepCapture
  freeTime : b.freeTime = true ↔ s.tlc.basis = .free
  clipped : b.clipped = true ↔ ∃ f ∈ taken, (f.1 = 32767 ∨ f.1 = -32768) ∨ f.2 = 32767 ∨ f.2 = -32768

/-- R138 to R141: the block completed by an output instant is queued; a full queue loses its oldest block, whose marks pass to the
block that is then oldest. -/
structure Queued (s t : State) (start : Nat) (frames : List (Int × Int)) (opens : Bool) : Prop where
  block : ∃ b, Captured s start frames opens b ∧
    (s.aud.queue.length < 32 → t.aud.queue = s.aud.queue ++ [b]) ∧
    ∀ old h rest, 32 ≤ s.aud.queue.length → s.aud.queue ++ [b] = old :: h :: rest →
      t.aud.queue =
        { h with gap := true, timeStep := h.timeStep || old.timeStep, gateOpen := h.gateOpen || old.gateOpen } :: rest ∧
      t.count .captureQueueDrops = oneMore (s.count .captureQueueDrops) ∧ t.ntu.pending.has .captureDrop = true
  marks : t.aud.gapPending = false ∧ t.aud.gateMark = false ∧ t.tlc.stepCapture = false
  counted : t.aud.captureSeq = s.aud.captureSeq + 1 ∧ t.count .captureBlocksGated = s.count .captureBlocksGated

/-- R138, R139, R141: the block completed by an output instant is gated: it takes its number, is counted and is lost, and no mark
moves. -/
structure Gated (s t : State) : Prop where
  queue : t.aud.queue = s.aud.queue
  counted : t.aud.captureSeq = s.aud.captureSeq + 1 ∧
    t.count .captureBlocksGated = oneMore (s.count .captureBlocksGated)
  marks : t.aud.gapPending = s.aud.gapPending ∧ t.aud.gateMark = s.aud.gateMark ∧ t.tlc.stepCapture = s.tlc.stepCapture

/-- R138, R139: the capture half of an output instant taken in `s` with capture running. -/
structure CaptureDone (s t : State) (m1 m2 : Int) : Prop where
  begins : s.lt % 1000 = 0 → t.aud.forming = some ⟨s.lt, [(m1, m2)]⟩ ∧ t.aud.queue = s.aud.queue
  waits : s.lt % 1000 ≠ 0 → s.aud.forming = none → t.aud.forming = none ∧ t.aud.queue = s.aud.queue
  grows : ∀ g, s.lt % 1000 ≠ 0 → s.aud.forming = some g → g.frames.length < 47 →
    t.aud.forming = some ⟨g.start, g.frames ++ [(m1, m2)]⟩ ∧ t.aud.queue = s.aud.queue
  completes : ∀ g, s.lt % 1000 ≠ 0 → s.aud.forming = some g → g.frames.length = 47 →
    let frames := g.frames ++ [(m1, m2)]
    let loud := ∃ f ∈ frames, s.aud.openThreshold ≤ f.1.natAbs ∨ s.aud.openThreshold ≤ f.2.natAbs
    t.aud.forming = none ∧
      (s.aud.gate = .disabled → t.aud.gate = .disabled ∧ Queued s t g.start frames false) ∧
      (s.aud.gate = .closed → ¬ loud → t.aud.gate = .closed ∧ t.aud.loudRun = 0 ∧ Gated s t) ∧
      (s.aud.gate = .closed → loud → s.aud.loudRun = 0 → t.aud.gate = .closed ∧ t.aud.loudRun = 1 ∧ Gated s t) ∧
      (s.aud.gate = .closed → loud → 1 ≤ s.aud.loudRun →
        t.aud.gate = .open ∧ t.aud.loudRun = 0 ∧ t.aud.quietRun = 0 ∧ t.ntu.pending.has .voiceStart = true ∧
          t.count .voiceStarts = oneMore (s.count .voiceStarts) ∧ Queued s t g.start frames true) ∧
      (s.aud.gate = .open → loud →
        t.aud.gate = .open ∧ t.aud.quietRun = 0 ∧ Queued s t g.start frames false) ∧
      (s.aud.gate = .open → ¬ loud → s.aud.quietRun + 1 < s.aud.hangover →
        t.aud.gate = .open ∧ t.aud.quietRun = s.aud.quietRun + 1 ∧ Queued s t g.start frames false) ∧
      (s.aud.gate = .open → ¬ loud → s.aud.hangover ≤ s.aud.quietRun + 1 →
        t.aud.gate = .closed ∧ t.aud.quietRun = 0 ∧ t.ntu.pending.has .voiceEnd = true ∧
          Queued s t g.start frames false)

end Sys2Proof.Machine
end

