-- ==== Sys2Proof/WellFormed.lean ====
section
/-!
DEFINITION. The ranges that the manual gives the operands of a command. `exec` answers on every operand; a command that is
not well formed is one that no sensor, link or port can send.
-/

namespace Sys2Proof

/-- A raw sensor value or a microphone sample: signed, 16 bits (4.3, R216). -/
def raw16 (v : Int) : Bool := decide (-32768 ≤ v) && decide (v ≤ 32767)

/-- The data of a sample read (4.3, R216). -/
def ImuData.wellFormed (d : ImuData) : Bool :=
  raw16 d.rateX && raw16 d.rateY && raw16 d.rateZ && raw16 d.forceX && raw16 d.forceY && raw16 d.forceZ &&
    (d.temp.map raw16).getD true

/-- The payload of a link block is at most 65,535 bytes (R212). -/
def linkPayload (p : List Byte) : Bool := decide (p.length ≤ 65535)

/-- The payload of a request: with its kind and tag it fits a link block (R212) or a service frame (11.1). -/
def requestPayload (port : Port) (p : List Byte) : Bool :=
  match port with
  | .tether => decide (p.length + 2 ≤ 65535)
  | .service => decide (p.length + 2 ≤ 2048)

/-- Whether the operands of a command lie in the ranges of the manual. A block that passes its checks is not discarded (R8, R21). -/
def Instr.wellFormed : Instr → Bool
  | .powerOn _ | .storeLoadComplete _ | .inputMeasurement _ _ | .railPowerGood _ | .railRampTimeout _
  | .powerGoodWithdrawn _ | .trainingRecordReceived _ _ | .trainingAttemptSucceeds _ | .trainingAttemptTimeout
  | .symbolLockLost _ | .retrainAttemptSucceeds _ | .retrainAttemptTimeout | .retryTimerExpiry
  | .lineEnergyDetected | .crcWindowBoundary | .timeBasisFree | .statusBeatDue | .upstreamBlockSent
  | .serviceByteTimeout | .serviceFrameSent | .biasCalCollectionEnd | .storeWriteComplete | .sampleTick
  | .imuStartupTransaction _ _ | .imuStartupTimeout _ | .imuRetryExpiry _ | .silenceWatchExpiry | .poseStale
  | .wearReadTick | .awayTimerExpiry | .blankStart | .illumPulseStart _ | .illumPulseEnd _ | .attenuationRampStep
  | .holdoffExpiry | .quietHoldEnd => true
  | .attach port _ p | .detach port _ p | .getInfo port _ p | .getStatus port _ p | .restart port _ p
  | .linkSleep port _ p | .setSensorRate port _ p | .setWear port _ p | .setAxisMap port _ p
  | .selectPrimary port _ p | .anchor port _ p | .setPoseOverride port _ p | .clearPoseOverride port _ p
  | .setProfile port _ p | .stagePulses port _ p | .setVolume port _ p | .setCapture port _ p
  | .setPowerLimits port _ p | .setCableResistance port _ p | .railRestart port _ p | .startProcedure port _ p
  | .abortProcedure port _ p | .getProcedureResult port _ p | .readConditions port _ p | .readCounters port _ p
  | .clearConditions port _ p | .setNoticeMask port _ p =>
    requestPayload port p
  | .unknownKind port _ kind p =>
    requestPayload port p && (kind.toNat == 0 || decide (27 < kind.toNat))
  | .linkBlockDiscarded block => decide (block.length ≤ 65543) && (Machine.judgeBlock block).isSome
  | .timeMark p | .sleepMark p | .frameBegin p | .lines p | .frameEnd p | .sound p | .controlBlockReceived p =>
    linkPayload p
  | .serviceFrameReceived bytes => !bytes.isEmpty
  | .storeReadbackComplete readBack => readBack.length == 99
  | .sampleReadEnd _ .failed | .wearReadDone .failed => true
  | .sampleReadEnd _ (.succeeded d) => d.wellFormed
  | .wearReadDone (.succeeded reading) => decide (reading ≤ 4095)
  | .outputInstant mic1 mic2 => raw16 mic1 && raw16 mic2

end Sys2Proof
end

