-- ==== Sys2Proof/Certificates/Slice0/Obligations.lean ====
section
/-!
DEFINITION. The statements for the provers. Each docstring names the rules a statement formalises; a value of the model's own
is named with its log entry.
-/

open Sys2Proof Sys2Proof.Machine

/-! ### The machine -/

/-- Model's own interface (log entry 1): with a command at the front of the queue, a step is that command's effect on the
state with the rest of the queue; with none, local time advances by one microsecond (R16). -/
def Obligations.StepRunsFrontCommand : Prop :=
  (∀ (c : Instr) (rest : List Instr) (s : State), s.pending = c :: rest → step s = exec c { s with pending := rest }) ∧
    (∀ s : State, s.pending = [] → step s = .next { s with lt := s.lt + 1 })

/-- Power-on values: R27, R51, R70, R93, R94, R104, R124, R145, R154, R168, R173, R196, R210. -/
def Obligations.ResetValues : Prop :=
  State.reset.lt = 0 ∧ State.reset.tlc.link = .down none ∧ State.reset.tlc.features = none ∧
    State.reset.tlc.offset = 0 ∧ State.reset.tlc.basis = .free ∧ State.reset.tlc.lineDelay = 0 ∧
    State.reset.msu.a.state = .off ∧ State.reset.msu.b.state = .off ∧ State.reset.msu.queue = [] ∧
    State.reset.msu.wear = .unknown ∧ State.reset.oin.angles = ⟨0, 0, 0⟩ ∧ State.reset.oin.primary = .a ∧
    State.reset.oin.ring = [] ∧ State.reset.fst.slots.count .free = 4 ∧ State.reset.fst.newest = none ∧
    State.reset.sou.scanOut = .off ∧ State.reset.sou.left.basis = .none ∧ State.reset.ilg.output = .dark ∧
    State.reset.aud.playback = .stopped ∧ State.reset.aud.applied = 180 ∧ State.reset.pmg.supply = .start ∧
    State.reset.pmg.level = .l0 ∧ (∀ x, State.reset.pmg.rails.get x = .off) ∧ State.reset.pmg.target = .none ∧
    State.reset.prr = ⟨none, 0, none⟩ ∧ State.reset.ntu.attn = false ∧ State.reset.ntu.number = 0 ∧
    State.reset.cmu.role = none ∧ State.reset.cmu.queue = [] ∧ (∀ c, State.reset.count c = 0)

/-- The invariants below hold right after reset. -/
def Obligations.ResetMeetsInvariants : Prop :=
  State.reset.withinCapacity ∧ State.reset.countersFit ∧ State.reset.oin.wrapped ∧ State.reset.fst.slots.ordered ∧
    State.reset.fst.slots.canonical ∧ State.reset.powerSound ∧ State.reset.pmg.countsFit ∧ State.reset.loadSound ∧
    State.reset.gainSound ∧ State.reset.linkSound ∧ State.reset.liveSound ∧ State.reset.masksTrim ∧
    State.reset.attnSound ∧ State.reset.oneNotice ∧ State.reset.repliesMatch ∧ State.reset.darkSound ∧
    State.reset.scanSound ∧ State.reset.imusSound ∧ State.reset.readsSound

/-- R16, R206, R207, R182: no command changes local time, the straps or the waiting commands but POWER_ON, and no command
changes the loaded values but POWER_ON and STORE_LOAD_COMPLETE. -/
def Obligations.OnlyPowerOnChangesTimeAndStraps : Prop :=
  ∀ (c : Instr) (s t : State), exec c s = .next t →
    t.pending = s.pending ∧
    ((∀ x, c ≠ .powerOn x) → t.lt = s.lt ∧ t.straps = s.straps ∧
      ((∀ r, c ≠ .storeLoadComplete r) → t.loaded = s.loaded ∧ t.cmu.storeState = s.cmu.storeState))

/-! ### Invariants that every step keeps -/

/-- R39, R56, R127, R140, R200 and 4.5: no queue, ring or buffer grows over its capacity, and every counter is at most 2^32 − 1. -/
def Obligations.CapacitiesAndCountersHold : Prop :=
  (∀ s t : State, s.withinCapacity → step s = .next t → t.withinCapacity) ∧
    ∀ s t : State, s.countersFit → step s = .next t → t.countersFit

/-- 3.1, R55, R65, R66: angles, ring and override stay wrapped, residues stay 0 … 15,624. -/
def Obligations.AnglesStayWrapped : Prop :=
  ∀ s t : State, s.oin.wrapped → step s = .next t → t.oin.wrapped

/-- R74, 4.2: the slots keep at most one FILLING and one SHOWING and the order of their frame numbers. Frame memory keeps the
model's own canonical form (a DESIGN CHOICE, log entry 43): the rows received of each eye in rising order, none twice. -/
def Obligations.SlotsStayOrderedAndCanonical : Prop :=
  (∀ s t : State, s.fst.slots.ordered → step s = .next t → t.fst.slots.ordered) ∧
    ∀ s t : State, s.fst.slots.canonical → step s = .next t → t.fst.slots.canonical

/-- R151, R152, R154 to R162, R165, R164, R169: limits, target and rails stay in their order and BROWNOUT at L3; the counts of the
PMG stay in range; the test load is on only in NORMAL during phase 2 of a running CABLE_MEASURE. -/
def Obligations.PowerStaysSound : Prop :=
  (∀ s t : State, s.powerSound → step s = .next t → t.powerSound) ∧
    (∀ s t : State, s.pmg.countsFit → step s = .next t → t.pmg.countsFit) ∧
    ∀ s t : State, s.loadSound → step s = .next t → t.loadSound

/-- R136: the applied attenuation stays at least the shed cap. -/
def Obligations.GainStaysAboveCap : Prop :=
  ∀ s t : State, s.gainSound → step s = .next t → t.gainSound

/-- R1, R14, R22, R24, R208: nothing is in transmission, no beat waits and no sleep is pending out of ACTIVE. -/
def Obligations.LinkStaysSound : Prop :=
  ∀ s t : State, s.linkSound → step s = .next t → t.linkSound

/-- R184: TIME_FREE, IMU_FAULT_A, IMU_FAULT_B and the five RAIL_FAULT conditions follow their states. -/
def Obligations.LiveConditionsFollow : Prop :=
  ∀ s t : State, s.liveSound → step s = .next t → t.liveSound

/-- R185, R191: the masks hold only conditions that exist, and ATTN is active exactly while its facts hold. -/
def Obligations.AttentionFollowsFacts : Prop :=
  ∀ s t : State, s.masksTrim ∧ s.attnSound → step s = .next t → t.masksTrim ∧ t.attnSound

/-- R189, R200, R201: at most one notice waits in each port's outgoing queue, and every complete entry of the command queue has
exactly one reply that has not left. -/
def Obligations.MessagesMatchEntries : Prop :=
  (∀ s t : State, s.oneNotice → step s = .next t → t.oneNotice) ∧
    ∀ s t : State, s.repliesMatch → step s = .next t → t.repliesMatch

/-- R28, R29, R31, R82, R118: IMUs, scan-out and illumination follow the rails, the link and the dark causes, and a sample read in
progress is one with a RUNNING IMU. -/
def Obligations.ReadersFollowRails : Prop :=
  ∀ s t : State, s.linkSound ∧ s.darkSound ∧ s.scanSound ∧ s.imusSound ∧ s.readsSound → step s = .next t →
    t.darkSound ∧ t.scanSound ∧ t.imusSound ∧ t.readsSound

/-! ### Power-on and the store -/

/-- R206, R207, R208: every block takes its power-on values and the straps are latched; the store keeps what it holds; with
STORE_PRESENT clear the load ends at once. Values the manual does not state are those of log entries 3, 6 and 7. -/
def Obligations.PowerOnTakesPowerOnValues : Prop :=
  ∀ (x : Straps) (s : State),
    (x.storePresent = true →
      exec (.powerOn x) s = .next { State.reset with
        straps := x, cmu := { State.reset.cmu with storeWhole := s.cmu.storeWhole }, pending := s.pending }) ∧
    (x.storePresent = false →
      ∃ t, exec (.powerOn x) s = .next t ∧ t.straps = x ∧ t.lt = 0 ∧ t.cmu.storeState = .defaultedAbsent ∧
        t.loaded = .builtIn ∧ t.tlc.link = .down none ∧ t.pmg.supply = .start ∧ t.cmu.role = none ∧
        t.ntu.pending.has .storeDefaulted = true ∧ t.pending = s.pending)

/-- R207, R182, R218: where the last write of the store ended, an image of the right length with a matching CRC is used, each
block taking its settings from it and each bad one replaced as its chapter gives: R9, R50, R69, R73, R144, R166, R196. Wear
thresholds still out of order after R50 are both replaced (log entry 24, DEDUCED), and an enable byte other than 0 and 1 is read
as enabled (log entry 25, DESIGN CHOICE); the range of a sensor temperature is free (log entry 9, DESIGN CHOICE). Any other
outcome of the read defaults every setting and raises STORE_DEFAULTED; so does, whatever bytes the row carries, the read of a
store left part-written, which fails its CRC by R182 (log entry 45, DEDUCED). The load is taken once: after it the row leaves
the state (log entry 8). That the store state before the load is `loading` is the model's choice (log entry 3). The capture
settings act as those of a SET_CAPTURE, so that a gate that is OPEN may close with VOICE_END (log entry 58, DESIGN CHOICE).
Where a recovery from BROWNOUT has entered NORMAL before, the link step follows the end of the load (R208; log entry 40,
DEDUCED). -/
def Obligations.StoreLoadTakesImageOrDefaults : Prop :=
  (∀ (s : State) (r : Option (List Byte)), s.cmu.storeState ≠ .loading → exec (.storeLoadComplete r) s = .next s) ∧
  ∀ (s : State), s.cmu.storeState = .loading →
    let started (t : State) : Prop :=
      t.tlc.link = if s.pmg.reachedNormal = true ∧ s.tlc.link = .down none then .training 1 s.lt none else s.tlc.link
    let inForce (t : State) : Prop :=
      t.tlc.threshold = t.loaded.threshold ∧
      (t.msu.requestedRate = t.loaded.rate ∧ t.msu.wornThreshold = t.loaded.wornThreshold ∧
        t.msu.removedThreshold = t.loaded.removedThreshold ∧ t.msu.awayTime = t.loaded.awayTime) ∧
      (t.oin.axisMap = t.loaded.axisMap ∧ t.oin.biasA = t.loaded.biasA ∧ t.oin.biasB = t.loaded.biasB) ∧
      t.fst.profile = t.loaded.profile ∧
      (t.aud.requested = t.loaded.requested ∧ t.aud.target = t.loaded.target ∧
        t.aud.captureEnabled = t.loaded.captureEnabled ∧ (t.aud.gate ≠ .disabled ↔ t.loaded.gateEnabled = true) ∧
        t.aud.openThreshold = t.loaded.openThreshold ∧ t.aud.hangover = t.loaded.hangover) ∧
      (t.pmg.limits = t.loaded.limits ∧ t.pmg.rCable = t.loaded.rCable) ∧
      t.ntu.enabled = t.loaded.enabled ∧ t.ntu.holdoff = t.loaded.holdoff
    (∀ bs : List Byte, s.cmu.storeWhole = true → bs.length = 99 → natAt bs 95 4 = crc32 (bs.take 95) →
      let n (off width : Nat) : Nat := natAt bs off width
      let pick (lo hi default_ v : Nat) : Nat := if lo ≤ v ∧ v ≤ hi then v else default_
      let profile : Profile :=
        ⟨n 0 2, n 2 2, n 4 2, n 6 2, n 8 2, n 10 2, n 12 2, ⟨byteAt bs 14, byteAt bs 15, byteAt bs 16⟩,
          decide (n 17 1 = 1)⟩
      let bias (off : Nat) : BiasEntry :=
        let one (v : Int) : Int := if -65536 ≤ v ∧ v ≤ 65534 then v else 0
        let temp := intAt bs (off + 12) 2
        ⟨⟨one (intAt bs off 4), one (intAt bs (off + 4) 4), one (intAt bs (off + 8) 4)⟩,
          if Config.temperatureInRange temp = true then temp else -4096⟩
      let warn := pick 6000 20000 10500 (n 56 2)
      let crit := pick 5500 19999 9800 (n 58 2)
      let cut := pick 5000 19998 9000 (n 60 2)
      let ordered : Bool := decide (cut < crit ∧ crit < warn)
      let worn := pick 0 4095 2400 (n 67 2)
      let removed := if n 69 2 ≤ 4095 ∧ n 69 2 < n 67 2 then n 69 2 else 1600
      let enabled (off : Nat) : BitVec 16 := BitVec.ofNat 16 (n off 2)
      ∃ t, exec (.storeLoadComplete (some bs)) s = .next t ∧ t.cmu.storeState = .loaded ∧
        t.loaded.profile = (if profile.ok = true ∧ n 17 1 ≤ 1 then profile
          else ⟨1440, 1600, 11111, 1000, 328, 328, 96, ⟨0, 0, 0⟩, true⟩) ∧
        (∀ m : AxisMap, m.ok = true → slice bs 18 6 = m.bytes → t.loaded.axisMap = m) ∧
        ((∀ m : AxisMap, m.ok = true → slice bs 18 6 ≠ m.bytes) →
          t.loaded.axisMap = ⟨⟨.y, false⟩, ⟨.x, false⟩, ⟨.z, false⟩⟩) ∧
        t.loaded.biasA = bias 24 ∧ t.loaded.biasB = bias 38 ∧
        t.loaded.limits = ⟨pick 1000 30000 7500 (n 52 2), pick 1000 30000 4000 (n 54 2),
          if ordered then warn else 10500, if ordered then crit else 9800, if ordered then cut else 9000⟩ ∧
        t.loaded.rCable = n 62 2 ∧ t.loaded.threshold = pick 1 64 8 (n 64 1) ∧
        t.loaded.rate = (if n 65 2 = 1000 ∨ n 65 2 = 500 ∨ n 65 2 = 250 then n 65 2 else 1000) ∧
        t.loaded.wornThreshold = (if removed < worn then worn else 2400) ∧
        t.loaded.removedThreshold = (if removed < worn then removed else 1600) ∧
        t.loaded.awayTime = pick 1 600 30 (n 71 2) ∧ t.loaded.requested = pick 0 180 24 (n 73 1) ∧
        t.loaded.target = pick 96 384 192 (n 74 2) ∧ t.loaded.captureEnabled = decide (n 76 1 ≠ 0) ∧
        t.loaded.gateEnabled = decide (n 77 1 ≠ 0) ∧ t.loaded.openThreshold = pick 1 32767 1024 (n 78 2) ∧
        t.loaded.hangover = pick 10 1000 300 (n 80 2) ∧
        t.loaded.enabled = ⟨enabled 82 &&& 0x3F, enabled 84 &&& 0x7F, enabled 86 &&& 0x1F, enabled 88 &&& 0x3F,
          enabled 90 &&& 0x1FF, enabled 92 &&& 0xF⟩ ∧
        t.loaded.holdoff = pick 0 15 2 (n 94 1) ∧ inForce t ∧
        (let stops := n 76 1 = 0 ∧ s.pmg.rails.audio = .on ∧ s.aud.captureEnabled = true
         (s.aud.gate = .open → n 77 1 = 0 ∨ stops → t.ntu.pending = s.ntu.pending.put .voiceEnd) ∧
         (¬ (s.aud.gate = .open ∧ (n 77 1 = 0 ∨ stops)) → t.ntu.pending = s.ntu.pending)) ∧ started t) ∧
    (∀ r : Option (List Byte),
      (∀ bs, r = some bs → s.cmu.storeWhole = false ∨ bs.length ≠ 99 ∨ natAt bs 95 4 ≠ crc32 (bs.take 95)) →
      ∃ t, exec (.storeLoadComplete r) s = .next t ∧ t.cmu.storeState = .defaultedBad ∧
        t.loaded = ⟨⟨1440, 1600, 11111, 1000, 328, 328, 96, ⟨0, 0, 0⟩, true⟩,
          ⟨⟨.y, false⟩, ⟨.x, false⟩, ⟨.z, false⟩⟩, ⟨⟨0, 0, 0⟩, -4096⟩, ⟨⟨0, 0, 0⟩, -4096⟩,
          ⟨7500, 4000, 10500, 9800, 9000⟩, 400, 8, 1000, 2400, 1600, 30, 24, 192, true, true, 1024, 300,
          ⟨0x3F, 0x7F, 0x1F, 0x3F, 0x1FF, 0xF⟩, 2⟩ ∧
        inForce t ∧ t.ntu.pending = s.ntu.pending.put .storeDefaulted ∧ started t)

/-- R207, R218: the image that WRITE_STORE forms from settings in the ranges of their owners (R9, R50, R69, R73, R144, R166,
R196) has 95 bytes, is a good image once its CRC-32 follows it, and is read at a load as those settings: the ones in force where
WRITE_STORE takes the setting in force, the loaded ones elsewhere. -/
def Obligations.StoreImageRoundTrips : Prop :=
  ∀ s : State,
    s.fst.profile.ok = true → s.oin.axisMap.ok = true →
    (∀ b ∈ [s.oin.biasA, s.oin.biasB],
      (-65536 ≤ b.bias.x ∧ b.bias.x ≤ 65534) ∧ (-65536 ≤ b.bias.y ∧ b.bias.y ≤ 65534) ∧
        (-65536 ≤ b.bias.z ∧ b.bias.z ≤ 65534) ∧ (-32768 ≤ b.temp ∧ b.temp ≤ 32767) ∧
        (b.temp = -4096 ∨ Config.temperatureInRange b.temp = true)) →
    s.pmg.limits.ok = true → s.pmg.rCable ≤ 65535 → (1 ≤ s.tlc.threshold ∧ s.tlc.threshold ≤ 64) →
    (s.loaded.rate = 1000 ∨ s.loaded.rate = 500 ∨ s.loaded.rate = 250) →
    (s.loaded.removedThreshold < s.loaded.wornThreshold ∧ s.loaded.wornThreshold ≤ 4095) →
    (1 ≤ s.loaded.awayTime ∧ s.loaded.awayTime ≤ 600) → s.loaded.requested ≤ 180 →
    (96 ≤ s.loaded.target ∧ s.loaded.target ≤ 384) → (1 ≤ s.aud.openThreshold ∧ s.aud.openThreshold ≤ 32767) →
    (10 ≤ s.aud.hangover ∧ s.aud.hangover ≤ 1000) → s.ntu.enabled.trim = s.ntu.enabled → s.ntu.holdoff ≤ 15 →
    s.storeImage.length = 95 ∧ imageGood true (withCrc s.storeImage) = true ∧
      storedValues (withCrc s.storeImage) =
        { s.loaded with
          profile := s.fst.profile, axisMap := s.oin.axisMap, biasA := s.oin.biasA, biasB := s.oin.biasB,
          limits := s.pmg.limits, rCable := s.pmg.rCable, threshold := s.tlc.threshold,
          gateEnabled := s.aud.gate != .disabled, openThreshold := s.aud.openThreshold, hangover := s.aud.hangover,
          enabled := s.ntu.enabled, holdoff := s.ntu.holdoff }

/-! ### Power -/

/-- R146, R147, R148: a measurement that is due is taken with its readings held to their ranges, forms the figures, and judges
the two live conditions against the budget in force. A measurement is due 1,000 µs or more after the last (log entry 4). -/
def Obligations.MeasurementFormsFigures : Prop :=
  ∀ (s : State) (vin iin : Nat), (∀ m, s.pmg.measuredAt = some m → m + 1000 ≤ s.lt) →
    let v := min 30000 vin
    let i := min 5000 iin
    let e := if s.pmg.testLoad then i - 200 else i
    let pIn := v * e / 1000
    let pLoss := e * e * s.pmg.rCable / 1000000
    ∃ t, exec (.inputMeasurement vin iin) s = .next t ∧
      t.pmg.meas = some ⟨v, i, e, pIn, pLoss, pIn + pLoss, i * s.pmg.rCable / 1000⟩ ∧
      (t.ntu.pending.has .budgetLow = true ↔ s.pmg.budget * 85 < (pIn + pLoss) * 100) ∧
      (t.ntu.pending.has .cableDropHigh = true ↔ 1500 < i * s.pmg.rCable / 1000) ∧
      t.fst.slots = s.fst.slots ∧ t.tlc.offset = s.tlc.offset ∧ t.cmu.queue = s.cmu.queue ∧ t.pmg.limits = s.pmg.limits

/-- R118, R136, R150, R151, R152, R153: Vin below V_crit jumps the level to L3 at once, darkens the panels and mutes the
sound; the third call for a rise in a row raises the level by one, the two-hundredth call for a fall lowers it by one, and
each sets the counts to zero. A measurement is due 1,000 µs or more after the last (log entry 4). -/
def Obligations.LevelJumpsRisesAndFalls : Prop :=
  (∀ (s : State) (vin iin : Nat), (∀ m, s.pmg.measuredAt = some m → m + 1000 ≤ s.lt) → s.pmg.supply ≠ .brownout →
     s.pmg.level ≠ .l3 → min 30000 vin < s.pmg.limits.vCrit →
     ∃ t, exec (.inputMeasurement vin iin) s = .next t ∧ t.pmg.level = .l3 ∧ t.pmg.rise = 0 ∧ t.pmg.fall = 0 ∧
       t.ilg.output = .dark ∧ 181 ≤ t.aud.applied ∧ t.ntu.pending.has .shedChange = true ∧
       t.count .shedJumps = oneMore (s.count .shedJumps) ∧ t.count .shedChanges = oneMore (s.count .shedChanges) ∧
       t.count .shedRises = s.count .shedRises ∧ t.count .shedFalls = s.count .shedFalls) ∧
  ∀ (s : State) (vin iin : Nat), (∀ m, s.pmg.measuredAt = some m → m + 1000 ≤ s.lt) → s.pmg.supply = .normal →
    0 < s.pmg.budget →
    let v := min 30000 vin
    let i := min 5000 iin
    let e := if s.pmg.testLoad then i - 200 else i
    let total := v * e / 1000 + e * e * s.pmg.rCable / 1000000
    s.pmg.limits.vCrit ≤ v → s.pmg.limits.vCut ≤ v →
    (∀ l, s.pmg.level.up = some l → s.pmg.rise = 2 → (s.pmg.budget ≤ total ∨ v < s.pmg.limits.vWarn) →
      ∃ t, exec (.inputMeasurement vin iin) s = .next t ∧ t.pmg.level = l ∧ t.pmg.rise = 0 ∧ t.pmg.fall = 0 ∧
        t.count .shedRises = oneMore (s.count .shedRises) ∧ t.count .shedFalls = s.count .shedFalls ∧
        t.ntu.pending.has .shedChange = true ∧ l.gainCap ≤ t.aud.applied) ∧
    (∀ l, s.pmg.level.down = some l → s.pmg.fall = 199 → total * 100 ≤ s.pmg.budget * 85 →
      s.pmg.limits.vWarn + 300 ≤ v →
      ∃ t, exec (.inputMeasurement vin iin) s = .next t ∧ t.pmg.level = l ∧ t.pmg.rise = 0 ∧ t.pmg.fall = 0 ∧
        t.count .shedFalls = oneMore (s.count .shedFalls) ∧ t.count .shedRises = s.count .shedRises ∧
        t.ntu.pending.has .shedChange = true)

/-- R155: the second measurement in a row below V_cut enters BROWNOUT: test load off, target NONE, every rail OFF with its
fault condition clear, BROWNOUT raised and counted, the four counts zero. A measurement is due 1,000 µs or more after the last
(log entry 4). -/
def Obligations.SecondCutEntersBrownout : Prop :=
  ∀ (s : State) (vin iin : Nat), (∀ m, s.pmg.measuredAt = some m → m + 1000 ≤ s.lt) → s.pmg.supply ≠ .brownout →
    s.pmg.cut = 1 → min 30000 vin < s.pmg.limits.vCut → s.pmg.limits.vCut < s.pmg.limits.vCrit →
    s.pmg.limits.vCrit < s.pmg.limits.vWarn →
    (∀ x, s.ntu.pending.has (railFault x) = true ↔ s.pmg.rails.get x = .fault) →
    ∃ t, exec (.inputMeasurement vin iin) s = .next t ∧ t.pmg.supply = .brownout ∧ t.pmg.level = .l3 ∧
      t.pmg.testLoad = false ∧ t.pmg.target = .none ∧ (∀ x, t.pmg.rails.get x = .off) ∧
      (∀ x, t.ntu.pending.has (railFault x) = false) ∧ t.ntu.pending.has .brownout = true ∧
      t.count .brownoutEntries = oneMore (s.count .brownoutEntries) ∧
      t.pmg.cut = 0 ∧ t.pmg.recovery = 0 ∧ t.pmg.rise = 0 ∧ t.pmg.fall = 0 ∧ t.fst.slots = s.fst.slots

/-- R154, R156, R162, R208: after the store load START is left at the first measurement at or above V_warn, and BROWNOUT at
the five-hundredth in a row, at L2. Both form the target and bring SENSOR up from OFF. At the first entry into NORMAL, which finds
the link in the DOWN of power-on (R6), the link enters TRAINING at attempt 1; where the recovery comes before the load has ended,
that waits for the end of the load (log entry 40, DEDUCED). It is the model's reading, and no rule's, that an idle ACTIVE link
takes an opportunity at the recovery, by which the motion queue is drained again (log entry 50, DEDUCED). A measurement is due
1,000 µs or more after the last (log entry 4). -/
def Obligations.EnteringNormalBringsRailsUp : Prop :=
  ∀ (s : State) (vin iin : Nat), (∀ m, s.pmg.measuredAt = some m → m + 1000 ≤ s.lt) → s.pmg.limits.ok = true →
    s.pmg.limits.vWarn ≤ min 30000 vin →
    ((s.pmg.supply = .start ∧ s.cmu.storeState ≠ .loading ∨
        s.pmg.supply = .brownout ∧ (499 ≤ s.pmg.recovery ∧ s.pmg.recovery ≤ 500) ∧ s.pmg.level = .l3) →
      ∃ t, exec (.inputMeasurement vin iin) s = .next t ∧ t.pmg.supply = .normal ∧ t.pmg.reachedNormal = true ∧
        t.pmg.target = (if s.pmg.standby then .sensorOnly else .all) ∧
        (s.pmg.rails.sensor = .off → t.pmg.rails.sensor = .ramping (s.lt + 5000)) ∧
        (s.cmu.storeState ≠ .loading → s.tlc.link = .down none → t.tlc.link = .training 1 s.lt none) ∧
        (s.cmu.storeState = .loading ∨ s.tlc.link ≠ .down none → t.tlc.link = s.tlc.link) ∧
        (s.pmg.supply = .brownout → t.pmg.level = .l2 ∧ t.pmg.recovery = 0 ∧ t.pmg.cut = 0 ∧ t.pmg.rise = 0 ∧
          t.pmg.fall = 0 ∧ t.ntu.pending.has .shedChange = true ∧
          (∀ c, s.tlc.link = .active c → s.msu.queue ≠ [] → t.tlc.tx ≠ none))) ∧
    (s.pmg.supply = .brownout → s.pmg.recovery < 499 →
      ∃ t, exec (.inputMeasurement vin iin) s = .next t ∧ t.pmg.supply = .brownout ∧
        t.pmg.recovery = s.pmg.recovery + 1 ∧ t.tlc.link = s.tlc.link ∧ t.pmg.rails = s.pmg.rails) ∧
    (s.pmg.supply = .start → s.cmu.storeState = .loading →
      ∃ t, exec (.inputMeasurement vin iin) s = .next t ∧ t.pmg.supply = .start ∧ t.tlc.link = s.tlc.link ∧
        t.pmg.rails = s.pmg.rails)

/-- R176 to R178: a CABLE_MEASURE takes its measurements. At L0, above V_crit and with no call for a rise counted, the 1,000th
forms the first means and switches the test load on, the 2,000th forms the second and switches it off, any other before the
3,000th is added to the sums, and the 3,000th ends the procedure: FAILED when ΔI is below 100, and otherwise DONE with the
clamped resistance in force. A measurement below V_crit, one in BROWNOUT, and one after which the level is L2 or L3 end it
LOADED with the test load off and R_cable as it was. A measurement is due 1,000 µs or more after the last (log entry 4). -/
def Obligations.CableMeasureEnds : Prop :=
  ∀ (s : State) (vin iin run at_ count sumV sumI v1 i1 v2 i2 : Nat), (∀ m, s.pmg.measuredAt = some m → m + 1000 ≤ s.lt) →
    s.pmg.limits.ok = true → s.prr.running = some ⟨run, at_, .cable count sumV sumI v1 i1 v2 i2⟩ →
    (min 30000 vin < s.pmg.limits.vCrit ∨ s.pmg.supply = .brownout ∨
        ((s.pmg.level = .l2 ∨ s.pmg.level = .l3) ∧ s.pmg.fall < 199) →
      ∃ t, exec (.inputMeasurement vin iin) s = .next t ∧ t.pmg.testLoad = false ∧ t.pmg.rCable = s.pmg.rCable ∧
        t.prr.running = none ∧ t.prr.result = some ⟨.cableMeasure, run, .loaded, at_, s.lt, []⟩ ∧
        t.ntu.pending.has .procDone = true) ∧
    (s.pmg.limits.vCrit ≤ min 30000 vin → s.pmg.supply = .normal → s.pmg.level = .l0 → s.pmg.rise = 0 →
      let sumV' := sumV + min 30000 vin
      let sumI' := sumI + min 5000 iin
      let meanV := roundDiv (sumV' : Int) 1000
      let meanI := roundDiv (sumI' : Int) 1000
      let goesOn (t : State) (w : Work) (load : Bool) : Prop :=
        t.prr = { s.prr with running := some ⟨run, at_, w⟩ } ∧ t.pmg.testLoad = load ∧ t.pmg.rCable = s.pmg.rCable
      let di := (i2 : Int) - roundDiv (i1 + meanI) 2
      let r := roundDiv ((roundDiv (v1 + meanV) 2 - v2) * 1000) di.toNat
      ∃ t, exec (.inputMeasurement vin iin) s = .next t ∧
        (count = 999 → goesOn t (.cable 1000 0 0 meanV.toNat meanI.toNat 0 0) true) ∧
        (count = 1999 → goesOn t (.cable 2000 0 0 v1 i1 meanV.toNat meanI.toNat) false) ∧
        (count < 2999 → count ≠ 999 → count ≠ 1999 →
          goesOn t (.cable (count + 1) sumV' sumI' v1 i1 v2 i2) s.pmg.testLoad) ∧
        (count = 2999 → t.prr.running = none ∧ t.ntu.pending.has .procDone = true ∧
          (di < 100 → t.pmg.rCable = s.pmg.rCable ∧
            t.prr.result = some ⟨.cableMeasure, run, .failed, at_, s.lt, [.number di]⟩) ∧
          (100 ≤ di → (t.pmg.rCable : Int) = clampInt 0 65535 r ∧
            t.prr.result = some ⟨.cableMeasure, run, .done, at_, s.lt, [.number (clampInt 0 65535 r), .number di]⟩)))

/-- R29, R82, R83, R157, R158, R159, R184: power-good takes a RAMPING rail to ON, the next rail within the target enters
RAMPING with a ramp timer of 5,000 µs, the SENSOR rail starts the IMUs and the second panel rail starts the blank schedule. A
rail whose ramp timer expires, or which is ON and loses power-good, enters FAULT; later rails that are RAMPING or ON go OFF, a
later FAULT rail stays, earlier rails keep their states. A timed row acts at or after its moment (log entry 4). -/
def Obligations.RailsComeUpAndFault : Prop :=
  (∀ (s : State) (x : Rail) (e : Nat), s.pmg.rails.get x = .ramping e →
     ∃ t, exec (.railPowerGood x) s = .next t ∧ t.pmg.rails.get x = .on ∧
       (∀ y, railBefore y = some x → s.pmg.target.covers y = true → s.pmg.rails.get y = .off →
         t.pmg.rails.get y = .ramping (s.lt + 5000)) ∧
       (∀ y, y ≠ x → s.pmg.rails.get y ≠ .off → t.pmg.rails.get y = s.pmg.rails.get y) ∧
       (∀ y : Sensor, x = .sensor → s.tlc.link ≠ .sleep → (s.msu.imu y).state = .off →
         (t.msu.imu y).state = .starting .reset s.lt) ∧
       (x = .panelR → s.pmg.rails.panelL = .on → s.tlc.link ≠ .sleep → s.sou.scanOut = .off →
         t.sou.scanOut = .idle ∧ t.sou.schedule = some ⟨s.lt + s.fst.profile.period, s.fst.profile.period⟩) ∧
       t.fst = s.fst ∧ t.aud = s.aud ∧ t.tlc.link = s.tlc.link ∧ t.prr = s.prr) ∧
  ∀ (s : State) (x : Rail) (c : Instr),
    ((∃ e, s.pmg.rails.get x = .ramping e ∧ e ≤ s.lt) ∧ c = .railRampTimeout x ∨
      s.pmg.rails.get x = .on ∧ c = .powerGoodWithdrawn x) →
    ∃ t, exec c s = .next t ∧ t.pmg.rails.get x = .fault ∧ t.ntu.pending.has (railFault x) = true ∧
      t.count .railFaults = oneMore (s.count .railFaults) ∧
      (∀ y ∈ laterRails x, t.pmg.rails.get y = if s.pmg.rails.get y = .fault then .fault else .off) ∧
      (∀ y, x ∈ laterRails y → s.pmg.rails.get y ≠ .off → t.pmg.rails.get y = s.pmg.rails.get y) ∧
      t.fst.slots = s.fst.slots ∧ t.tlc.link = s.tlc.link

/-- R161, R163: RAIL_RESTART takes every FAULT rail out of FAULT and clears its condition, or is replied WRONG_STATE;
SET_CABLE_RESISTANCE sets R_cable, up to 65,535 mΩ. -/
def Obligations.RailRestartAndCableResistance : Prop :=
  (∀ (s : State) (p : Port) (tag : Byte), s.directed .railRestart p tag [] →
     ((∀ x, s.pmg.rails.get x ≠ .fault) → Answers (.railRestart p tag []) s s .railRestart p tag .wrongState []) ∧
     ((∃ x, s.pmg.rails.get x = .fault) →
       ∃ v t, exec (.railRestart p tag []) s = .next t ∧ Replied v t .railRestart p tag .ok [] ∧
         (∀ x, v.pmg.rails.get x ≠ .fault) ∧
         (∀ x, s.pmg.rails.get x = .fault → v.ntu.pending.has (railFault x) = false) ∧
         (∀ x, s.pmg.rails.get x = .on → v.pmg.rails.get x = .on) ∧
         v.count .railRestarts = oneMore (s.count .railRestarts) ∧ v.tlc.link = s.tlc.link ∧ v.fst = s.fst)) ∧
  ∀ (s : State) (p : Port) (tag : Byte) (q : List Byte), s.directed .setCableResistance p tag q →
    (q.length = 4 ∧ natAt q 0 4 ≤ 65535 →
      Answers (.setCableResistance p tag q) s { s with pmg := { s.pmg with rCable := natAt q 0 4 } }
        .setCableResistance p tag .ok []) ∧
    (¬ (q.length = 4 ∧ natAt q 0 4 ≤ 65535) →
      Answers (.setCableResistance p tag q) s s .setCableResistance p tag .badArgument [])

/-- R165: SET_POWER_LIMITS, the controller's alone, replaces the five limits, re-forms B (R149) and sets the four counts to
zero, or changes nothing. -/
def Obligations.PowerLimitsReplaceAllFive : Prop :=
  ∀ (s : State) (p : Port) (tag : Byte) (q : List Byte), s.turn ReqKind.setPowerLimits.code p tag q = true →
    let l : Limits := ⟨natAt q 0 2, natAt q 2 2, natAt q 4 2, natAt q 6 2, natAt q 8 2⟩
    let good := q.length = 10 ∧ (1000 ≤ l.cap ∧ l.cap ≤ 30000) ∧ (1000 ≤ l.safe ∧ l.safe ≤ 30000) ∧
      (6000 ≤ l.vWarn ∧ l.vWarn ≤ 20000) ∧ (5500 ≤ l.vCrit ∧ l.vCrit ≤ 19999) ∧
      (5000 ≤ l.vCut ∧ l.vCut ≤ 19998) ∧ l.vCut < l.vCrit ∧ l.vCrit < l.vWarn
    (s.cmu.role ≠ some p → Answers (.setPowerLimits p tag q) s s .setPowerLimits p tag .notController []) ∧
    (s.cmu.role = some p → ¬ good → Answers (.setPowerLimits p tag q) s s .setPowerLimits p tag .badArgument []) ∧
    (s.cmu.role = some p → good →
      let b := match s.tlc.link with
        | .active _ | .retrain .. => if s.tlc.offer.getD 0 = 0 then l.cap else min (s.tlc.offer.getD 0) l.cap
        | _ => l.safe
      Answers (.setPowerLimits p tag q) s
        { s with pmg := { s.pmg with limits := l, budget := b, rise := 0, fall := 0, cut := 0, recovery := 0 } }
        .setPowerLimits p tag .ok (leBytes 4 b))

/-! ### The tether link -/

/-- R2, R3, R4: the record that the part sends offers no power, SLEEP and WAKE_BEACON, G3 and the locked lanes below MAXLANES in
attempts 1 to 3, then the FALLBACK_GEAR and lane 0; the records of an attempt agree the lower gear, the largest common lane set,
the common features and the offer up to 30,000 mW; a field out of range or no common lane set fails the attempt at once. That a
record is four numbers (the gear 1 to 3, the lanes as a mask, the offer in mW, the features as a mask, SLEEP bit 0 and
WAKE_BEACON bit 1) is the model's coding (log entry 30, DESIGN CHOICE). -/
def Obligations.TrainingRecordsAgree : Prop :=
  ∀ (s : State) (n began : Nat) (r : BaseRecord) (locked : BitVec 4), s.tlc.link = .training n began none →
    let own : BitVec 4 := if n ≤ 3 then locked &&& laneLimit s.straps.maxLanes else locked &&& 1
    let common := own &&& BitVec.ofNat 4 r.lanes
    let good := (1 ≤ r.gear ∧ r.gear ≤ 3) ∧ r.lanes < 16 ∧ r.features < 4 ∧ common.getLsbD 0 = true
    (ownRecord s.straps n locked = ⟨if n ≤ 3 then 3 else if s.straps.fallback = .g1 then 1 else 2, own.toNat, 0, 3⟩) ∧
    (good → ∃ a : Agreement,
      exec (.trainingRecordReceived r locked) s =
        .next { s with tlc := { s.tlc with link := .training n began (some a) } } ∧
      (a.channel.gear = .g3 ↔ n ≤ 3 ∧ r.gear = 3) ∧
      (a.channel.gear = .g1 ↔ r.gear = 1 ∨ 3 < n ∧ s.straps.fallback = .g1) ∧
      (a.channel.lanes = .four ↔ common = 15) ∧
      (a.channel.lanes = .one ↔ common.getLsbD 1 = false) ∧
      (a.features.sleep = true ↔ r.features = 1 ∨ r.features = 3) ∧
      (a.features.wakeBeacon = true ↔ r.features = 2 ∨ r.features = 3) ∧
      a.offer = min r.offer 30000) ∧
    (¬ good → n < 6 →
      exec (.trainingRecordReceived r locked) s =
        .next ((s.bump .trainingFailures).modTlc fun t => { t with link := .training (n + 1) s.lt none }))

/-- R3, R7, R11, R12, R149, R162: a training attempt that succeeds makes the link ACTIVE with what was agreed, raises TRAINED,
clears the window's count and the standby mark, and forms B from the offer; the line delay is half the round-trip time, rounded
to whole µs with halves away from zero (the round-trip time is in ns: log entry 29, DESIGN CHOICE); a retrain attempt that
succeeds returns to ACTIVE at its gear with the same lanes, without TRAINED. An attempt succeeds within its 20,000 µs, the last
included (log entry 4). -/
def Obligations.SuccessfulAttemptsEnterActive : Prop :=
  (∀ (s : State) (n began roundTrip : Nat) (a : Agreement), s.tlc.link = .training n began (some a) → s.lt ≤ began + 20000 →
     ∃ t, exec (.trainingAttemptSucceeds roundTrip) s = .next t ∧ t.tlc.link = .active a.channel ∧
       t.tlc.features = some a.features ∧ t.tlc.offer = some a.offer ∧ t.tlc.lineDelay = (roundTrip + 1000) / 2000 ∧
       t.tlc.crcCount = 0 ∧ t.ntu.pending.has .trained = true ∧ t.pmg.standby = false ∧
       t.pmg.budget = (if a.offer = 0 then s.pmg.limits.cap else min a.offer s.pmg.limits.cap) ∧
       t.pmg.target = (if s.pmg.supply = .normal then .all else .none) ∧
       t.tlc.offset = s.tlc.offset ∧ t.tlc.basis = s.tlc.basis ∧ t.fst.slots = s.fst.slots ∧ t.cmu.queue = s.cmu.queue) ∧
  ∀ (s : State) (c : Channel) (n began roundTrip : Nat), s.tlc.link = .retrain c n began → s.lt ≤ began + 20000 →
    ∃ t, exec (.retrainAttemptSucceeds roundTrip) s = .next t ∧ t.tlc.link = .active c ∧
      t.tlc.lineDelay = (roundTrip + 1000) / 2000 ∧ t.tlc.crcCount = 0 ∧ t.tlc.features = s.tlc.features ∧ t.tlc.offer = s.tlc.offer ∧
      (t.ntu.pending.has .trained = s.ntu.pending.has .trained) ∧ t.pmg.standby = false ∧
      t.tlc.offset = s.tlc.offset ∧ t.fst.slots = s.fst.slots ∧ t.cmu.queue = s.cmu.queue

/-- R3, R5, R6, R11, R12: an attempt that runs out of its 20,000 µs is counted. The next attempt follows at once; after the
sixth training attempt, and after the third retrain attempt at G1, the link enters DOWN with a retry timer of 500,000 µs;
after the third at G3 or G2 the gear is lowered and a new group begins. A timed row acts at or after its moment (log entry 4).
Lock lost on an agreed or a current lane fails an attempt too, the first of a new group of retrain attempts included; only at the
moment of an entry into RETRAIN does it come together with the entry (R10, log entry 49). -/
def Obligations.FailedAttemptsFollowTheirOrder : Prop :=
  (∀ (s : State) (n began : Nat) (lane : Fin 4),
    (∀ a : Agreement, s.tlc.link = .training n began (some a) → a.channel.lanes.has lane = true → n < 6 →
      exec (.symbolLockLost lane) s =
        .next ((s.bump .trainingFailures).modTlc fun t => { t with link := .training (n + 1) s.lt none })) ∧
    (∀ c : Channel, s.tlc.link = .retrain c n began → c.lanes.has lane = true →
      n ≠ 1 ∨ began ≠ s.lt ∨ s.tlc.retrainAt ≠ some s.lt →
      (n < 3 → exec (.symbolLockLost lane) s =
        .next ((s.bump .trainingFailures).modTlc fun t => { t with link := .retrain c (n + 1) s.lt })) ∧
      (∀ g, c.gear.below = some g → 3 ≤ n →
        Completes (.symbolLockLost lane) s
          (((s.bump .trainingFailures).bump .gearReductions).modTlc fun t =>
            { t with link := .retrain ⟨g, c.lanes⟩ 1 s.lt })
          (s.ntu.pending.put .gearReduced)))) ∧
  ∀ (s : State) (n began : Nat), began + 20000 ≤ s.lt →
    (∀ a, s.tlc.link = .training n began a →
      (n < 6 → exec .trainingAttemptTimeout s =
        .next ((s.bump .trainingFailures).modTlc fun t => { t with link := .training (n + 1) s.lt none })) ∧
      (6 ≤ n → ∃ t, exec .trainingAttemptTimeout s = .next t ∧ t.tlc.link = .down (some (s.lt + 500000)) ∧
        t.ntu.pending.has .linkDown = true ∧ t.count .linkDownEntries = oneMore (s.count .linkDownEntries) ∧
        t.count .trainingFailures = oneMore (s.count .trainingFailures) ∧ t.cmu.role ≠ some .tether ∧
        t.pmg.budget = s.pmg.limits.safe ∧ t.fst.slots.count .filling = 0)) ∧
    (∀ c, s.tlc.link = .retrain c n began →
      (n < 3 → exec .retrainAttemptTimeout s =
        .next ((s.bump .trainingFailures).modTlc fun t => { t with link := .retrain c (n + 1) s.lt })) ∧
      (3 ≤ n → c.gear = .g1 → ∃ t, exec .retrainAttemptTimeout s = .next t ∧
        t.tlc.link = .down (some (s.lt + 500000)) ∧ t.ntu.pending.has .linkDown = true ∧
        t.cmu.role ≠ some .tether ∧ t.pmg.budget = s.pmg.limits.safe) ∧
      (∀ g, c.gear.below = some g → 3 ≤ n →
        Completes .retrainAttemptTimeout s
          (((s.bump .trainingFailures).bump .gearReductions).modTlc fun t =>
            { t with link := .retrain ⟨g, c.lanes⟩ 1 s.lt })
          (s.ntu.pending.put .gearReduced)))

/-- R10, R12, R14, R22: losing lock on a current lane in ACTIVE enters RETRAIN at the current gear and lanes: RETRAIN is raised
and counted, the FILLING slot is abandoned, nothing is left in transmission, the waiting beat is dropped. A lane that is not
current has no effect (log entry 8). The model takes "together" of R10 as the same microsecond: a further loss then, on any lane,
has no effect, and a block that fails its check then only moves its counter (log entry 49, DEDUCED). (With a RESTART of the TETHER
port pending its reset follows: R209.) -/
def Obligations.LockLossEntersRetrain : Prop :=
  ∀ (s : State) (c : Channel) (lane : Fin 4), s.tlc.link = .active c →
    (c.lanes.has lane = false → exec (.symbolLockLost lane) s = .next s) ∧
    (c.lanes.has lane = true → s.cmu.restart ≠ some .tether →
      ∃ t, exec (.symbolLockLost lane) s = .next t ∧ t.tlc.link = .retrain c 1 s.lt ∧
        t.tlc.tx = none ∧ t.tlc.beat = none ∧ t.tlc.sleepPending = false ∧ t.ntu.pending.has .retrain = true ∧
        t.count .retrainEntries = oneMore (s.count .retrainEntries) ∧ t.fst.slots.count .filling = 0 ∧
        t.tlc.features = s.tlc.features ∧ t.tlc.offer = s.tlc.offer ∧ t.tlc.offset = s.tlc.offset ∧
        t.pmg = s.pmg ∧ t.msu = s.msu ∧ t.aud = s.aud ∧ t.sou = s.sou ∧ t.oin = s.oin ∧ t.cmu.queue = s.cmu.queue ∧
        (∀ l, exec (.symbolLockLost l) t = .next t) ∧
        (∀ b : List Byte, b.length < 8 → exec (.linkBlockDiscarded b) t = .next (t.bump .linkCrcErrors)))

/-- R6, R15: the retry timer takes DOWN to TRAINING at attempt 1; line energy takes SLEEP there, starts the IMUs on a powered
SENSOR rail, and has no effect in any other state. A timed row acts at or after its moment (log entry 4). -/
def Obligations.RetryAndLineEnergyStartTraining : Prop :=
  ∀ s : State,
    (∀ e, s.tlc.link = .down (some e) → e ≤ s.lt →
      exec .retryTimerExpiry s = .next { s with tlc := { s.tlc with link := .training 1 s.lt none } }) ∧
    (s.tlc.link = .sleep →
      ∃ t, exec .lineEnergyDetected s = .next t ∧ t.tlc = { s.tlc with link := .training 1 s.lt none } ∧
        (∀ x, s.pmg.rails.sensor = .on → (s.msu.imu x).state = .off → (t.msu.imu x).state = .starting .reset s.lt) ∧
        t.pmg = s.pmg ∧ t.cmu = s.cmu ∧ t.ntu = s.ntu ∧ t.oin = s.oin ∧ t.fst = s.fst ∧ t.aud = s.aud) ∧
    (s.tlc.link ≠ .sleep → exec .lineEnergyDetected s = .next s)

/-- R8, R9, R21, R212, R213, R217: a downstream block that passes its checks is the row of its stream and kind, with its
payload; any other is LINK_BLOCK_DISCARDED, with the whole block. In ACTIVE a block that fails its CRC or its length is counted
in LINK_CRC_ERRORS and in the window, below the threshold with no further effect, and at the threshold with an entry into
RETRAIN; a block of no known stream, a LINK block and a PICTURE block of no known kind are counted and do not count toward the
window. The window's count becomes zero at each multiple of 1,000 µs. -/
def Obligations.BlocksAreDeliveredOrDiscarded : Prop :=
  (∀ (s : State) (c : Channel) (b : List Byte), s.tlc.link = .active c →
     let bad := b.length < 8 ∨ natAt b 2 2 + 8 ≠ b.length ∨ crc32 (b.take (b.length - 4)) ≠ natAt b (b.length - 4) 4
     (bad → s.tlc.crcCount + 1 < s.tlc.threshold →
       exec (.linkBlockDiscarded b) s =
         .next ((s.bump .linkCrcErrors).modTlc fun t => { t with crcCount := t.crcCount + 1 })) ∧
     (bad → s.tlc.threshold ≤ s.tlc.crcCount + 1 → s.cmu.restart ≠ some .tether →
       ∃ t, exec (.linkBlockDiscarded b) s = .next t ∧ t.tlc.link = .retrain c 1 s.lt ∧
         t.count .linkCrcErrors = oneMore (s.count .linkCrcErrors) ∧
         t.count .retrainEntries = oneMore (s.count .retrainEntries) ∧ t.ntu.pending.has .retrain = true) ∧
     (¬ bad → natAt b 0 1 = 0 ∨ 4 < natAt b 0 1 →
       exec (.linkBlockDiscarded b) s = .next (s.bump .linkUnknownStream)) ∧
     (¬ bad → natAt b 0 1 = 4 → natAt b 1 1 ≠ 1 → natAt b 1 1 ≠ 2 →
       exec (.linkBlockDiscarded b) s = .next (s.bump .linkMarksIgnored)) ∧
     (¬ bad → natAt b 0 1 = 1 → (natAt b 1 1 = 0 ∨ 3 < natAt b 1 1) →
       exec (.linkBlockDiscarded b) s = .next (s.bump .pictureStrayBlocks))) ∧
  (∀ (p : List Byte) (stream kind : Byte), p.length ≤ 65535 →
     let head : List Byte := [stream, kind] ++ leBytes 2 (p.length : Int) ++ p
     let block := head ++ leBytes 4 (crc32 head : Int)
     (stream = 0x01 → kind = 0x01 → commandOfBlock block = .frameBegin p) ∧
     (stream = 0x01 → kind = 0x02 → commandOfBlock block = .lines p) ∧
     (stream = 0x01 → kind = 0x03 → commandOfBlock block = .frameEnd p) ∧
     (stream = 0x02 → commandOfBlock block = .sound p) ∧
     (stream = 0x03 → commandOfBlock block = .controlBlockReceived p) ∧
     (stream = 0x04 → kind = 0x01 → commandOfBlock block = .timeMark p) ∧
     (stream = 0x04 → kind = 0x02 → commandOfBlock block = .sleepMark p) ∧
     (stream = 0x00 ∨ 0x04 < stream ∨ (stream = 0x01 ∧ (kind = 0x00 ∨ 0x03 < kind)) ∨
         (stream = 0x04 ∧ kind ≠ 0x01 ∧ kind ≠ 0x02) →
       commandOfBlock block = .linkBlockDiscarded block)) ∧
  (∀ b : List Byte,
     b.length < 8 ∨ natAt b 2 2 + 8 ≠ b.length ∨ crc32 (b.take (b.length - 4)) ≠ natAt b (b.length - 4) 4 →
     commandOfBlock b = .linkBlockDiscarded b) ∧
  ∀ s : State, s.lt % 1000 = 0 → exec .crcWindowBoundary s = .next { s with tlc := { s.tlc with crcCount := 0 } }

/-- R17, R18, R19, R20: a time mark in ACTIVE holds, slews by 1 µs or steps the offset by its error, and locks the basis; a
step raises TIME_STEP, is counted and sets the three step marks. 10,000 µs after the last mark the basis is FREE and TIME_FREE
is pending; the offset is kept. A timed row acts at or after its moment (log entry 4) and leaves the state before it (log entry
8). -/
def Obligations.TimeMarksMoveOffsetAndBasis : Prop :=
  (∀ (s : State) (c : Channel) (q : List Byte), s.tlc.link = .active c → 8 ≤ q.length →
     let e : Int := (natAt q 0 8 : Int) + s.tlc.lineDelay - (s.lt + s.tlc.offset)
     (e.natAbs ≤ 2 → Completes (.timeMark q) s { s with tlc := { s.tlc with basis := .locked s.lt } }
       (s.ntu.pending.drop .timeFree)) ∧
     (2 < e.natAbs → e.natAbs ≤ 500 →
       Completes (.timeMark q) s
         { s with tlc := { s.tlc with basis := .locked s.lt, offset := s.tlc.offset + (if 0 < e then 1 else -1) } }
         (s.ntu.pending.drop .timeFree)) ∧
     (500 < e.natAbs →
       Completes (.timeMark q) s
         ((s.bump .timeSteps).modTlc fun t =>
           { t with
             basis := .locked s.lt, offset := s.tlc.offset + e, stepMotion := true, stepCapture := true,
             stepBeat := true })
         ((s.ntu.pending.put .timeStep).drop .timeFree))) ∧
  ∀ (s : State) (since : Nat), s.tlc.basis = .locked since →
    (since + 10000 ≤ s.lt →
      Completes .timeBasisFree s { s with tlc := { s.tlc with basis := .free } } (s.ntu.pending.put .timeFree)) ∧
    (s.lt < since + 10000 → exec .timeBasisFree s = .next s)

/-- R13, R12, R149, R162: a sleep mark with SLEEP agreed puts the link into SLEEP: the standby mark is set, B is the safe budget,
in NORMAL only SENSOR keeps its state, the IMUs and scan-out are OFF, nothing is in transmission. Without SLEEP agreed it is
counted as ignored. (With a RESTART of the TETHER port pending its reset follows: R209.) -/
def Obligations.SleepMarkPutsLinkToSleep : Prop :=
  ∀ (s : State) (c : Channel) (q : List Byte), s.tlc.link = .active c →
    (∀ f, s.tlc.features = some f → f.sleep = true → s.cmu.restart ≠ some .tether →
      ∃ t, exec (.sleepMark q) s = .next t ∧ t.tlc.link = .sleep ∧ t.tlc.tx = none ∧ t.tlc.beat = none ∧
        t.tlc.sleepPending = false ∧ t.tlc.offset = s.tlc.offset ∧ t.tlc.lineDelay = s.tlc.lineDelay ∧
        t.pmg.standby = true ∧ t.pmg.budget = s.pmg.limits.safe ∧
        (s.pmg.supply = .normal → t.pmg.target = .sensorOnly ∧ t.pmg.rails.audio = .off ∧ t.pmg.rails.panelL = .off ∧
          t.pmg.rails.panelR = .off ∧ t.pmg.rails.illum = .off ∧
          (s.pmg.rails.sensor ≠ .off → t.pmg.rails.sensor = s.pmg.rails.sensor)) ∧
        t.msu.a.state = .off ∧ t.msu.b.state = .off ∧ t.sou.scanOut = .off ∧
        t.count .sleepEntries = oneMore (s.count .sleepEntries) ∧ t.fst.slots = s.fst.slots ∧
        t.cmu.role = s.cmu.role ∧ t.cmu.queue = s.cmu.queue) ∧
    ((∀ f, s.tlc.features = some f → f.sleep = false) →
      exec (.sleepMark q) s = .next (s.bump .linkMarksIgnored))

/-- R24, R25, R19, R22: a beat due in ACTIVE is built from the values of the moment, takes the step mark and the TIME_STEP of an
unsent beat it replaces, and goes at once when nothing is in transmission. It is the model's choice that a beat in transmission
is not unsent, so that it goes on, the new one waits and BEATS_REPLACED does not move (log entry 75, DESIGN CHOICE), and that a
beat may fall due at the very multiple at which the link entered ACTIVE (log entry 73, DESIGN CHOICE). A timed row acts at or
after its moment (log entry 4). -/
def Obligations.StatusBeatIsBuilt : Prop :=
  ∀ (s : State) (c : Channel), s.tlc.link = .active c → s.lt % 1000 = 0 → s.tlc.beatTakenAt ≠ some s.lt →
    ∃ (t : State) (b : Beat), exec .statusBeatDue s = .next t ∧
      b.linkTime = s.lt + s.tlc.offset ∧ b.lastBlank = s.sou.lastBlank ∧
      b.freeSlots = s.fst.slots.count .free ∧ b.fill = s.aud.buffer.length ∧ b.level = s.pmg.level ∧
      b.wear = s.msu.wear ∧ b.summary = setMask s.ntu.summary ∧
      (∀ u ∈ s.fst.slots.toList, u.state = .showing → s.fst.slots.count .showing = 1 → b.showing = some u.frame) ∧
      (s.fst.slots.count .showing = 0 → b.showing = none) ∧
      (b.freeTime = true ↔ s.tlc.basis = .free) ∧
      (b.timeStep = true ↔ s.tlc.stepBeat = true ∨ ∃ o, s.tlc.beat = some o ∧ o.timeStep = true) ∧
      t.tlc.stepBeat = false ∧
      (s.tlc.tx = none → t.tlc.tx = some (.beat b) ∧ t.tlc.beat = none) ∧
      (s.tlc.tx ≠ none → t.tlc.tx = s.tlc.tx ∧ t.tlc.beat = some b) ∧
      t.count .beatsReplaced =
        (if s.tlc.beat = none then s.count .beatsReplaced else oneMore (s.count .beatsReplaced)) ∧
      t.msu = s.msu ∧ t.aud = s.aud ∧ t.cmu = s.cmu ∧ t.pmg = s.pmg ∧ t.ntu = s.ntu

/-- R22, R23, R52, R200: a motion record, a capture block, a reply or notice, and a beat sent whole leave alone the head of their
queue or nothing; then a due beat is sent, else the oldest motion record, else a message that has waited 2,000 µs, else the oldest
capture block, else the oldest message. In BROWNOUT the motion queue is kept and not drained: no record of it is chosen, and one
already in transmission is sent whole (log entry 50, DEDUCED). -/
def Obligations.ArbiterChoosesInOrder : Prop :=
  ∀ (s : State) (c : Channel), s.tlc.link = .active c →
    let next (motion : List MotionRecord) (capture : List CaptureBlock) (out : List Message) (t : State) : Prop :=
      let drained := if s.pmg.supply = .brownout then [] else motion
      t.msu = { s.msu with queue := motion } ∧ t.aud = { s.aud with queue := capture } ∧ t.cmu.outTether = out ∧
        t.tlc.link = s.tlc.link ∧ t.pmg = s.pmg ∧ t.ntu = s.ntu ∧
        (∀ b, s.tlc.beat = some b → t.tlc.tx = some (.beat b) ∧ t.tlc.beat = none) ∧
        (s.tlc.beat = none → drained ≠ [] → t.tlc.tx = some .motion) ∧
        (s.tlc.beat = none → drained = [] → ∀ m ms, out = m :: ms → m.entered + 2000 ≤ s.lt →
          t.tlc.tx = some .control) ∧
        (s.tlc.beat = none → drained = [] → capture ≠ [] → (∀ m ∈ out.head?, s.lt < m.entered + 2000) →
          t.tlc.tx = some .capture) ∧
        (s.tlc.beat = none → drained = [] → capture = [] → out ≠ [] → t.tlc.tx = some .control) ∧
        (s.tlc.beat = none → drained = [] → capture = [] → out = [] → t.tlc.tx = none)
    (∀ r q, s.tlc.tx = some .motion → s.msu.queue = r :: q →
      ∃ t, exec .upstreamBlockSent s = .next t ∧ t.cmu = s.cmu ∧ next q s.aud.queue s.cmu.outTether t) ∧
    (∀ b q, s.tlc.tx = some .capture → s.aud.queue = b :: q →
      ∃ t, exec .upstreamBlockSent s = .next t ∧ t.cmu = s.cmu ∧ next s.msu.queue q s.cmu.outTether t) ∧
    (∀ m ms, s.tlc.tx = some .control → s.cmu.outTether = m :: ms → m.role = .reply ∨ m.role = .notice →
      ∃ t, exec .upstreamBlockSent s = .next t ∧ t.cmu = { s.cmu with
          outTether := ms
          queue := if m.role = .notice then s.cmu.queue
            else s.cmu.queue.eraseP (fun e => e.port == .tether && e.complete) } ∧
        next s.msu.queue s.aud.queue ms t) ∧
    (∀ b, s.tlc.tx = some (.beat b) →
      ∃ t, exec .upstreamBlockSent s = .next t ∧ t.cmu = s.cmu ∧ next s.msu.queue s.aud.queue s.cmu.outTether t)

/-- R1: out of ACTIVE no downstream block, no beat and no sent block has any effect, but for a CRC error at the moment of an
entry into RETRAIN (R10). Such a row leaves the state as it is (log entry 8). -/
def Obligations.NothingIsTakenOutOfActive : Prop :=
  ∀ (s : State) (q : List Byte), (∀ c, s.tlc.link ≠ .active c) →
    (∀ i ∈ [Instr.frameBegin q, .lines q, .frameEnd q, .sound q, .controlBlockReceived q, .timeMark q, .sleepMark q,
        .statusBeatDue, .upstreamBlockSent], exec i s = .next s) ∧
    ((∀ c, s.tlc.link ≠ .retrain c 1 s.lt) → exec (.linkBlockDiscarded q) s = .next s)

/-! ### Requests and the two ports -/

/-- R199, R209: a request whose turn it is not waits (the model's form of a row that cannot happen yet, log entry 8); a
directing request from a port without the role is replied NOT_CONTROLLER; an unknown kind is replied UNKNOWN_KIND, under the kind
plus 80h, which wraps from 80h on (log entry 21, DEDUCED: R211 codes the replies of requests only). -/
def Obligations.RequestsAreJudged : Prop :=
  (∀ (k : ReqKind) (s : State) (p : Port) (tag : Byte) (q : List Byte),
    (s.turn k.code p tag q = false → exec (k.row p tag q) s = .next s) ∧
    (s.turn k.code p tag q = true → k.directing = true → s.cmu.role ≠ some p →
      Answers (k.row p tag q) s s k p tag .notController [])) ∧
  (∀ (s : State) (p : Port) (tag kind : Byte) (q : List Byte), kind = 0 ∨ 0x1B < kind →
    s.turn kind p tag q = true →
    ∃ t m, exec (.unknownKind p tag kind q) s = .next t ∧ t.cmu.queue = markComplete s.cmu.queue ∧
      t.cmu.out p = s.cmu.out p ++ [m] ∧ m.body = [kind + 0x80, tag, 0x06] ∧
      t = { s with
        tlc := { s.tlc with tx := t.tlc.tx, beat := t.tlc.beat }
        cmu := { s.cmu with
          queue := t.cmu.queue, outTether := t.cmu.outTether, outService := t.cmu.outService,
          serviceTx := t.cmu.serviceTx } })

/-- R202, R203, R190: ATTACH gives a free role to its port, is replied, and raises CONTROLLER_CHANGE (in this order: log entry 15);
the notices due for it lead to one issue, also with a holdoff of 0, or to the due mark under a running timer (log entry 17). Held
by its own port the role is replied OK, held by the other NOT_CONTROLLER. DETACH releases the role: entries of its port not yet
complete and the waiting notice are discarded, ATTN is inactive. -/
def Obligations.RoleIsTakenAndReleased : Prop :=
  ∀ (s : State) (p : Port) (tag : Byte),
    (s.turn ReqKind.attach.code p tag [] = true →
      (s.cmu.role = none →
        ∃ v t, exec (.attach p tag []) s = .next t ∧
          Replied { s with cmu := { s.cmu with role := some p } } v .attach p tag .ok (codeByte (portCode p)) ∧
          SameButNotices v t ∧ t.ntu.pending = s.ntu.pending.put .controllerChange ∧
          (let due := s.ntu.enabled.has .controllerChange = true ∨ s.ntu.summary ≠ []
           (due → s.ntu.timer = none → t.ntu.number = s.ntu.number + 1 ∧
             t.count .noticesIssued = oneMore (s.count .noticesIssued)) ∧
           (due → s.ntu.timer ≠ none → t.ntu.number = s.ntu.number ∧ t.ntu.due = true) ∧
           (¬ due → t.ntu.number = s.ntu.number)) ∧
          t.lastReply p .attach tag .ok (codeByte (portCode p))) ∧
      (s.cmu.role = some p → Answers (.attach p tag []) s s .attach p tag .ok (codeByte (portCode p))) ∧
      (∀ r, s.cmu.role = some r → r ≠ p →
        Answers (.attach p tag []) s s .attach p tag .notController (codeByte (portCode r)))) ∧
    (∀ q, q ≠ [] → s.turn ReqKind.attach.code p tag q = true →
      Answers (.attach p tag q) s s .attach p tag .badArgument []) ∧
    (s.directed .detach p tag [] →
      ∃ t, exec (.detach p tag []) s = .next t ∧ t.cmu.role = none ∧ t.ntu.attn = false ∧ t.ntu.due = false ∧
        t.cmu.queue = (markComplete s.cmu.queue).filter (fun e => e.port != p || e.complete) ∧
        t.lastReply p .detach tag .ok [] ∧ (∀ m ∈ t.waiting p, m.role ≠ .notice) ∧
        t.ntu.pending = s.ntu.pending ∧ t.pmg = s.pmg ∧ t.msu = s.msu ∧ t.oin = s.oin ∧ t.fst = s.fst ∧
        t.ilg = s.ilg ∧ t.aud = s.aud ∧ t.prr = s.prr)

/-- R209, R14: RESTART from the TETHER port out of ACTIVE resets at once, otherwise its reset takes place when its reply has
left (on the SERVICE port here). LINK_SLEEP in ACTIVE with SLEEP agreed sets the mark, and the link enters SLEEP when its OK
reply has left; otherwise it is replied WRONG_STATE. What a reset leaves stands in ResetDone; that its moment is no tick where it
changes the rate, unless it was one of the old period, is R34 as log entry 47 (DEDUCED) reads it. -/
def Obligations.RestartAndSleepFollowTheirReplies : Prop :=
  ∀ (s : State) (p : Port) (tag : Byte),
    (s.directed .restart p tag [] →
      (p = .tether → (∀ c, s.tlc.link ≠ .active c) →
        ∃ t, exec (.restart p tag []) s = .next t ∧ ResetDone s t) ∧
      ((p = .service ∨ ∃ c, s.tlc.link = .active c) →
        Answers (.restart p tag []) s { s with cmu := { s.cmu with restart := some p } } .restart p tag .ok [])) ∧
    (∀ m ms, s.cmu.serviceTx = .head → s.cmu.outService = m :: ms → m.role = .restartReply →
      ∃ t, exec .serviceFrameSent s = .next t ∧ ResetDone s t) ∧
    (s.directed .linkSleep p tag [] →
      (∀ c f, s.tlc.link = .active c → s.tlc.features = some f → f.sleep = true →
        Answers (.linkSleep p tag []) s { s with tlc := { s.tlc with sleepPending := true } } .linkSleep p tag .ok []) ∧
      ((∀ c f, s.tlc.link = .active c → s.tlc.features = some f → f.sleep = false) →
        Answers (.linkSleep p tag []) s s .linkSleep p tag .wrongState [])) ∧
    (∀ c m ms, s.tlc.link = .active c → s.tlc.tx = some .control → s.cmu.outTether = m :: ms → m.role = .sleepReply →
      s.tlc.sleepPending = true → s.cmu.restart ≠ some .tether →
      ∃ t, exec .upstreamBlockSent s = .next t ∧ t.tlc.link = .sleep ∧ t.pmg.standby = true)

/-- R198, R200, R201, R212, R213: a CONTROL block and a whole service frame put their request at the end of the command queue; a
full queue discards it and raises CMD_OVERFLOW. A frame of length 0 or above 2,048, one whose check does not match and one whose
bytes stop for more than 1,000 µs are bad: discarded and counted, and the bytes after the sync byte are searched again, so that
a stray sync byte before a whole frame loses nothing of the frame. When a service reply has left, its entry leaves the queue and
the UART goes on. A timed row acts at or after its moment and leaves the state before it (log entries 4, 8). -/
def Obligations.MessagesArriveAndLeave : Prop :=
  ∀ (s : State) (q : List Byte),
    (∀ c, s.tlc.link = .active c →
      (q.length < 2 → exec (.controlBlockReceived q) s = .next (s.bump .linkUnknownStream)) ∧
      (2 ≤ q.length → s.cmu.queue.length < 8 →
        exec (.controlBlockReceived q) s = .next { s with cmu := { s.cmu with
          queue := s.cmu.queue ++ [⟨.tether, byteAt q 0, byteAt q 1, q.drop 2, false⟩] } }) ∧
      (2 ≤ q.length → 8 ≤ s.cmu.queue.length →
        Completes (.controlBlockReceived q) s (s.bump .commandsOverflowed) (s.ntu.pending.put .cmdOverflow))) ∧
    (s.straps.serviceEn = true → s.cmu.storeState ≠ .loading → s.cmu.rx = [] →
      (2 ≤ q.length → q.length ≤ 2048 → s.cmu.queue.length < 8 →
        exec (.serviceFrameReceived (serviceFrame q)) s = .next { s with cmu := { s.cmu with
          rxLast := s.lt, queue := s.cmu.queue ++ [⟨.service, byteAt q 0, byteAt q 1, q.drop 2, false⟩] } }) ∧
      (∀ n, n = natAt q 0 2 → 2 ≤ q.length → (∀ b ∈ q, b ≠ 0xA5) →
        n = 0 ∨ 2048 < n ∨ (n + 4 ≤ q.length ∧ crc16 (q.take (n + 2)) ≠ natAt q (n + 2) 2) →
        exec (.serviceFrameReceived (0xA5 :: q)) s =
          .next ((s.bump .serviceFramesBad).modCmu fun c => { c with rxLast := s.lt })) ∧
      (8 ≤ q.length → q.length ≤ 255 → s.cmu.queue.length < 8 →
        exec (.serviceFrameReceived (0xA5 :: serviceFrame q)) s = .next { s.bump .serviceFramesBad with cmu := { s.cmu with
          rxLast := s.lt, queue := s.cmu.queue ++ [⟨.service, byteAt q 0, byteAt q 1, q.drop 2, false⟩] } }) ∧
      exec (.serviceFrameReceived [0xA5]) s = .next (s.modCmu fun c => { c with rx := [0xA5], rxLast := s.lt })) ∧
    (s.cmu.rx = 0xA5 :: q → (∀ b ∈ q, b ≠ 0xA5) →
      q.length < 2 ∨ (1 ≤ natAt q 0 2 ∧ natAt q 0 2 ≤ 2048 ∧ q.length < natAt q 0 2 + 4) → s.cmu.rxLast + 1000 < s.lt →
      exec .serviceByteTimeout s = .next ((s.bump .serviceFramesBad).modCmu fun c => { c with rx := [] })) ∧
    (s.lt ≤ s.cmu.rxLast + 1000 → exec .serviceByteTimeout s = .next s) ∧
    (∀ m ms, s.cmu.serviceTx = .head → s.cmu.outService = m :: ms →
      (m.role = .reply → exec .serviceFrameSent s = .next { s with cmu := { s.cmu with
        outService := ms, serviceTx := if ms = [] then .idle else .head
        queue := s.cmu.queue.eraseP (fun e => e.port == .service && e.complete) } }) ∧
      (m.role = .notice → exec .serviceFrameSent s = .next { s with cmu := { s.cmu with
        outService := ms, serviceTx := if ms = [] then .idle else .head } }))

/-- R171, R192, R194, R204, R205: the read-only requests are carried out for either port, with and without the role, and leave
everything but their reply as it is. The clear option of READ_COUNTERS is the controller's: the counters read become zero and no
other counter moves. The group ALL (11) is every group in order, and a group or a clear option that is none of those listed is
BAD_ARGUMENT. The values of GET_INFO, READ_CONDITIONS, GET_PROCEDURE_RESULT and of the groups LINK, POWER and COMMAND of
GET_STATUS stand written out. (How values are coded beyond R215 is the model's choice, log entry 13; the part's code and its
revision are free, log entry 9; `loading` is reported as 3, log entry 3.) -/
def Obligations.ReadOnlyRequestsReport : Prop :=
  ∀ (s : State) (p : Port) (tag : Byte),
    let code (n : Nat) : List Byte := [BitVec.ofNat 8 n]
    let bit (b : Bool) : List Byte := if b then [1] else [0]
    let orNone (width : Nat) (v : Option (List Byte)) : List Byte :=
      match v with
      | some bs => 1 :: bs
      | none => 0 :: List.replicate width 0
    let left (e : Option Nat) : List Byte := orNone 4 (e.map fun (t : Nat) => leBytes 4 ((t - s.lt : Nat) : Int))
    let port (r : Port) : Nat := match r with | .tether => 0 | .service => 1
    let role := orNone 1 (s.cmu.role.map fun r => code (port r))
    let lanes : Nat := match s.straps.maxLanes with | .one => 1 | .two => 2 | .four => 4
    let fallback : Nat := match s.straps.fallback with | .g1 => 0 | .g2 => 1
    let store : Nat := match s.cmu.storeState with
      | .loaded => 0 | .defaultedAbsent => 1 | .defaultedBad => 2 | .loading => 3
    let info := Config.partCode ++ leBytes 4 (Config.revision : Int) ++
      (leBytes 4 (lanes : Int) ++ code fallback ++ bit s.straps.serviceEn ++ bit s.straps.storePresent) ++ code store ++
      role ++ code (port p) ++ leBytes 8 (s.lt : Int)
    let sets : List CondSet := [.link, .motion, .picture, .audio, .power, .command]
    let summary : Nat := ((List.range 6).zip sets).foldl
      (fun m e => if s.ntu.pending.get e.2 &&& s.ntu.enabled.get e.2 = 0 then m else m + 2 ^ e.1) 0
    let waits : Bool := match s.cmu.role with
      | some r => (s.waiting r).any (fun m => m.role == .notice)
      | none => false
    let conditions :=
      sets.flatMap (fun c => leBytes 2 ((s.ntu.pending.get c).toNat : Int) ++ leBytes 2 ((s.ntu.enabled.get c).toNat : Int)) ++
        code summary ++ code s.ntu.holdoff ++ left s.ntu.timer ++ bit s.ntu.due ++ bit waits ++
        leBytes 2 (s.ntu.number.toNat : Int) ++ bit s.ntu.attn ++ left s.ntu.quiet
    let kind (k : ProcKind) : Nat := match k with | .biasCal => 0 | .cableMeasure => 1 | .sensorSync => 2 | .writeStore => 3
    let value (v : ProcValue) : List Byte := match v with
      | .target .a => [0] | .target .b => [1] | .number n => leBytes 4 n | .time t => leBytes 8 (t : Int)
      | .recorded => [0] | .pendingMark => [1]
    let progress (w : Work) : List Byte := match w with
      | .cable n .. => 1 :: (leBytes 4 ((min 3 (n / 1000 + 1) : Nat) : Int) ++ leBytes 4 (n : Int))
      | _ => 0 :: List.replicate 8 0
    let result := bit s.prr.running.isSome ++
      orNone 14 (s.prr.running.map fun r => code (kind r.work.kind) ++ leBytes 4 (r.run : Int) ++ progress r.work) ++
      orNone 22 (s.prr.result.map fun r => code (kind r.kind) ++ leBytes 4 (r.run : Int) ++ code r.result.ctorIdx ++
        leBytes 8 (r.acceptedAt : Int) ++ leBytes 8 (r.endedAt : Int) ++ r.values.flatMap value)
    let gear (g : Gear) : Nat := match g with | .g1 => 0 | .g2 => 1 | .g3 => 2
    let laneMask (l : LaneSet) : Nat := match l with | .one => 1 | .two => 3 | .four => 15
    let channel : Option Channel := match s.tlc.link with | .active c => some c | .retrain c _ _ => some c | _ => none
    let attempt : Option Nat := match s.tlc.link with | .training n _ _ => some n | .retrain _ n _ => some n | _ => none
    let linkState : Nat := match s.tlc.link with
      | .down _ => 0 | .training .. => 1 | .active _ => 2 | .retrain .. => 3 | .sleep => 4
    let link := code linkState ++ orNone 1 (channel.map fun c => code (gear c.gear)) ++
      orNone 1 (channel.map fun c => code (laneMask c.lanes)) ++
      orNone 1 (s.tlc.features.map fun f => code ((if f.sleep then 1 else 0) + (if f.wakeBeacon then 2 else 0))) ++
      orNone 4 (s.tlc.offer.map fun (n : Nat) => leBytes 4 (n : Int)) ++ leBytes 4 (s.tlc.lineDelay : Int) ++
      leBytes 4 s.tlc.offset ++ code (if s.tlc.basis = .free then 1 else 0) ++ leBytes 4 (s.tlc.threshold : Int) ++
      orNone 4 (attempt.map fun (n : Nat) => leBytes 4 (n : Int))
    let level : Nat := match s.pmg.level with | .l0 => 0 | .l1 => 1 | .l2 => 2 | .l3 => 3
    let supply : Nat := match s.pmg.supply with | .start => 0 | .normal => 1 | .brownout => 2
    let target : Nat := match s.pmg.target with | .none => 0 | .sensorOnly => 1 | .all => 2
    let rail (x : Rail) : List Byte := match s.pmg.rails.get x with
      | .off => code 0 ++ left none | .ramping e => code 1 ++ left (some e) | .on => code 2 ++ left none
      | .fault => code 3 ++ left none
    let power := orNone 28 (s.pmg.meas.map fun m =>
        [m.vin, m.iin, m.iinEff, m.pIn, m.pLoss, m.pTotal, m.drop].flatMap fun (n : Nat) => leBytes 4 (n : Int)) ++
      leBytes 4 (s.pmg.budget : Int) ++ code level ++ leBytes 4 (s.pmg.rise : Int) ++ leBytes 4 (s.pmg.fall : Int) ++
      code supply ++ leBytes 4 (s.pmg.cut : Int) ++ leBytes 4 (s.pmg.recovery : Int) ++
      [Rail.sensor, .audio, .panelL, .panelR, .illum].flatMap rail ++ code target ++ bit s.pmg.standby ++
      leBytes 4 (s.pmg.rCable : Int) ++ bit s.pmg.testLoad ++
      [s.pmg.limits.cap, s.pmg.limits.safe, s.pmg.limits.vWarn, s.pmg.limits.vCrit, s.pmg.limits.vCut].flatMap
        fun (n : Nat) => leBytes 2 (n : Int)
    let command := role ++ leBytes 4 (s.cmu.queue.length : Int) ++ leBytes 4 (s.cmu.queue.countP (·.complete) : Int) ++
      leBytes 4 (s.cmu.outTether.length : Int) ++ leBytes 4 (s.cmu.outService.length : Int) ++ bit s.straps.serviceEn
    (1 ≤ Config.revision ∧ Config.revision ≤ 255) ∧
    (s.turn ReqKind.getInfo.code p tag [] = true → Answers (.getInfo p tag []) s s .getInfo p tag .ok info) ∧
    (s.turn ReqKind.readConditions.code p tag [] = true →
      Answers (.readConditions p tag []) s s .readConditions p tag .ok conditions) ∧
    (s.turn ReqKind.getProcedureResult.code p tag [] = true →
      Answers (.getProcedureResult p tag []) s s .getProcedureResult p tag .ok result) ∧
    (s.turn ReqKind.getStatus.code p tag [0] = true → Answers (.getStatus p tag [0]) s s .getStatus p tag .ok link) ∧
    (s.turn ReqKind.getStatus.code p tag [7] = true → Answers (.getStatus p tag [7]) s s .getStatus p tag .ok power) ∧
    (s.turn ReqKind.getStatus.code p tag [8] = true → Answers (.getStatus p tag [8]) s s .getStatus p tag .ok command) ∧
    (∀ g : StatusGroup, s.turn ReqKind.getStatus.code p tag [BitVec.ofNat 8 g.ctorIdx] = true →
      Answers (.getStatus p tag [BitVec.ofNat 8 g.ctorIdx]) s s .getStatus p tag .ok (s.groupBytes g)) ∧
    (s.turn ReqKind.getStatus.code p tag [9] = true →
      Answers (.getStatus p tag [9]) s s .getStatus p tag .ok (StatusGroup.all.flatMap s.groupBytes)) ∧
    (∀ b : Byte, 9 < b → s.turn ReqKind.getStatus.code p tag [b] = true →
      Answers (.getStatus p tag [b]) s s .getStatus p tag .badArgument []) ∧
    (∀ g : CounterGroup,
      let values := g.members.flatMap fun c => leBytes 4 (s.count c)
      (s.turn ReqKind.readCounters.code p tag [BitVec.ofNat 8 g.ctorIdx, 0] = true →
        Answers (.readCounters p tag [BitVec.ofNat 8 g.ctorIdx, 0]) s s .readCounters p tag .ok values) ∧
      (s.turn ReqKind.readCounters.code p tag [BitVec.ofNat 8 g.ctorIdx, 1] = true →
        (s.cmu.role ≠ some p →
          Answers (.readCounters p tag [BitVec.ofNat 8 g.ctorIdx, 1]) s s .readCounters p tag .notController []) ∧
        (s.cmu.role = some p →
          ∃ u, Answers (.readCounters p tag [BitVec.ofNat 8 g.ctorIdx, 1]) s u .readCounters p tag .ok values ∧
            u = { s with counters := u.counters } ∧
            ∀ c, u.count c = if c ∈ g.members then 0 else s.count c))) ∧
    (let values := CounterGroup.all.flatMap fun g => g.members.flatMap fun c => leBytes 4 (s.count c)
     (s.turn ReqKind.readCounters.code p tag [11, 0] = true →
       Answers (.readCounters p tag [11, 0]) s s .readCounters p tag .ok values) ∧
     (s.turn ReqKind.readCounters.code p tag [11, 1] = true →
       (s.cmu.role ≠ some p →
         Answers (.readCounters p tag [11, 1]) s s .readCounters p tag .notController []) ∧
       (s.cmu.role = some p →
         ∃ u, Answers (.readCounters p tag [11, 1]) s u .readCounters p tag .ok values ∧
           u = { s with counters := u.counters } ∧ ∀ c, u.count c = 0))) ∧
    (∀ b o : Byte, 11 < b ∨ 1 < o → s.turn ReqKind.readCounters.code p tag [b, o] = true →
      (o ≠ 1 ∨ s.cmu.role = some p → Answers (.readCounters p tag [b, o]) s s .readCounters p tag .badArgument []) ∧
      (o = 1 → s.cmu.role ≠ some p → Answers (.readCounters p tag [b, o]) s s .readCounters p tag .notController []))

/-! ### Motion and orientation -/

/-- R48, R34, R179, R47, R44: SET_SENSOR_RATE sets the requested rate, and the sync tick of a running SENSOR_SYNC moves to the
first multiple of a changed effective period, in the runner and in the holds. It is the model's choice that the hold of any IMU
is re-formed so, also after its procedure has ended (log entry 12, DESIGN CHOICE), and that the moment of a change that was no
tick of the old period is kept in a field and is no tick of the new one (log entry 47, DEDUCED). SET_WEAR replaces the three
settings and sets both counts to zero, keeps a wear read in progress under the thresholds it was started with, and a REMOVED
entry older than the new away time becomes AWAY at once. A value out of range changes nothing. -/
def Obligations.MotionSettingsAreTaken : Prop :=
  ∀ (s : State) (p : Port) (tag : Byte) (q : List Byte),
    (s.directed .setSensorRate p tag q →
      let r := natAt q 0 2
      (q.length = 2 ∧ (r = 1000 ∨ r = 500 ∨ r = 250) →
        ∃ u, Answers (.setSensorRate p tag q) s u .setSensorRate p tag .ok [] ∧
          u = { s with msu := u.msu, prr := u.prr } ∧
          u.msu = { s.msu with
            requestedRate := r
            barred := u.msu.barred
            a := { s.msu.a with syncAt := u.msu.a.syncAt }
            b := { s.msu.b with syncAt := u.msu.b.syncAt } } ∧
          (∀ x, (u.msu.imu x).syncAt =
            if u.period = s.period then (s.msu.imu x).syncAt
            else (s.msu.imu x).syncAt.map fun t => (t + u.period - 1) / u.period * u.period) ∧
          u.period = 1000000 / min r s.pmg.level.rateCeiling ∧
          u.msu.barred = (if u.period = s.period ∨ s.lt % s.period = 0 then s.msu.barred else some s.lt) ∧
          (s.msu.a.syncAt = none → s.msu.b.syncAt = none → u.prr = s.prr) ∧
          (u.period = s.period → u.prr = s.prr) ∧
          (∀ run at_ tg tick, s.prr.running = some ⟨run, at_, .sync tg tick⟩ → u.period ≠ s.period →
            (∃ x ∈ tg.list, (s.msu.imu x).syncAt ≠ none) →
            u.prr = { s.prr with
              running := some ⟨run, at_, .sync tg ((tick + u.period - 1) / u.period * u.period)⟩ })) ∧
      (¬ (q.length = 2 ∧ (r = 1000 ∨ r = 500 ∨ r = 250)) →
        Answers (.setSensorRate p tag q) s s .setSensorRate p tag .badArgument [])) ∧
    (s.directed .setWear p tag q →
      let worn := natAt q 0 2; let removed := natAt q 2 2; let away := natAt q 4 2
      let good := q.length = 6 ∧ worn ≤ 4095 ∧ removed < worn ∧ 1 ≤ away ∧ away ≤ 600
      let u := { s with msu := { s.msu with
        wornThreshold := worn, removedThreshold := removed, awayTime := away, wornCount := 0, removedCount := 0 } }
      (good → (∀ since, s.msu.wear = .removed since → s.lt < since + away * 1000000) →
        Answers (.setWear p tag q) s u .setWear p tag .ok []) ∧
      (good → (∃ since, s.msu.wear = .removed since ∧ since + away * 1000000 ≤ s.lt) →
        ∃ t, exec (.setWear p tag q) s = .next t ∧ t.lastReply p .setWear tag .ok [] ∧
          t.msu = { u.msu with wear := .away } ∧ t.ntu.pending.has .wearChange = true ∧
          t.count .wearChanges = oneMore (s.count .wearChanges) ∧
          (s.fst.profile.awayBlank = true → t.ilg.output = .dark)) ∧
      (¬ good → Answers (.setWear p tag q) s s .setWear p tag .badArgument []))

/-- R58, R62, R63, R66, R211: SET_AXIS_MAP takes a map of three different axes, empties the ring and keeps the angles;
SELECT_PRIMARY binds a RUNNING IMU; the pose override is set and cleared. Anything else changes nothing. -/
def Obligations.OrientationSettingsAreTaken : Prop :=
  ∀ (s : State) (p : Port) (tag : Byte) (q : List Byte),
    (s.directed .setAxisMap p tag q →
      (∀ m : AxisMap, m.yaw.source ≠ m.pitch.source → m.yaw.source ≠ m.roll.source → m.pitch.source ≠ m.roll.source →
        q = m.bytes →
        AnswersWithNotices (.setAxisMap p tag q) s { s with oin := { s.oin with
          axisMap := m, ring := [], residues := ⟨0, 0, 0⟩, lastTime := none, rates := ⟨0, 0, 0⟩ } } .setAxisMap p tag .ok []
          (s.ntu.pending.put .poseStale)) ∧
      ((∀ m : AxisMap, m.yaw.source ≠ m.pitch.source → m.yaw.source ≠ m.roll.source →
          m.pitch.source ≠ m.roll.source → q ≠ m.bytes) →
        Answers (.setAxisMap p tag q) s s .setAxisMap p tag .badArgument [])) ∧
    (s.directed .selectPrimary p tag q →
      (∀ x : Sensor, q = [if x = .a then 0 else 1] →
        ((s.msu.imu x).state ≠ .running → Answers (.selectPrimary p tag q) s s .selectPrimary p tag .wrongState []) ∧
        ((s.msu.imu x).state = .running → x = s.oin.primary →
          Answers (.selectPrimary p tag q) s { s with oin := { s.oin with failoverPending := false } } .selectPrimary p
            tag .ok []) ∧
        ((s.msu.imu x).state = .running → x ≠ s.oin.primary →
          Answers (.selectPrimary p tag q) s { s with oin := { s.oin with
            primary := x, residues := ⟨0, 0, 0⟩, lastTime := none, failoverPending := false, satRun := 0
            silenceAt := some (s.lt + 20000) } } .selectPrimary p tag .ok [])) ∧
      (q ≠ [0] → q ≠ [1] → Answers (.selectPrimary p tag q) s s .selectPrimary p tag .badArgument [])) ∧
    (s.directed .setPoseOverride p tag q →
      let a : Angles := ⟨intAt q 0 4, intAt q 4 4, intAt q 8 4⟩
      (q.length = 12 ∧ a.inTurn →
        Answers (.setPoseOverride p tag q) s { s with oin := { s.oin with pose := some a } } .setPoseOverride p tag .ok
          []) ∧
      (¬ (q.length = 12 ∧ a.inTurn) →
        Answers (.setPoseOverride p tag q) s s .setPoseOverride p tag .badArgument [])) ∧
    (s.directed .clearPoseOverride p tag [] →
      Answers (.clearPoseOverride p tag []) s { s with oin := { s.oin with pose := none } } .clearPoseOverride p tag .ok
        [])

/-- R64, R65: ANCHOR, the controller's alone, takes the ring entry nearest the local anchor time, of two equally near the newer,
and the newest for a time after it, and corrects the angles and every ring entry by the wrapped difference, so that the anchor
entry's angles become the anchor's; nothing else is changed. An angle out of range, an empty ring and a time before the oldest
entry refuse it. -/
def Obligations.AnchorCorrectsTheRing : Prop :=
  ∀ (s : State) (p : Port) (tag : Byte) (q : List Byte), s.turn ReqKind.anchor.code p tag q = true →
    let a : Angles := ⟨intAt q 8 4, intAt q 12 4, intAt q 16 4⟩
    let t : Int := (natAt q 0 8 : Int) - s.tlc.offset
    let good := q.length = 20 ∧ a.inTurn
    (s.cmu.role ≠ some p → Answers (.anchor p tag q) s s .anchor p tag .notController []) ∧
    (s.cmu.role = some p →
      (¬ good → Answers (.anchor p tag q) s s .anchor p tag .badArgument []) ∧
      (good → s.oin.ring = [] → Answers (.anchor p tag q) s s .anchor p tag .wrongState []) ∧
      (∀ e es, good → s.oin.ring = e :: es → t < e.time →
        Answers (.anchor p tag q) s (s.bump .anchorsTooOld) .anchor p tag .tooOld []) ∧
      (∀ e es, good → s.oin.ring = e :: es → e.time ≤ t →
        ∃ before n after, s.oin.ring = before ++ n :: after ∧
          (∀ x ∈ before, (n.time - t).natAbs ≤ (x.time - t).natAbs) ∧
          (∀ x ∈ after, (n.time - t).natAbs < (x.time - t).natAbs) ∧
          (s.oin.ring.Pairwise (fun x y => x.time < y.time) → (∀ x ∈ s.oin.ring, (x.time : Int) < t) → after = []) ∧
          let c : Angles := ⟨wrapAngle (a.yaw - n.angles.yaw), wrapAngle (a.pitch - n.angles.pitch),
            wrapAngle (a.roll - n.angles.roll)⟩
          let fix (u : Angles) : Angles := ⟨wrapAngle (u.yaw + c.yaw), wrapAngle (u.pitch + c.pitch),
            wrapAngle (u.roll + c.roll)⟩
          c.inTurn ∧ fix n.angles = a ∧
          Answers (.anchor p tag q) s
            ((s.bump .anchorsTaken).modOin fun o =>
              { o with angles := fix o.angles, ring := o.ring.map fun x => { x with angles := fix x.angles } })
            .anchor p tag .ok (timeBytes n.time ++ (numBytes c.yaw ++ numBytes c.pitch ++ numBytes c.roll))))

/-- R29, R30, R32, R59, R60, R61, R184: the start-up exchange goes from reset to identity, scales and read-back and ends RUNNING;
an unexpected answer, a third failure or 50,000 µs take the IMU to FAULT for 100,000 µs, and its retry begins again. The
expiry of the silence watch moves the binding to the other IMU when it is RUNNING, else sets the mark. That the last-integrated
time becomes none when the primary enters RUNNING is the model's reading of R61 (log entry 27, DEDUCED). A timed row acts at or
after its moment (log entry 4). -/
def Obligations.ImuStartsFaultsAndRetries : Prop :=
  ∀ (s : State) (x : Sensor) (entered : Nat),
    let starting (n : StartStep) : State := s.modImu x fun i => { i with state := .starting n entered, fails := 0 }
    let faulted (t : State) : Prop := (t.msu.imu x).state = .fault (s.lt + 100000) ∧ (t.msu.imu x).faultHeld = true ∧
      t.ntu.pending.has (imuFault x) = true ∧ t.count (imuFaults x) = oneMore (s.count (imuFaults x)) ∧
      t.msu.queue = s.msu.queue ∧ t.pmg = s.pmg ∧ t.oin.angles = s.oin.angles ∧ t.prr = s.prr
    (∀ ok, (s.msu.imu x).state = .starting .reset entered →
      exec (.imuStartupTransaction x (.succeeded ok)) s = .next (starting .identity)) ∧
    ((s.msu.imu x).state = .starting .identity entered →
      exec (.imuStartupTransaction x (.succeeded true)) s = .next (starting .scales)) ∧
    (∀ ok, (s.msu.imu x).state = .starting .scales entered →
      exec (.imuStartupTransaction x (.succeeded ok)) s = .next (starting .readBack)) ∧
    ((s.msu.imu x).state = .starting .readBack entered →
      ∃ t, exec (.imuStartupTransaction x (.succeeded true)) s = .next t ∧ (t.msu.imu x).state = .running ∧
        (t.msu.imu x).faultHeld = false ∧ t.ntu.pending.has (imuFault x) = false ∧
        (x = s.oin.primary → t.oin = { s.oin with silenceAt := some (s.lt + 20000), lastTime := none }) ∧
        (x ≠ s.oin.primary → s.oin.failoverPending = true → t.oin.primary = x ∧
          t.ntu.pending.has .imuFailover = true)) ∧
    (∀ step, (s.msu.imu x).state = .starting step entered →
      (step = .identity ∨ step = .readBack →
        ∃ t, exec (.imuStartupTransaction x (.succeeded false)) s = .next t ∧ faulted t) ∧
      ((s.msu.imu x).fails = 2 → ∃ t, exec (.imuStartupTransaction x .failed) s = .next t ∧ faulted t) ∧
      ((s.msu.imu x).fails < 2 → exec (.imuStartupTransaction x .failed) s =
        .next (s.modImu x fun i => { i with fails := i.fails + 1 })) ∧
      (entered + 50000 ≤ s.lt → ∃ t, exec (.imuStartupTimeout x) s = .next t ∧ faulted t)) ∧
    (∀ r, (s.msu.imu x).state = .fault r → r ≤ s.lt →
      exec (.imuRetryExpiry x) s =
        .next (s.modImu x fun i => { i with state := .starting .reset s.lt, fails := 0 })) ∧
    (∀ e, s.oin.silenceAt = some e → e ≤ s.lt → s.oin.primary = x →
      ((s.msu.imu (other x)).state = .running →
        Completes .silenceWatchExpiry s
          ((s.bump .imuFailovers).modOin fun o =>
            { o with
              primary := other x, residues := ⟨0, 0, 0⟩, lastTime := none, failoverPending := false, satRun := 0
              silenceAt := some (s.lt + 20000) }) (s.ntu.pending.put .imuFailover)) ∧
      ((s.msu.imu (other x)).state ≠ .running →
        exec .silenceWatchExpiry s =
          .next (s.modOin fun o => { o with silenceAt := none, failoverPending := true })))

/-- R34 to R38, R40, R41, R53 to R56: a tick starts a read with each IMU that is RUNNING, free of a hold or at its sync tick,
and not being read; the read's success queues a motion record with doubled rates and the marks, and a primary sample is
integrated on the three axes; a record for a full queue removes the oldest, whose marks pass on; a failed read is counted and
sets the gap-pending mark, and the third in a row takes the IMU to FAULT. A read that failed sets the mark at its tick's
completion too, so that a record of an earlier tick that is queued meanwhile does not clear it (the law of R41; log entry 51,
DEDUCED). A timed row acts at or after its moment (log entry 4). -/
def Obligations.SamplesAreReadAndIntegrated : Prop :=
  ∀ (s : State) (x : Sensor) (n : Seq) (t0 : Nat) (y : Bool),
    (s.lt % s.period = 0 → s.msu.lastTick ≠ some s.lt → s.msu.barred ≠ some s.lt → (s.msu.imu x).state = .running →
      s.msu.busy x = false →
      ((s.msu.imu x).syncAt = none ∧ y = false ∨ (s.msu.imu x).syncAt = some s.lt ∧ y = true →
        ∃ t k, exec .sampleTick s = .next t ∧ t = { s with msu := t.msu } ∧
          t.msu.imu x = { s.msu.imu x with seq := (s.msu.imu x).seq + 1, syncAt := none } ∧
          t.msu.ticks = s.msu.ticks ++ [k] ∧ k.time = s.lt ∧
          (⟨x, (s.msu.imu x).seq + 1, y, .inProgress⟩ : Read) ∈ k.reads ∧ t.msu.queue = s.msu.queue) ∧
      (∀ u, (s.msu.imu x).syncAt = some u → s.lt < u →
        ∃ t, exec .sampleTick s = .next t ∧ t = { s with msu := t.msu } ∧ t.msu.imu x = s.msu.imu x ∧
          t.msu.busy x = false ∧ t.msu.queue = s.msu.queue)) ∧
    (∀ d : ImuData, s.msu.ticks = [⟨t0, [⟨x, n, y, .inProgress⟩]⟩] →
      let limit (v : Int) : Prop := v = 32767 ∨ v = -32767 ∨ v = -32768
      let saturated := limit d.rateX ∨ limit d.rateY ∨ limit d.rateZ ∨ limit d.forceX ∨ limit d.forceY ∨ limit d.forceZ
      ∃ t r, exec (.sampleReadEnd x (.succeeded d)) s = .next t ∧ t.msu.ticks = [] ∧
        r.sensor = x ∧ r.seq = n ∧ r.time = t0 + s.tlc.offset ∧
        r.rate = ⟨2 * d.rateX, 2 * d.rateY, 2 * d.rateZ⟩ ∧ r.force = ⟨d.forceX, d.forceY, d.forceZ⟩ ∧
        r.temp = d.temp.getD (-4096) ∧ r.gap = (s.msu.imu x).gapPending ∧ r.timeStep = s.tlc.stepMotion ∧
        (r.saturated = true ↔ saturated) ∧ (r.syncMark = true ↔ y = true ∨ (s.msu.imu x).syncPending = true) ∧
        (saturated → t.ntu.pending.has .saturation = true ∧
          t.count .saturatedSamples = oneMore (s.count .saturatedSamples)) ∧
        t.tlc.stepMotion = false ∧ (r.freeTime = true ↔ s.tlc.basis = .free) ∧ (t.msu.imu x).fails = 0 ∧
        (t.msu.imu x).syncPending = false ∧
        (s.msu.queue.length < 64 → t.msu.queue = s.msu.queue ++ [r] ∧ (t.msu.imu x).gapPending = false) ∧
        (∀ old rest, 64 ≤ s.msu.queue.length → s.msu.queue = old :: rest →
          t.count .motionQueueDrops = oneMore (s.count .motionQueueDrops) ∧ t.ntu.pending.has .queueDrop = true ∧
          (∀ c b, s.tlc.link = .active c → s.tlc.tx = some .motion → s.tlc.beat = some b →
            t.tlc.tx = some (.beat b)) ∧
          ∀ h tl, rest ++ [r] = h :: tl →
            let q := { h with timeStep := h.timeStep || old.timeStep } :: tl
            (∀ before m after, q = before ++ m :: after → m.sensor = old.sensor →
              (∀ k ∈ before, k.sensor ≠ old.sensor) → t.msu.queue = before ++ { m with gap := true } :: after) ∧
            ((∀ m ∈ q, m.sensor ≠ old.sensor) →
              t.msu.queue = q ∧ (t.msu.imu old.sensor).gapPending = true)) ∧
        (x ≠ s.oin.primary → t.oin = s.oin) ∧
        (x = s.oin.primary →
          let c : Axes := ⟨clampInt (-65535) 65535 (2 * d.rateX - (s.oin.bias x).bias.x),
            clampInt (-65535) 65535 (2 * d.rateY - (s.oin.bias x).bias.y),
            clampInt (-65535) 65535 (2 * d.rateZ - (s.oin.bias x).bias.z)⟩
          let dt : Int := match s.oin.lastTime with
            | none => 0
            | some u => clampInt 0 20000 ((t0 : Int) - u)
          let moved (entry : AxisEntry) (angle residue angle' rate' residue' : Int) : Prop :=
            let w := entry.pick c
            let m := w * dt + residue
            angle' = wrapAngle (angle + m / 15625) ∧ rate' = w ∧
              (dataSaturated d = false ∨ s.oin.satRun < 9 → residue' = m - 15625 * (m / 15625))
          moved s.oin.axisMap.yaw s.oin.angles.yaw s.oin.residues.yaw t.oin.angles.yaw t.oin.rates.yaw
              t.oin.residues.yaw ∧
            moved s.oin.axisMap.pitch s.oin.angles.pitch s.oin.residues.pitch t.oin.angles.pitch t.oin.rates.pitch
              t.oin.residues.pitch ∧
            moved s.oin.axisMap.roll s.oin.angles.roll s.oin.residues.roll t.oin.angles.roll t.oin.rates.roll
              t.oin.residues.roll ∧
            (∃ e, t.oin.ring.getLast? = some e ∧ e.time = t0 ∧ e.angles = t.oin.angles ∧ e.rates = t.oin.rates) ∧
            (s.oin.ring.length < 128 → ∃ e, t.oin.ring = s.oin.ring ++ [e]) ∧ t.oin.ring.length ≤ 128)) ∧
    (s.msu.ticks = [⟨t0, [⟨x, n, false, .inProgress⟩]⟩] →
      ((s.msu.imu x).fails < 2 →
        ∃ t, exec (.sampleReadEnd x .failed) s = .next t ∧ t.msu.queue = s.msu.queue ∧ t.oin = s.oin ∧
          (t.msu.imu x).fails = (s.msu.imu x).fails + 1 ∧ (t.msu.imu x).gapPending = true ∧
          t.count (readFailures x) = oneMore (s.count (readFailures x))) ∧
      (2 ≤ (s.msu.imu x).fails →
        ∃ t, exec (.sampleReadEnd x .failed) s = .next t ∧ (t.msu.imu x).state = .fault (s.lt + 100000) ∧
          (t.msu.imu x).fails = 0 ∧ (t.msu.imu x).gapPending = true ∧
          t.ntu.pending.has (imuFault x) = true)) ∧
    (∀ (d : ImuData) (k : Seq) (t1 : Nat), s.msu.ticks =
        [⟨t0, [⟨x, n, false, .succeeded d⟩, ⟨other x, k, false, .inProgress⟩]⟩, ⟨t1, [⟨x, n + 1, false, .failed⟩]⟩] →
      s.msu.queue.length < 64 → (s.msu.imu (other x)).fails < 2 →
      ∃ t r, exec (.sampleReadEnd (other x) .failed) s = .next t ∧ t.msu.queue = s.msu.queue ++ [r] ∧
        t.msu.ticks = [] ∧ r.sensor = x ∧ r.seq = n ∧ (t.msu.imu x).gapPending = true)

/-- R42 to R47, R15, R63, R118: the wear sensor is read every 20,000 µs; the tenth reading in a row at or above the worn
threshold makes the state WORN, the tenth below the removed threshold REMOVED, the fiftieth failure UNKNOWN, the away timer
AWAY. A reading is classed by the thresholds in force when its read was started (R47). A change into WORN wakes a sleeping link
when WAKE_BEACON was agreed; that the beacon sent is counted is the model's own (log entry 5, DESIGN CHOICE). POSE_STALE follows
the ring. A read may start at the very multiple at which the SENSOR rail returned to ON (log entry 76, DESIGN CHOICE). A timed row
acts at or after its moment (log entry 4). -/
def Obligations.WearAndStalenessFollowTheirRules : Prop :=
  ∀ (s : State),
    (s.pmg.rails.sensor = .on → s.lt % 20000 = 0 → s.msu.lastWearTick ≠ some s.lt → s.msu.wearBusy = false →
      exec .wearReadTick s = .next { s with msu := { s.msu with
        wearBusy := true, lastWearTick := some s.lt, readWorn := s.msu.wornThreshold
        readRemoved := s.msu.removedThreshold } }) ∧
    (∀ r, s.msu.wearBusy = true → s.msu.readWorn ≤ r →
      (s.msu.wornCount = 9 → s.msu.wear ≠ .worn →
        ∃ t, exec (.wearReadDone (.succeeded r)) s = .next t ∧ t.msu.wear = .worn ∧ t.msu.wornCount = 0 ∧
          t.ntu.pending.has .wearChange = true ∧ t.count .wearChanges = oneMore (s.count .wearChanges) ∧
          (s.tlc.link ≠ .sleep → t.tlc.link = s.tlc.link) ∧
          (∀ f, s.tlc.link = .sleep → s.tlc.features = some f →
            (f.wakeBeacon = true → t.tlc.link = .training 1 s.lt none ∧ t.tlc.beacons = s.tlc.beacons + 1) ∧
            (f.wakeBeacon = false → t.tlc.link = .sleep))) ∧
      (s.msu.wornCount < 9 → s.msu.wear ≠ .worn →
        exec (.wearReadDone (.succeeded r)) s = .next { s with msu := { s.msu with
          wornCount := s.msu.wornCount + 1, removedCount := 0, wearBusy := false, wearFails := 0
          wearReading := some r } })) ∧
    (∀ r, s.msu.wearBusy = true → r < s.msu.readRemoved → r < s.msu.readWorn → s.msu.removedCount = 9 →
      s.msu.wear = .unknown ∨ s.msu.wear = .worn →
      ∃ t, exec (.wearReadDone (.succeeded r)) s = .next t ∧ t.msu.wear = .removed s.lt ∧ t.msu.removedCount = 0 ∧
        t.ntu.pending.has .wearChange = true ∧ t.tlc.link = s.tlc.link) ∧
    (s.msu.wearBusy = true → s.msu.wearFails = 49 → s.msu.wear ≠ .unknown →
      ∃ t, exec (.wearReadDone .failed) s = .next t ∧ t.msu.wear = .unknown ∧ t.ntu.pending.has .wearChange = true ∧
        t.count .wearReadFailures = oneMore (s.count .wearReadFailures)) ∧
    (∀ since, s.msu.wear = .removed since → since + s.msu.awayTime * 1000000 ≤ s.lt →
      ∃ t, exec .awayTimerExpiry s = .next t ∧ t.msu = { s.msu with wear := .away, wornCount := 0, removedCount := 0 } ∧
        t.ntu.pending.has .wearChange = true ∧ t.count .wearChanges = oneMore (s.count .wearChanges) ∧
        (s.fst.profile.awayBlank = true → t.ilg.output = .dark)) ∧
    (∀ e, s.oin.ring.getLast? = some e →
      (e.time + 50000 < s.lt → Completes .poseStale s s (s.ntu.pending.put .poseStale)) ∧
      (s.lt ≤ e.time + 50000 → Completes .poseStale s s (s.ntu.pending.drop .poseStale))) ∧
    (s.oin.ring = [] → Completes .poseStale s s (s.ntu.pending.put .poseStale))

/-! ### Pictures -/

/-- R75, R76, R79, R213: a FRAME_BEGIN that is short, out of range, out of order or without a FREE slot is refused, counted by
its first cause, and raises FRAME_REFUSED; an accepted one abandons a FILLING slot and fills an empty one, and leaves READY
and SHOWING slots as they are. -/
def Obligations.FrameBeginIsJudgedInOrder : Prop :=
  ∀ (s : State) (c : Channel) (q : List Byte), s.tlc.link = .active c →
    let n : FrameNo := BitVec.ofNat 32 (natAt q 0 4)
    let posed := (byteAt q 4).getLsbD 0
    let a : Angles := ⟨intAt q 16 4, intAt q 20 4, intAt q 24 4⟩
    let malformed := q.length < 28 ∨ posed = true ∧ ¬ a.inTurn
    let late := (∃ m, s.fst.newest = some m ∧ frameGreater n m = false) ∨
      ∃ u ∈ s.fst.slots.toList, (u.state = .ready ∨ u.state = .showing) ∧ frameGreater n u.frame = false
    let full := s.fst.slots.count .free = 0
    let refused := s.ntu.pending.put .frameRefused
    (malformed → Completes (.frameBegin q) s (s.bump .framesRefusedMalformed) refused) ∧
    (¬ malformed → late → Completes (.frameBegin q) s (s.bump .framesRefusedOrder) refused) ∧
    (¬ malformed → ¬ late → full → Completes (.frameBegin q) s (s.bump .framesRefusedFull) refused) ∧
    (¬ malformed → ¬ late → ¬ full →
      ∃ t, exec (.frameBegin q) s = .next t ∧ t.fst.newest = some n ∧ t.fst.profile = s.fst.profile ∧
        t.fst.slots.count .filling = 1 ∧
        (⟨.filling, n, if posed = true then some a else none, natAt q 8 8, [], [], 0, !posed, false⟩ : Slot) ∈
          t.fst.slots.toList ∧
        (∀ u ∈ s.fst.slots.toList, u.state = .ready ∨ u.state = .showing → u ∈ t.fst.slots.toList) ∧
        t.count .framesAccepted = oneMore (s.count .framesAccepted) ∧
        t.count .framesDamaged = (if s.fst.slots.count .filling = 0 then s.count .framesDamaged
          else oneMore (s.count .framesDamaged)) ∧
        t.sou = s.sou ∧ t.oin = s.oin ∧ t.msu = s.msu ∧ t.aud = s.aud ∧ t.pmg = s.pmg ∧ t.ilg = s.ilg)

/-- R77, R78, R79, R213: a LINES block writes its rows into the FILLING frame of its number and leaves every other row as it
was; a malformed or a stray one is counted and writes nothing. FRAME_END makes a complete frame READY and abandons one that
lacks a row. -/
def Obligations.LinesAndFrameEndFillTheSlot : Prop :=
  ∀ (s : State) (c : Channel) (q : List Byte), s.tlc.link = .active c → s.fst.slots.ordered →
    let n : FrameNo := BitVec.ofNat 32 (natAt q 0 4)
    let eye := natAt q 4 1; let first := natAt q 6 2; let rows := natAt q 8 2
    let width := s.fst.profile.columns * 3
    (10 ≤ q.length → ∀ u ∈ s.fst.slots.toList, u.state = .filling → u.frame = n →
      (eye ≤ 1 ∧ 0 < rows ∧ first + rows ≤ s.fst.profile.rows ∧ q.length = 10 + rows * width →
        ∃ t v, exec (.lines q) s = .next t ∧ t = { s with fst := { s.fst with slots := t.fst.slots } } ∧
          v ∈ t.fst.slots.toList ∧ v = { u with left := v.left, right := v.right } ∧
          (∀ w ∈ s.fst.slots.toList, w.state ≠ .filling → w ∈ t.fst.slots.toList) ∧
          ∀ r, rowOf (if eye = 0 then v.left else v.right) r =
              (if first ≤ r ∧ r < first + rows then some (slice q (10 + (r - first) * width) width)
               else rowOf (if eye = 0 then u.left else u.right) r) ∧
            rowOf (if eye = 0 then v.right else v.left) r = rowOf (if eye = 0 then u.right else u.left) r) ∧
      (¬ (eye ≤ 1 ∧ 0 < rows ∧ first + rows ≤ s.fst.profile.rows ∧ q.length = 10 + rows * width) →
        exec (.lines q) s = .next (s.bump .linesMalformed))) ∧
    (q.length < 10 ∨ (∀ u ∈ s.fst.slots.toList, u.state = .filling → u.frame ≠ n) →
      exec (.lines q) s = .next (s.bump .pictureStrayBlocks)) ∧
    (4 ≤ q.length → ∀ u ∈ s.fst.slots.toList, u.state = .filling → u.frame = n →
      ((∀ r < s.fst.profile.rows, rowOf u.left r ≠ none ∧ rowOf u.right r ≠ none) →
        ∃ t, exec (.frameEnd q) s = .next t ∧ t.fst.slots.count .filling = 0 ∧
          { u with state := .ready } ∈ t.fst.slots.toList ∧
          t.count .framesCompleted = oneMore (s.count .framesCompleted)) ∧
      (¬ (∀ r < s.fst.profile.rows, rowOf u.left r ≠ none ∧ rowOf u.right r ≠ none) →
        ∃ t, exec (.frameEnd q) s = .next t ∧ t.fst.slots.count .filling = 0 ∧
          t.fst.slots.count .ready = s.fst.slots.count .ready ∧
          t.count .framesDamaged = oneMore (s.count .framesDamaged) ∧
          t.ntu.pending.has .frameDamaged = true)) ∧
    (q.length < 4 ∨ (∀ u ∈ s.fst.slots.toList, u.state = .filling → u.frame ≠ n) →
      exec (.frameEnd q) s = .next (s.bump .pictureStrayBlocks))

/-- R83 to R88, R120: a blank start of the schedule shows the READY frame accepted last, frees and counts the others, and its
rows are sent to each panel in order of row from the end of the blank length on; with none READY it repeats the SHOWING frame;
with neither it scans nothing and the output is dark. That the whole list of rows stands at every later local time, with no time
for each row, is the model's choice (log entry 48). A timed row acts at or after its moment (log entry 4). -/
def Obligations.BlankStartSelectsAFrame : Prop :=
  ∀ (s : State) (c : Schedule), s.sou.schedule = some c → c.next ≤ s.lt → s.sou.scanOut ≠ .off →
    let others := s.fst.slots.count .ready - 1
    ∃ t, exec .blankStart s = .next t ∧ t.sou.schedule = some ⟨c.next + c.period, c.period⟩ ∧
      t.sou.lastBlank = some (s.lt + s.tlc.offset) ∧ t.count .blankStarts = oneMore (s.count .blankStarts) ∧
      t.fst.slots.count .filling = s.fst.slots.count .filling ∧ t.fst.newest = s.fst.newest ∧
      t.fst.profile = s.fst.profile ∧ t.oin = s.oin ∧ t.msu = s.msu ∧ t.aud = s.aud ∧ t.pmg = s.pmg ∧
      (∀ u ∈ s.fst.slots.toList, u.state = .ready →
        (∀ v ∈ s.fst.slots.toList, v.state = .ready → v = u ∨ frameGreater u.frame v.frame = true) →
        t.sou.scanOut = .scanning ∧ t.fst.slots.count .showing = 1 ∧ t.fst.slots.count .ready = 0 ∧
          (∃ v ∈ t.fst.slots.toList, v = { u with state := .showing, repeats := 0, clamped := v.clamped }) ∧
          t.sou.scan = some ⟨s.lt, s.fst.profile.blank, s.fst.profile.columns, s.fst.profile.rows,
            s.fst.profile.border⟩ ∧
          (0 < s.fst.profile.blank → t.sentRows .left = [] ∧ t.sentRows .right = []) ∧
          (∀ lt x, s.lt + s.fst.profile.blank ≤ lt → ∃ rows, ({ t with lt := lt } : State).sentRows x = rows ∧
            rows.length = s.fst.profile.rows ∧ ∀ (y : Nat) (row : List (Option Colour)), rows[y]? = some row →
              row = (List.range s.fst.profile.columns).map fun k => ({ t with lt := lt } : State).outputPixel x k y) ∧
          t.count .framesShown = oneMore (s.count .framesShown) ∧
          (0 < others → t.count .framesDropped = min 4294967295 (s.count .framesDropped + others) ∧
            t.ntu.pending.has .frameDropped = true) ∧
          (others = 0 → t.count .framesDropped = s.count .framesDropped) ∧
          (s.pmg.level ≠ .l3 → s.pmg.rails.illum = .on → (s.msu.wear = .away → s.fst.profile.awayBlank = false) →
            t.ilg.output = .emitting ∧ t.ilg.periodStart = some s.lt)) ∧
      (s.fst.slots.count .ready = 0 → 0 < s.fst.slots.count .showing →
        t.sou.scanOut = .scanning ∧ t.count .frameRepeats = oneMore (s.count .frameRepeats) ∧
          t.ntu.pending.has .repeat = true ∧
          ∀ u ∈ s.fst.slots.toList, u.state = .showing →
            ∃ v ∈ t.fst.slots.toList, v = { u with repeats := min 65535 (u.repeats + 1), clamped := v.clamped }) ∧
      (s.fst.slots.count .ready = 0 → s.fst.slots.count .showing = 0 →
        t.sou.scanOut = .idle ∧ t.sou.scan = none ∧ t.sou.left.applied = ⟨0, 0⟩ ∧ t.sou.right.applied = ⟨0, 0⟩ ∧
          t.fst.slots = s.fst.slots ∧ t.ilg.output = .dark)

/-- R89, R95 to R104: the late shift of each eye at a blank start, from the frame that it shows: basis UNPOSED, OVERRIDE, STALE
or HISTORY in that order of test, the display instant, the lead held to 25,000 µs, the prediction, the wrapped error, the shifts
rounded and clamped to the limit of the profile. Each pixel sent in the scan is the source pixel moved by the applied shifts, or
the border colour. That every row's pixel stands at every local time after the blank length, with no time for each row, is the
model's choice (log entry 48, DESIGN CHOICE). A timed row acts at or after its moment (log entry 4). -/
def Obligations.LateShiftIsFormed : Prop :=
  ∀ (s : State) (c : Schedule), s.sou.schedule = some c → c.next ≤ s.lt → s.sou.scanOut ≠ .off →
    ∃ t, exec .blankStart s = .next t ∧ ∀ (x : Side) (u : Slot), t.fst.slots.find .showing = some u →
      let r := t.sou.shift x
      let pulse := t.ilg.active.side x
      let td := s.lt + pulse.offset + pulse.width / 2
      let render := u.pose.getD ⟨0, 0, 0⟩
      let stale := ∀ e, s.oin.ring.getLast? = some e → e.time + 50000 < s.lt
      let shifted (y p : Int) : Prop :=
        r.predicted = some ⟨y, p⟩ ∧
          r.error = some ⟨wrapAngle (y - render.yaw), wrapAngle (p - render.pitch)⟩ ∧
          r.unclamped = ⟨roundDiv (wrapAngle (y - render.yaw) * s.fst.profile.ppdH) 65536,
            roundDiv (wrapAngle (p - render.pitch) * s.fst.profile.ppdV) 65536⟩ ∧
          r.applied = ⟨clampInt (-s.fst.profile.limit) s.fst.profile.limit r.unclamped.h,
            clampInt (-s.fst.profile.limit) s.fst.profile.limit r.unclamped.v⟩ ∧
          (r.clamped = true ↔ r.applied ≠ r.unclamped)
      r.blankStart = some s.lt ∧ r.display = some td ∧
      (u.unposed = true → r.basis = .unposed ∧ r.applied = ⟨0, 0⟩) ∧
      (u.unposed = false → ∀ a, s.oin.pose = some a →
        r.basis = .override ∧ r.lead = none ∧ shifted a.yaw a.pitch) ∧
      (u.unposed = false → s.oin.pose = none → stale → r.basis = .stale ∧ r.applied = ⟨0, 0⟩) ∧
      (u.unposed = false → s.oin.pose = none → ∀ e, s.oin.ring.getLast? = some e → s.lt ≤ e.time + 50000 →
        let lead := clampInt 0 25000 ((td : Int) - e.time)
        r.basis = .history ∧ r.lead = some lead ∧ (r.leadClamped = true ↔ (25000 : Int) < (td : Int) - e.time) ∧
          shifted (wrapAngle (e.angles.yaw + roundDiv (e.rates.yaw * lead) 15625))
            (wrapAngle (e.angles.pitch + roundDiv (e.rates.pitch * lead) 15625))) ∧
      (∀ lt k y : Nat, s.lt + s.fst.profile.blank ≤ lt → k < s.fst.profile.columns → y < s.fst.profile.rows →
        let sx : Int := k + r.applied.h
        let sy : Int := y - r.applied.v
        let inside := 0 ≤ sx ∧ sx < s.fst.profile.columns ∧ 0 ≤ sy ∧ sy < s.fst.profile.rows
        (inside → ({ t with lt := lt } : State).outputPixel x k y = (rowOf (u.eye x) sy.toNat).map fun b =>
          ⟨byteAt b (3 * sx.toNat), byteAt b (3 * sx.toNat + 1), byteAt b (3 * sx.toNat + 2)⟩) ∧
        (¬ inside → ({ t with lt := lt } : State).outputPixel x k y = some s.fst.profile.border))

/-- R72, R79, R83, R104, R118: SET_PROFILE replaces the profile whole, frees every slot with its counts, restarts the schedule
unless scan-out is OFF, and the output is dark; a field out of range changes nothing. -/
def Obligations.ProfileIsReplacedWhole : Prop :=
  ∀ (s : State) (p : Port) (tag : Byte) (q : List Byte), s.directed .setProfile p tag q →
    (∀ f : Profile, f.ok = true → q = f.bytes →
      ∃ t, exec (.setProfile p tag q) s = .next t ∧ t.lastReply p .setProfile tag .ok [] ∧ t.fst.profile = f ∧
        t.fst.slots.count .free = 4 ∧ t.fst.newest = s.fst.newest ∧ t.ilg.output = .dark ∧
        (0 < s.fst.slots.count .ready → t.ntu.pending.has .frameDropped = true ∧
          t.count .framesDropped = min 4294967295 (s.count .framesDropped + s.fst.slots.count .ready)) ∧
        (0 < s.fst.slots.count .filling → t.ntu.pending.has .frameDamaged = true ∧
          t.count .framesDamaged = oneMore (s.count .framesDamaged)) ∧
        (s.sou.scanOut = .off → t.sou = s.sou) ∧
        (s.sou.scanOut ≠ .off → t.sou.scanOut = .idle ∧ t.sou.schedule = some ⟨s.lt + f.period, f.period⟩ ∧
          t.sou.left.applied = ⟨0, 0⟩ ∧ t.sou.right.applied = ⟨0, 0⟩ ∧ t.sou.lastBlank = s.sou.lastBlank) ∧
        t.oin = s.oin ∧ t.msu = s.msu ∧ t.aud = s.aud ∧ t.pmg = s.pmg ∧ t.ilg.active = s.ilg.active) ∧
    ((∀ f : Profile, f.ok = true → q ≠ f.bytes) →
      Answers (.setProfile p tag q) s s .setProfile p tag .badArgument [])

/-! ### Illumination -/

/-- R112, R82, R84, R113: STAGE_PULSES, the controller's alone, replaces the staged set whole and the interleave request, or
changes nothing; what is staged is kept and copied at a blank start of the schedule, and no blank start occurs while scan-out is
OFF: the row leaves the state there (log entry 8). A blank start is taken at or after its moment (log entry 4). -/
def Obligations.StagedSetIsReplacedWhole : Prop :=
  (∀ (s : State) (p : Port) (tag : Byte) (q : List Byte), s.turn ReqKind.stagePulses.code p tag q = true →
    let lo := natAt q 0 2; let lw := natAt q 2 2; let ro := natAt q 4 2; let rw := natAt q 6 2
    let inter := natAt q 8 1
    let good := q.length = 9 ∧ lo ≤ 16167 ∧ lw ≤ 16167 ∧ ro ≤ 16167 ∧ rw ≤ 16167 ∧ inter ≤ 1
    (s.cmu.role = some p → good → Answers (.stagePulses p tag q) s
      { s with ilg := { s.ilg with staged := ⟨⟨lo, lw⟩, ⟨ro, rw⟩⟩, interleaveRequest := inter == 1 } }
      .stagePulses p tag .ok []) ∧
    (s.cmu.role = some p → ¬ good → Answers (.stagePulses p tag q) s s .stagePulses p tag .badArgument []) ∧
    (s.cmu.role ≠ some p → Answers (.stagePulses p tag q) s s .stagePulses p tag .notController [])) ∧
  (∀ (s : State) (c : Schedule), s.sou.schedule = some c → c.next ≤ s.lt → s.sou.scanOut ≠ .off →
    ∃ t, exec .blankStart s = .next t ∧ t.ilg.staged = s.ilg.staged ∧
      t.ilg.interleaveRequest = s.ilg.interleaveRequest ∧
      t.ilg.active = copyPulses s.ilg.staged s.ilg.interleaveRequest s.pmg.level s.fst.profile.period) ∧
  ∀ s : State, s.sou.scanOut = .off → exec .blankStart s = .next s

/-- R111, R113 to R117: the copy at a blank start caps and fits the staged pulses, each active pulse ends at least 500 µs
before the frame period ends, and under interleave a right pulse that lights follows the left one by 100 µs; a lit interval
begins at its offset while EMITTING, and runs to its end, where it is counted. A timed row acts at or after its moment (log
entry 4). -/
def Obligations.PulsesAreCopiedAndLit : Prop :=
  ∀ (s : State),
    (∀ c, s.sou.schedule = some c → c.next ≤ s.lt → s.sou.scanOut ≠ .off → 500 ≤ s.fst.profile.period →
      let g := s.fst.profile.period - 500
      let cap := match s.pmg.level with
        | .l0 => 100
        | .l1 => 75
        | .l2 => 50
        | .l3 => 0
      let inter := s.ilg.interleaveRequest = true ∨ s.pmg.level ≠ .l0
      ∃ t, exec .blankStart s = .next t ∧ t.ilg.staged = s.ilg.staged ∧ t.ilg.levelAtCopy = some s.pmg.level ∧
        (t.ilg.interleaved = true ↔ inter) ∧
        (∀ x, (t.ilg.active.side x).width ≤ (s.ilg.staged.side x).width * cap / 100 ∧
          (t.ilg.active.side x).offset + (t.ilg.active.side x).width ≤ g) ∧
        (s.ilg.staged.left.offset + s.ilg.staged.left.width * cap / 100 ≤ g →
          t.ilg.active.left = ⟨s.ilg.staged.left.offset, s.ilg.staged.left.width * cap / 100⟩) ∧
        (s.ilg.staged.left.offset ≤ g → g < s.ilg.staged.left.offset + s.ilg.staged.left.width * cap / 100 →
          t.ilg.active.left = ⟨s.ilg.staged.left.offset, g - s.ilg.staged.left.offset⟩) ∧
        (¬ inter → s.ilg.staged.right.offset + s.ilg.staged.right.width * cap / 100 ≤ g →
          t.ilg.active.right = ⟨s.ilg.staged.right.offset, s.ilg.staged.right.width * cap / 100⟩) ∧
        (inter → 0 < t.ilg.active.right.width →
          t.ilg.active.right.offset = t.ilg.active.left.offset + t.ilg.active.left.width + 100)) ∧
    (∀ x b, s.ilg.periodStart = some b → s.ilg.output = .emitting → s.ilg.phase x = .toCome →
      b + (s.ilg.active.side x).offset ≤ s.lt →
      exec (.illumPulseStart x) s = .next { s with ilg := s.ilg.setPhase x .lit }) ∧
    (∀ x b, s.ilg.periodStart = some b → s.ilg.phase x = .lit →
      b + (s.ilg.active.side x).offset + (s.ilg.active.side x).width ≤ s.lt →
      exec (.illumPulseEnd x) s = .next ((s.bump (if x = .left then .illumPulsesLeft else .illumPulsesRight)).modIlg
        fun g => g.setPhase x .over)) ∧
    (∀ x, s.ilg.output = .dark → exec (.illumPulseStart x) s = .next s)

/-! ### Sound -/

/-- R126, R127, R129, R213: a SOUND block in sequence is accepted and its frames appended up to 512; blocks missed are counted;
a late one, a short one, and one taken in STOPPED with the AUDIO rail not ON are counted and not played. -/
def Obligations.SoundBlocksAreTaken : Prop :=
  ∀ (s : State) (c : Channel) (q : List Byte), s.tlc.link = .active c →
    let seq : Seq := BitVec.ofNat 16 (natAt q 0 2)
    let stopped := s.aud.playback = .stopped ∧ s.pmg.rails.audio ≠ .on
    let kept := (soundFrames q 2 48).take (512 - s.aud.buffer.length)
    (q.length < 290 ∨ stopped → exec (.sound q) s = .next (s.bump .soundBlocksDiscarded)) ∧
    (290 ≤ q.length → ¬ stopped →
      (∀ e, s.aud.expected = some e → 32768 ≤ (seq - e).toNat →
        exec (.sound q) s = .next (s.bump .soundBlocksLate)) ∧
      (∀ missed, (s.aud.expected = none ∧ missed = 0 ∨
          ∃ e, s.aud.expected = some e ∧ missed = (seq - e).toNat ∧ missed < 32768) →
        ∃ t, exec (.sound q) s = .next t ∧
          t.aud = { s.aud with
            expected := some (seq + 1), buffer := s.aud.buffer ++ kept
            playback := if s.aud.playback = .stopped then .priming else s.aud.playback } ∧
          t.count .soundBlocksAccepted = oneMore (s.count .soundBlocksAccepted) ∧
          t.count .soundBlocksMissed = min 4294967295 (s.count .soundBlocksMissed + missed) ∧
          (kept.length < 48 → t.ntu.pending.has .overrun = true ∧
            t.count .playbackFramesDiscarded =
              min 4294967295 (s.count .playbackFramesDiscarded + (48 - kept.length))) ∧
          (kept.length = 48 → t.ntu.pending = s.ntu.pending) ∧
          t.fst = s.fst ∧ t.oin = s.oin ∧ t.msu = s.msu ∧ t.pmg = s.pmg))

/-- R128 to R130, R132 to R134, R138 to R141: an output instant with the AUDIO rail ON is taken: it delivers what the playback
state asks (silence, the head frame under its fade-in, the fade-out of an UNDERRUN and its return to PLAYING at the target fill,
the frames of a drift adjustment), samples the fill for the drift window and its decision, moves the drift run, and takes a
capture frame; the 48th completes a block, which the voice gate queues or gates, and a full capture queue loses its oldest
block. The clauses stand in PlaybackDone and CaptureDone. The second instant of an insertion delivers its frame whatever the
buffer holds (log entry 42, DEDUCED), an insertion is made at its first instant (log entry 56, DEDUCED), and a change of the
gate sets both runs to zero (log entry 23, DEDUCED). A first block may begin at the microsecond at which capture began to run (log
entry 72, DESIGN CHOICE). A timed row acts at or after its moment (log entry 4). -/
def Obligations.OutputInstantPlaysAndCaptures : Prop :=
  ∀ (s : State) (m1 m2 : Int), s.pmg.rails.audio = .on → s.aud.lastInstant ≠ some s.lt →
    (∃ j < 48, s.lt % 1000 = j * 125 / 6) →
    ∃ t, exec (.outputInstant m1 m2) s = .next t ∧ t.aud.lastInstant = some s.lt ∧ t.fst = s.fst ∧ t.oin = s.oin ∧
      t.pmg = s.pmg ∧ t.ilg = s.ilg ∧ t.msu = s.msu ∧ t.prr = s.prr ∧ t.cmu.queue = s.cmu.queue ∧
      t.aud.requested = s.aud.requested ∧ t.aud.applied = s.aud.applied ∧ t.aud.target = s.aud.target ∧
      PlaybackDone s t ∧ (s.aud.captureEnabled = true → CaptureDone s t m1 m2) ∧
      (s.aud.captureEnabled = false → t.aud.forming = s.aud.forming ∧ t.aud.queue = s.aud.queue ∧
        t.aud.captureSeq = s.aud.captureSeq)

/-- R131, R135 to R139, R142: a ramp step at a multiple of 1,000 µs moves the applied attenuation by one toward the greatest
of the requested attenuation, the shed cap and the two mutes; SET_VOLUME and SET_CAPTURE take their settings. Each attenuation in
the reply is coded by attenuationBytes, in 4 bytes, with a free value for MUTE (log entries 13 and 9, DESIGN CHOICE). Blocks gated
set the gate mark also when none has been queued since the reset (log entry 55, DEDUCED). A timed row acts at or after its moment
(log entry 4). -/
def Obligations.GainAndCaptureSettings : Prop :=
  ∀ (s : State) (p : Port) (tag : Byte) (q : List Byte),
    let goal (req : Nat) (mute : Bool) : Nat :=
      max (max req (match s.pmg.level with | .l0 | .l1 => 0 | .l2 => 12 | .l3 => 181))
        (if s.msu.wear = .away ∨ mute = true then 181 else 0)
    (s.lt % 1000 = 0 → s.aud.lastRamp ≠ some s.lt →
      let e := goal s.aud.requested s.aud.mute
      exec .attenuationRampStep s = .next { s with aud := { s.aud with
        applied := if s.aud.applied < e then s.aud.applied + 1 else if e < s.aud.applied then s.aud.applied - 1
          else s.aud.applied
        lastRamp := some s.lt } }) ∧
    (s.directed .setVolume p tag q →
      let req := natAt q 0 1; let mute := natAt q 1 1; let target := natAt q 2 2; let flush := natAt q 4 1
      let good := q.length = 5 ∧ req ≤ 180 ∧ mute ≤ 1 ∧ 96 ≤ target ∧ target ≤ 384 ∧ flush ≤ 1
      let values := attenuationBytes (goal req (mute == 1)) ++ attenuationBytes s.aud.applied
      let a : Aud := { s.aud with requested := req, mute := mute == 1, target := target }
      (good → flush = 0 → Answers (.setVolume p tag q) s { s with aud := a } .setVolume p tag .ok values) ∧
      (good → flush = 1 → Answers (.setVolume p tag q) s
        ((s.addCount .playbackFramesFlushed s.aud.buffer.length).modAud fun _ =>
          { a with
            playback := .stopped, buffer := [], expected := none, played := 0, faded := 0, window := [], due := none
            again := none, runLength := 0 }) .setVolume p tag .ok values) ∧
      (¬ good → Answers (.setVolume p tag q) s s .setVolume p tag .badArgument [])) ∧
    (s.directed .setCapture p tag q →
      let capture := natAt q 0 1; let gate := natAt q 1 1; let open_ := natAt q 2 2; let hang := natAt q 4 2
      let good := q.length = 6 ∧ capture ≤ 1 ∧ gate ≤ 1 ∧ 1 ≤ open_ ∧ open_ ≤ 32767 ∧ 10 ≤ hang ∧ hang ≤ 1000
      let stops := s.pmg.rails.audio = .on ∧ s.aud.captureEnabled = true ∧ capture = 0
      (good → ∃ t, exec (.setCapture p tag q) s = .next t ∧ t.lastReply p .setCapture tag .ok [] ∧
        t.aud = { s.aud with
          captureEnabled := capture == 1, openThreshold := open_, hangover := hang, gate := t.aud.gate
          loudRun := t.aud.loudRun, quietRun := t.aud.quietRun, gateMark := t.aud.gateMark
          forming := if stops then none else s.aud.forming, gapPending := s.aud.gapPending || decide stops } ∧
        (gate = 0 → t.aud.gate = .disabled) ∧
        (gate = 1 → t.aud.gate = if s.aud.gate = .open ∧ ¬ stops then .open else .closed) ∧
        (s.aud.gate = .open → gate = 0 ∨ stops → t.ntu.pending.has .voiceEnd = true) ∧
        (s.aud.gate = .closed → gate = 0 → t.aud.gateMark = (s.aud.gateMark || s.aud.gatedSince)) ∧
        t.pmg = s.pmg ∧ t.fst = s.fst ∧ t.oin = s.oin ∧ t.msu = s.msu) ∧
      (¬ good → Answers (.setCapture p tag q) s s .setCapture p tag .badArgument []))

/-! ### Procedures -/

/-- R169 to R172, R174, R176, R177, R179 to R182: a running procedure makes START_PROCEDURE BUSY; a procedure that passes its
start check runs with the work of its kind, one that fails it ends NOT_READY; ABORT_PROCEDURE ends the running one without
output, and is replied WRONG_STATE when the runner is IDLE. That a SENSOR_SYNC gives its sync tick also to a target still held from
an earlier one that FAILED, and that an abort then ends that hold too, is the model's choice (log entry 60, DESIGN CHOICE). -/
def Obligations.ProceduresStartAndAbort : Prop :=
  ∀ (s : State) (p : Port) (tag : Byte) (q : List Byte),
    let n := min 4294967295 (s.prr.runNumber + 1)
    let started (w : Work) (t : State) : Prop :=
      t.prr = ⟨some ⟨n, s.lt, w⟩, n, s.prr.result⟩ ∧ t.lastReply p .startProcedure tag .accepted (leBytes 4 n) ∧
        t.count .proceduresAccepted = oneMore (s.count .proceduresAccepted) ∧ t.pmg = s.pmg ∧ t.oin = s.oin ∧
        t.loaded = s.loaded
    let notReady (k : ProcKind) (vs : List ProcValue) (t : State) : Prop :=
      t.prr = ⟨none, n, some ⟨k, n, .notReady, s.lt, s.lt, vs⟩⟩ ∧ t.ntu.pending.has .procDone = true ∧
        t.lastReply p .startProcedure tag .accepted (leBytes 4 n)
    (s.directed .startProcedure p tag q →
      (s.prr.running ≠ none →
        Answers (.startProcedure p tag q) s (s.bump .proceduresBusy) .startProcedure p tag .busy []) ∧
      (s.prr.running = none →
        (q.length < 2 ∨ 3 < natAt q 0 1 ∨ 3 < natAt q 1 1 →
          Answers (.startProcedure p tag q) s s .startProcedure p tag .badArgument []) ∧
        (∀ tg d thr, (tg.a || tg.b) = true → 500 ≤ d → d ≤ 5000 → 1 ≤ thr → thr ≤ 4096 →
          q = [0, (if tg.a then 1 else 0) + (if tg.b then 2 else 0), 0] ++ leBytes 2 (d : Nat) ++ [1] ++
            leBytes 2 (thr : Nat) →
          ((∀ x ∈ tg.list, (s.msu.imu x).state = .running) →
            ∃ t, exec (.startProcedure p tag q) s = .next t ∧ t.msu = s.msu ∧
              started (.biasCal tg (s.lt + d * 1000) thr ⟨0, ⟨0, 0, 0⟩, ⟨0, 0, 0⟩, ⟨0, 0, 0⟩, 0, 0⟩
                ⟨0, ⟨0, 0, 0⟩, ⟨0, 0, 0⟩, ⟨0, 0, 0⟩, 0, 0⟩) t) ∧
          (∀ x ∈ tg.list, (s.msu.imu x).state ≠ .running → ∃ t vs, exec (.startProcedure p tag q) s = .next t ∧
            notReady .biasCal vs t ∧ .target x ∈ vs)) ∧
        (q = [1, 0] →
          (s.pmg.supply = .normal → ∃ t, exec (.startProcedure p tag q) s = .next t ∧ t.msu = s.msu ∧
            started (.cable 0 0 0 0 0 0 0) t) ∧
          (s.pmg.supply ≠ .normal → ∃ t, exec (.startProcedure p tag q) s = .next t ∧
            notReady .cableMeasure [] t)) ∧
        (∀ tg, (tg.a || tg.b) = true → q = [2, (if tg.a then 1 else 0) + (if tg.b then 2 else 0)] →
          let tick := ((s.lt / 1000 + 1) * 1000 + 2000 + s.period - 1) / s.period * s.period
          (∀ x ∈ tg.list, (s.msu.imu x).state = .running) →
          ∃ t, exec (.startProcedure p tag q) s = .next t ∧ started (.sync tg tick) t ∧
            (∀ x ∈ tg.list, (t.msu.imu x).syncAt = some tick)) ∧
        (∀ tg : Targets, (tg.a || tg.b) = true → q = [2, (if tg.a then 1 else 0) + (if tg.b then 2 else 0)] →
          ∀ x ∈ tg.list, (s.msu.imu x).state ≠ .running → ∃ t vs, exec (.startProcedure p tag q) s = .next t ∧
            notReady .sensorSync vs t ∧ .target x ∈ vs ∧ t.msu = s.msu) ∧
        (q = [3, 0] →
          (s.straps.storePresent = true → ∃ t, exec (.startProcedure p tag q) s = .next t ∧
            started (.store (withCrc s.storeImage) false) t ∧ t.cmu.storeWhole = false) ∧
          (s.straps.storePresent = false → ∃ t, exec (.startProcedure p tag q) s = .next t ∧
            notReady .writeStore [] t ∧ t.cmu.storeWhole = s.cmu.storeWhole)))) ∧
    (s.directed .abortProcedure p tag [] →
      (s.prr.running = none →
        Answers (.abortProcedure p tag []) s s .abortProcedure p tag .wrongState []) ∧
      (∀ run at_ w, s.prr.running = some ⟨run, at_, w⟩ →
        ∃ t, exec (.abortProcedure p tag []) s = .next t ∧ t.lastReply p .abortProcedure tag .ok [] ∧
          t.prr = ⟨none, s.prr.runNumber, some ⟨w.kind, run, .aborted, at_, s.lt, []⟩⟩ ∧
          t.ntu.pending.has .procDone = true ∧ t.oin = s.oin ∧ t.pmg.rCable = s.pmg.rCable ∧ t.loaded = s.loaded ∧
          (w.kind = .cableMeasure → t.pmg.testLoad = false) ∧
          (∀ tg tick, w = .sync tg tick → ∀ x ∈ tg.list, (t.msu.imu x).syncAt = none)))

/-- R38, R57, R175, R180, R182: at the collection end a BIAS_CAL with a target without a sample ends FAILED and names it (of two
such targets both: log entry 39, DEDUCED), one that moved ends MOVED, and otherwise the rounded means become the biases of the
targets alone; DONE and MOVED give each target's three biases and three ranges, A then B; when the write of a WRITE_STORE has
ended the store is whole, and the read-back decides its result. A SENSOR_SYNC ends DONE at the completion of its sync tick with
every target read there: its values are the tick's time and one outcome for each target, A then B, and the records of the
targets are queued B before A with SYNC_MARK. It ends FAILED and names the target that leaves RUNNING before that completion, by
a third failed read or with its rail, where A is taken OFF first (log entry 11, DEDUCED); the other target keeps its hold. A
timed row acts at or after its moment (log entry 4). -/
def Obligations.ProceduresEnd : Prop :=
  ∀ (s : State) (run at_ : Nat),
    let ended (k : ProcKind) (r : ProcResult) (vs : List ProcValue) (t : State) : Prop :=
      t.prr = ⟨none, s.prr.runNumber, some ⟨k, run, r, at_, s.lt, vs⟩⟩ ∧ t.ntu.pending.has .procDone = true ∧
        t.oin.angles = s.oin.angles ∧ t.oin.ring = s.oin.ring ∧ t.pmg = s.pmg ∧ t.msu = s.msu ∧ t.loaded = s.loaded
    (∀ tg endAt thr ca cb, s.prr.running = some ⟨run, at_, .biasCal tg endAt thr ca cb⟩ → endAt ≤ s.lt →
      let col (x : Sensor) : Collection := if x = .a then ca else cb
      let bias (c : Collection) : Axes := ⟨roundDiv c.sums.x c.count, roundDiv c.sums.y c.count, roundDiv c.sums.z c.count⟩
      let still (c : Collection) : Prop := c.maxs.x - c.mins.x ≤ 2 * (thr : Int) ∧ c.maxs.y - c.mins.y ≤ 2 * (thr : Int) ∧
        c.maxs.z - c.mins.z ≤ 2 * (thr : Int)
      let six (c : Collection) : List ProcValue :=
        [.number (bias c).x, .number (bias c).y, .number (bias c).z, .number (c.maxs.x - c.mins.x),
          .number (c.maxs.y - c.mins.y), .number (c.maxs.z - c.mins.z)]
      let values := (if tg.a = true then six ca else []) ++ (if tg.b = true then six cb else [])
      (∀ x ∈ tg.list, (col x).count = 0 → ∃ t vs, exec .biasCalCollectionEnd s = .next t ∧
        ended .biasCal .failed vs t ∧ (∀ y, .target y ∈ vs ↔ y ∈ tg.list ∧ (col y).count = 0) ∧ t.oin = s.oin) ∧
      ((∀ x ∈ tg.list, (col x).count ≠ 0) → (∃ x ∈ tg.list, ¬ still (col x)) →
        ∃ t, exec .biasCalCollectionEnd s = .next t ∧ ended .biasCal .moved values t ∧ t.oin = s.oin) ∧
      ((∀ x ∈ tg.list, (col x).count ≠ 0 ∧ still (col x)) →
        ∃ t, exec .biasCalCollectionEnd s = .next t ∧ ended .biasCal .done values t ∧
          (∀ x, (x ∈ tg.list → t.oin.bias x = ⟨bias (col x),
              if (col x).tempCount = 0 then -4096 else roundDiv (col x).tempSum (col x).tempCount⟩) ∧
            (x ∉ tg.list → t.oin.bias x = s.oin.bias x)))) ∧
    (∀ image, s.prr.running = some ⟨run, at_, .store image false⟩ →
      exec .storeWriteComplete s = .next { s with
        prr := { s.prr with running := some ⟨run, at_, .store image true⟩ }, cmu := { s.cmu with storeWhole := true } }) ∧
    (∀ image back, s.prr.running = some ⟨run, at_, .store image true⟩ →
      (back = image → ∃ t, exec (.storeReadbackComplete back) s = .next t ∧
        ended .writeStore .done [.number image.length] t) ∧
      (∀ before x y after after', image = before ++ x :: after → back = before ++ y :: after' → x ≠ y →
        ∃ t, exec (.storeReadbackComplete back) s = .next t ∧
          ended .writeStore .failed [.number image.length, .number before.length] t)) ∧
    (∀ tg tick, s.prr.running = some ⟨run, at_, .sync tg tick⟩ →
      let finished (r : ProcResult) (vs : List ProcValue) (t : State) : Prop :=
        t.prr = ⟨none, s.prr.runNumber, some ⟨.sensorSync, run, r, at_, s.lt, vs⟩⟩ ∧ t.ntu.pending.has .procDone = true
      (∀ (x : Sensor) (n : Seq), tg.list = [x] → s.msu.ticks = [⟨tick, [⟨x, n, true, .inProgress⟩]⟩] →
        (∀ d, ∃ t, exec (.sampleReadEnd x (.succeeded d)) s = .next t ∧ finished .done [.time tick, .recorded] t ∧
          ∃ r ∈ t.msu.queue, r.sensor = x ∧ r.seq = n ∧ r.syncMark = true) ∧
        ((s.msu.imu x).fails < 2 → ∃ t, exec (.sampleReadEnd x .failed) s = .next t ∧
          finished .done [.time tick, .pendingMark] t ∧ (t.msu.imu x).syncPending = true) ∧
        (2 ≤ (s.msu.imu x).fails → (s.msu.imu x).state = .running →
          ∃ t, exec (.sampleReadEnd x .failed) s = .next t ∧ finished .failed [.target x] t ∧
            (t.msu.imu x).syncPending = false)) ∧
      (∀ (n k : Seq) (ra : ReadStatus) (oa : ProcValue), tg.list = [.a, .b] →
        ra = .failed ∧ oa = .pendingMark ∨ (∃ d, ra = .succeeded d) ∧ oa = .recorded →
        s.msu.ticks = [⟨tick, [⟨.a, n, true, ra⟩, ⟨.b, k, true, .inProgress⟩]⟩] →
        (∀ d, ∃ t, exec (.sampleReadEnd .b (.succeeded d)) s = .next t ∧
          finished .done [.time tick, oa, .recorded] t ∧
          (oa = .recorded → s.msu.queue.length < 63 → ∃ r q, t.msu.queue = s.msu.queue ++ [r, q] ∧ r.sensor = .b ∧
            q.sensor = .a ∧ r.syncMark = true ∧ q.syncMark = true)) ∧
        ((s.msu.imu .b).fails < 2 → ∃ t, exec (.sampleReadEnd .b .failed) s = .next t ∧
          finished .done [.time tick, oa, .pendingMark] t)) ∧
      (∀ (x : Sensor) (n : Seq) (t0 : Nat), x ∈ tg.list → (s.msu.imu x).state = .running → 2 ≤ (s.msu.imu x).fails →
        s.msu.ticks = [⟨t0, [⟨x, n, false, .inProgress⟩]⟩] →
        ∃ t, exec (.sampleReadEnd x .failed) s = .next t ∧ finished .failed [.target x] t ∧
          (t.msu.imu x).syncAt = none ∧ t.msu.imu (other x) = s.msu.imu (other x)) ∧
      (∀ (x : Sensor) (later : List Sensor), tg.list = x :: later → (s.msu.imu x).state = .running →
        s.pmg.rails.sensor = .on → s.msu.ticks = [] →
        ∃ t, exec (.powerGoodWithdrawn .sensor) s = .next t ∧ finished .failed [.target x] t ∧
          (t.msu.imu x).state = .off ∧ (t.msu.imu x).syncAt = none))

/-! ### Conditions and notices -/

/-- R185, R187, R188, R191, R193: CLEAR_CONDITIONS clears latched conditions of one set and leaves live ones; SET_NOTICE_MASK
replaces the mask and the holdoff and changes no condition; the holdoff expiry issues the notice that is due, numbered one
higher, and the end of a quiet hold lets ATTN follow its facts. A timed row acts at or after its moment (log entry 4). -/
def Obligations.ConditionsAndNoticesAreHandled : Prop :=
  ∀ (s : State) (p : Port) (tag : Byte) (q : List Byte),
    (s.directed .clearConditions p tag q →
      let m : BitVec 16 := BitVec.ofNat 16 (natAt q 1 2)
      (∀ c : CondSet, q.length = 3 → natAt q 0 1 = c.ctorIdx → m &&& ~~~(Masks.all.get c) = 0 →
        let left := s.ntu.pending.get c &&& ~~~(if m = 0 then c.latched else m &&& c.latched)
        AnswersWithNotices (.clearConditions p tag q) s s .clearConditions p tag .ok (leBytes 2 left.toNat)
          (s.ntu.pending.set c left)) ∧
      (q.length ≠ 3 ∨ 5 < natAt q 0 1 ∨
          (∃ c : CondSet, natAt q 0 1 = c.ctorIdx ∧ m &&& ~~~(Masks.all.get c) ≠ 0) →
        Answers (.clearConditions p tag q) s s .clearConditions p tag .badArgument [])) ∧
    (s.directed .setNoticeMask p tag q →
      (∀ (m : Masks) (h : Nat), m.trim = m → h ≤ 15 → q = m.bytes ++ [BitVec.ofNat 8 h] →
        AnswersWithNotices (.setNoticeMask p tag q) s { s with ntu := { s.ntu with enabled := m, holdoff := h } }
          .setNoticeMask p tag .ok [] s.ntu.pending) ∧
      ((∀ (m : Masks) (h : Nat), m.trim = m → h ≤ 15 → q ≠ m.bytes ++ [BitVec.ofNat 8 h]) →
        Answers (.setNoticeMask p tag q) s s .setNoticeMask p tag .badArgument [])) ∧
    (∀ e, s.ntu.timer = some e → e ≤ s.lt →
      (s.ntu.due = false → exec .holdoffExpiry s = .next { s with ntu := { s.ntu with timer := none } }) ∧
      (s.ntu.due = true → s.cmu.role = some p →
        ∃ t, exec .holdoffExpiry s = .next t ∧
          t.ntu = { s.ntu with
            due := false, number := s.ntu.number + 1
            timer := if s.ntu.holdoff = 0 then none else some (s.lt + s.ntu.holdoff * 1000) } ∧
          t.count .noticesIssued = oneMore (s.count .noticesIssued) ∧
          (∃ m ∈ t.cmu.out p, m.role = .notice ∧ m.body = s.noticeBody (s.ntu.number + 1)) ∧
          t.cmu.queue = s.cmu.queue ∧ t.cmu.role = s.cmu.role)) ∧
    (∀ e, s.ntu.quiet = some e → e ≤ s.lt → s.attnSound →
      exec .quietHoldEnd s = .next { s with ntu := { s.ntu with
        quiet := none, attn := s.cmu.role == some .service && !s.ntu.summary.isEmpty } })
end

