-- ==== Sys2Proof/Laws/State.lean ====
section
/-! SUPPORT. One lemma for each field of `State` and each named update of it, so that no proof unfolds an update. -/

namespace Sys2Proof.Machine

section
variable (s : State) (f : Tlc → Tlc)
@[simp] theorem State.modTlc_lt : (s.modTlc f).lt = s.lt := rfl
@[simp] theorem State.modTlc_straps : (s.modTlc f).straps = s.straps := rfl
@[simp] theorem State.modTlc_counters : (s.modTlc f).counters = s.counters := rfl
@[simp] theorem State.modTlc_loaded : (s.modTlc f).loaded = s.loaded := rfl
@[simp] theorem State.modTlc_tlc : (s.modTlc f).tlc = f s.tlc := rfl
@[simp] theorem State.modTlc_msu : (s.modTlc f).msu = s.msu := rfl
@[simp] theorem State.modTlc_oin : (s.modTlc f).oin = s.oin := rfl
@[simp] theorem State.modTlc_fst : (s.modTlc f).fst = s.fst := rfl
@[simp] theorem State.modTlc_sou : (s.modTlc f).sou = s.sou := rfl
@[simp] theorem State.modTlc_ilg : (s.modTlc f).ilg = s.ilg := rfl
@[simp] theorem State.modTlc_aud : (s.modTlc f).aud = s.aud := rfl
@[simp] theorem State.modTlc_pmg : (s.modTlc f).pmg = s.pmg := rfl
@[simp] theorem State.modTlc_prr : (s.modTlc f).prr = s.prr := rfl
@[simp] theorem State.modTlc_ntu : (s.modTlc f).ntu = s.ntu := rfl
@[simp] theorem State.modTlc_cmu : (s.modTlc f).cmu = s.cmu := rfl
@[simp] theorem State.modTlc_pending : (s.modTlc f).pending = s.pending := rfl
@[simp] theorem State.modTlc_count (c : Counter) : (s.modTlc f).count c = s.count c := rfl
end

section
variable (s : State) (f : Msu → Msu)
@[simp] theorem State.modMsu_lt : (s.modMsu f).lt = s.lt := rfl
@[simp] theorem State.modMsu_straps : (s.modMsu f).straps = s.straps := rfl
@[simp] theorem State.modMsu_counters : (s.modMsu f).counters = s.counters := rfl
@[simp] theorem State.modMsu_loaded : (s.modMsu f).loaded = s.loaded := rfl
@[simp] theorem State.modMsu_tlc : (s.modMsu f).tlc = s.tlc := rfl
@[simp] theorem State.modMsu_msu : (s.modMsu f).msu = f s.msu := rfl
@[simp] theorem State.modMsu_oin : (s.modMsu f).oin = s.oin := rfl
@[simp] theorem State.modMsu_fst : (s.modMsu f).fst = s.fst := rfl
@[simp] theorem State.modMsu_sou : (s.modMsu f).sou = s.sou := rfl
@[simp] theorem State.modMsu_ilg : (s.modMsu f).ilg = s.ilg := rfl
@[simp] theorem State.modMsu_aud : (s.modMsu f).aud = s.aud := rfl
@[simp] theorem State.modMsu_pmg : (s.modMsu f).pmg = s.pmg := rfl
@[simp] theorem State.modMsu_prr : (s.modMsu f).prr = s.prr := rfl
@[simp] theorem State.modMsu_ntu : (s.modMsu f).ntu = s.ntu := rfl
@[simp] theorem State.modMsu_cmu : (s.modMsu f).cmu = s.cmu := rfl
@[simp] theorem State.modMsu_pending : (s.modMsu f).pending = s.pending := rfl
@[simp] theorem State.modMsu_count (c : Counter) : (s.modMsu f).count c = s.count c := rfl
@[simp] theorem State.modMsu_linkTime : (s.modMsu f).linkTime = s.linkTime := rfl
@[simp] theorem State.modMsu_linkActive : (s.modMsu f).linkActive = s.linkActive := rfl
end

section
variable (s : State) (f : Oin → Oin)
@[simp] theorem State.modOin_lt : (s.modOin f).lt = s.lt := rfl
@[simp] theorem State.modOin_straps : (s.modOin f).straps = s.straps := rfl
@[simp] theorem State.modOin_counters : (s.modOin f).counters = s.counters := rfl
@[simp] theorem State.modOin_loaded : (s.modOin f).loaded = s.loaded := rfl
@[simp] theorem State.modOin_tlc : (s.modOin f).tlc = s.tlc := rfl
@[simp] theorem State.modOin_msu : (s.modOin f).msu = s.msu := rfl
@[simp] theorem State.modOin_oin : (s.modOin f).oin = f s.oin := rfl
@[simp] theorem State.modOin_fst : (s.modOin f).fst = s.fst := rfl
@[simp] theorem State.modOin_sou : (s.modOin f).sou = s.sou := rfl
@[simp] theorem State.modOin_ilg : (s.modOin f).ilg = s.ilg := rfl
@[simp] theorem State.modOin_aud : (s.modOin f).aud = s.aud := rfl
@[simp] theorem State.modOin_pmg : (s.modOin f).pmg = s.pmg := rfl
@[simp] theorem State.modOin_prr : (s.modOin f).prr = s.prr := rfl
@[simp] theorem State.modOin_ntu : (s.modOin f).ntu = s.ntu := rfl
@[simp] theorem State.modOin_cmu : (s.modOin f).cmu = s.cmu := rfl
@[simp] theorem State.modOin_pending : (s.modOin f).pending = s.pending := rfl
@[simp] theorem State.modOin_count (c : Counter) : (s.modOin f).count c = s.count c := rfl
@[simp] theorem State.modOin_linkTime : (s.modOin f).linkTime = s.linkTime := rfl
@[simp] theorem State.modOin_linkActive : (s.modOin f).linkActive = s.linkActive := rfl
end

section
variable (s : State) (f : Fst → Fst)
@[simp] theorem State.modFst_lt : (s.modFst f).lt = s.lt := rfl
@[simp] theorem State.modFst_straps : (s.modFst f).straps = s.straps := rfl
@[simp] theorem State.modFst_counters : (s.modFst f).counters = s.counters := rfl
@[simp] theorem State.modFst_loaded : (s.modFst f).loaded = s.loaded := rfl
@[simp] theorem State.modFst_tlc : (s.modFst f).tlc = s.tlc := rfl
@[simp] theorem State.modFst_msu : (s.modFst f).msu = s.msu := rfl
@[simp] theorem State.modFst_oin : (s.modFst f).oin = s.oin := rfl
@[simp] theorem State.modFst_fst : (s.modFst f).fst = f s.fst := rfl
@[simp] theorem State.modFst_sou : (s.modFst f).sou = s.sou := rfl
@[simp] theorem State.modFst_ilg : (s.modFst f).ilg = s.ilg := rfl
@[simp] theorem State.modFst_aud : (s.modFst f).aud = s.aud := rfl
@[simp] theorem State.modFst_pmg : (s.modFst f).pmg = s.pmg := rfl
@[simp] theorem State.modFst_prr : (s.modFst f).prr = s.prr := rfl
@[simp] theorem State.modFst_ntu : (s.modFst f).ntu = s.ntu := rfl
@[simp] theorem State.modFst_cmu : (s.modFst f).cmu = s.cmu := rfl
@[simp] theorem State.modFst_pending : (s.modFst f).pending = s.pending := rfl
@[simp] theorem State.modFst_count (c : Counter) : (s.modFst f).count c = s.count c := rfl
@[simp] theorem State.modFst_linkTime : (s.modFst f).linkTime = s.linkTime := rfl
@[simp] theorem State.modFst_linkActive : (s.modFst f).linkActive = s.linkActive := rfl
end

section
variable (s : State) (f : Sou → Sou)
@[simp] theorem State.modSou_lt : (s.modSou f).lt = s.lt := rfl
@[simp] theorem State.modSou_straps : (s.modSou f).straps = s.straps := rfl
@[simp] theorem State.modSou_counters : (s.modSou f).counters = s.counters := rfl
@[simp] theorem State.modSou_loaded : (s.modSou f).loaded = s.loaded := rfl
@[simp] theorem State.modSou_tlc : (s.modSou f).tlc = s.tlc := rfl
@[simp] theorem State.modSou_msu : (s.modSou f).msu = s.msu := rfl
@[simp] theorem State.modSou_oin : (s.modSou f).oin = s.oin := rfl
@[simp] theorem State.modSou_fst : (s.modSou f).fst = s.fst := rfl
@[simp] theorem State.modSou_sou : (s.modSou f).sou = f s.sou := rfl
@[simp] theorem State.modSou_ilg : (s.modSou f).ilg = s.ilg := rfl
@[simp] theorem State.modSou_aud : (s.modSou f).aud = s.aud := rfl
@[simp] theorem State.modSou_pmg : (s.modSou f).pmg = s.pmg := rfl
@[simp] theorem State.modSou_prr : (s.modSou f).prr = s.prr := rfl
@[simp] theorem State.modSou_ntu : (s.modSou f).ntu = s.ntu := rfl
@[simp] theorem State.modSou_cmu : (s.modSou f).cmu = s.cmu := rfl
@[simp] theorem State.modSou_pending : (s.modSou f).pending = s.pending := rfl
@[simp] theorem State.modSou_count (c : Counter) : (s.modSou f).count c = s.count c := rfl
@[simp] theorem State.modSou_linkTime : (s.modSou f).linkTime = s.linkTime := rfl
@[simp] theorem State.modSou_linkActive : (s.modSou f).linkActive = s.linkActive := rfl
end

section
variable (s : State) (f : Ilg → Ilg)
@[simp] theorem State.modIlg_lt : (s.modIlg f).lt = s.lt := rfl
@[simp] theorem State.modIlg_straps : (s.modIlg f).straps = s.straps := rfl
@[simp] theorem State.modIlg_counters : (s.modIlg f).counters = s.counters := rfl
@[simp] theorem State.modIlg_loaded : (s.modIlg f).loaded = s.loaded := rfl
@[simp] theorem State.modIlg_tlc : (s.modIlg f).tlc = s.tlc := rfl
@[simp] theorem State.modIlg_msu : (s.modIlg f).msu = s.msu := rfl
@[simp] theorem State.modIlg_oin : (s.modIlg f).oin = s.oin := rfl
@[simp] theorem State.modIlg_fst : (s.modIlg f).fst = s.fst := rfl
@[simp] theorem State.modIlg_sou : (s.modIlg f).sou = s.sou := rfl
@[simp] theorem State.modIlg_ilg : (s.modIlg f).ilg = f s.ilg := rfl
@[simp] theorem State.modIlg_aud : (s.modIlg f).aud = s.aud := rfl
@[simp] theorem State.modIlg_pmg : (s.modIlg f).pmg = s.pmg := rfl
@[simp] theorem State.modIlg_prr : (s.modIlg f).prr = s.prr := rfl
@[simp] theorem State.modIlg_ntu : (s.modIlg f).ntu = s.ntu := rfl
@[simp] theorem State.modIlg_cmu : (s.modIlg f).cmu = s.cmu := rfl
@[simp] theorem State.modIlg_pending : (s.modIlg f).pending = s.pending := rfl
@[simp] theorem State.modIlg_count (c : Counter) : (s.modIlg f).count c = s.count c := rfl
@[simp] theorem State.modIlg_linkTime : (s.modIlg f).linkTime = s.linkTime := rfl
@[simp] theorem State.modIlg_linkActive : (s.modIlg f).linkActive = s.linkActive := rfl
end

section
variable (s : State) (f : Aud → Aud)
@[simp] theorem State.modAud_lt : (s.modAud f).lt = s.lt := rfl
@[simp] theorem State.modAud_straps : (s.modAud f).straps = s.straps := rfl
@[simp] theorem State.modAud_counters : (s.modAud f).counters = s.counters := rfl
@[simp] theorem State.modAud_loaded : (s.modAud f).loaded = s.loaded := rfl
@[simp] theorem State.modAud_tlc : (s.modAud f).tlc = s.tlc := rfl
@[simp] theorem State.modAud_msu : (s.modAud f).msu = s.msu := rfl
@[simp] theorem State.modAud_oin : (s.modAud f).oin = s.oin := rfl
@[simp] theorem State.modAud_fst : (s.modAud f).fst = s.fst := rfl
@[simp] theorem State.modAud_sou : (s.modAud f).sou = s.sou := rfl
@[simp] theorem State.modAud_ilg : (s.modAud f).ilg = s.ilg := rfl
@[simp] theorem State.modAud_aud : (s.modAud f).aud = f s.aud := rfl
@[simp] theorem State.modAud_pmg : (s.modAud f).pmg = s.pmg := rfl
@[simp] theorem State.modAud_prr : (s.modAud f).prr = s.prr := rfl
@[simp] theorem State.modAud_ntu : (s.modAud f).ntu = s.ntu := rfl
@[simp] theorem State.modAud_cmu : (s.modAud f).cmu = s.cmu := rfl
@[simp] theorem State.modAud_pending : (s.modAud f).pending = s.pending := rfl
@[simp] theorem State.modAud_count (c : Counter) : (s.modAud f).count c = s.count c := rfl
@[simp] theorem State.modAud_linkTime : (s.modAud f).linkTime = s.linkTime := rfl
@[simp] theorem State.modAud_linkActive : (s.modAud f).linkActive = s.linkActive := rfl
end

section
variable (s : State) (f : Pmg → Pmg)
@[simp] theorem State.modPmg_lt : (s.modPmg f).lt = s.lt := rfl
@[simp] theorem State.modPmg_straps : (s.modPmg f).straps = s.straps := rfl
@[simp] theorem State.modPmg_counters : (s.modPmg f).counters = s.counters := rfl
@[simp] theorem State.modPmg_loaded : (s.modPmg f).loaded = s.loaded := rfl
@[simp] theorem State.modPmg_tlc : (s.modPmg f).tlc = s.tlc := rfl
@[simp] theorem State.modPmg_msu : (s.modPmg f).msu = s.msu := rfl
@[simp] theorem State.modPmg_oin : (s.modPmg f).oin = s.oin := rfl
@[simp] theorem State.modPmg_fst : (s.modPmg f).fst = s.fst := rfl
@[simp] theorem State.modPmg_sou : (s.modPmg f).sou = s.sou := rfl
@[simp] theorem State.modPmg_ilg : (s.modPmg f).ilg = s.ilg := rfl
@[simp] theorem State.modPmg_aud : (s.modPmg f).aud = s.aud := rfl
@[simp] theorem State.modPmg_pmg : (s.modPmg f).pmg = f s.pmg := rfl
@[simp] theorem State.modPmg_prr : (s.modPmg f).prr = s.prr := rfl
@[simp] theorem State.modPmg_ntu : (s.modPmg f).ntu = s.ntu := rfl
@[simp] theorem State.modPmg_cmu : (s.modPmg f).cmu = s.cmu := rfl
@[simp] theorem State.modPmg_pending : (s.modPmg f).pending = s.pending := rfl
@[simp] theorem State.modPmg_count (c : Counter) : (s.modPmg f).count c = s.count c := rfl
@[simp] theorem State.modPmg_linkTime : (s.modPmg f).linkTime = s.linkTime := rfl
@[simp] theorem State.modPmg_linkActive : (s.modPmg f).linkActive = s.linkActive := rfl
end

section
variable (s : State) (f : Prr → Prr)
@[simp] theorem State.modPrr_lt : (s.modPrr f).lt = s.lt := rfl
@[simp] theorem State.modPrr_straps : (s.modPrr f).straps = s.straps := rfl
@[simp] theorem State.modPrr_counters : (s.modPrr f).counters = s.counters := rfl
@[simp] theorem State.modPrr_loaded : (s.modPrr f).loaded = s.loaded := rfl
@[simp] theorem State.modPrr_tlc : (s.modPrr f).tlc = s.tlc := rfl
@[simp] theorem State.modPrr_msu : (s.modPrr f).msu = s.msu := rfl
@[simp] theorem State.modPrr_oin : (s.modPrr f).oin = s.oin := rfl
@[simp] theorem State.modPrr_fst : (s.modPrr f).fst = s.fst := rfl
@[simp] theorem State.modPrr_sou : (s.modPrr f).sou = s.sou := rfl
@[simp] theorem State.modPrr_ilg : (s.modPrr f).ilg = s.ilg := rfl
@[simp] theorem State.modPrr_aud : (s.modPrr f).aud = s.aud := rfl
@[simp] theorem State.modPrr_pmg : (s.modPrr f).pmg = s.pmg := rfl
@[simp] theorem State.modPrr_prr : (s.modPrr f).prr = f s.prr := rfl
@[simp] theorem State.modPrr_ntu : (s.modPrr f).ntu = s.ntu := rfl
@[simp] theorem State.modPrr_cmu : (s.modPrr f).cmu = s.cmu := rfl
@[simp] theorem State.modPrr_pending : (s.modPrr f).pending = s.pending := rfl
@[simp] theorem State.modPrr_count (c : Counter) : (s.modPrr f).count c = s.count c := rfl
@[simp] theorem State.modPrr_linkTime : (s.modPrr f).linkTime = s.linkTime := rfl
@[simp] theorem State.modPrr_linkActive : (s.modPrr f).linkActive = s.linkActive := rfl
end

section
variable (s : State) (f : Ntu → Ntu)
@[simp] theorem State.modNtu_lt : (s.modNtu f).lt = s.lt := rfl
@[simp] theorem State.modNtu_straps : (s.modNtu f).straps = s.straps := rfl
@[simp] theorem State.modNtu_counters : (s.modNtu f).counters = s.counters := rfl
@[simp] theorem State.modNtu_loaded : (s.modNtu f).loaded = s.loaded := rfl
@[simp] theorem State.modNtu_tlc : (s.modNtu f).tlc = s.tlc := rfl
@[simp] theorem State.modNtu_msu : (s.modNtu f).msu = s.msu := rfl
@[simp] theorem State.modNtu_oin : (s.modNtu f).oin = s.oin := rfl
@[simp] theorem State.modNtu_fst : (s.modNtu f).fst = s.fst := rfl
@[simp] theorem State.modNtu_sou : (s.modNtu f).sou = s.sou := rfl
@[simp] theorem State.modNtu_ilg : (s.modNtu f).ilg = s.ilg := rfl
@[simp] theorem State.modNtu_aud : (s.modNtu f).aud = s.aud := rfl
@[simp] theorem State.modNtu_pmg : (s.modNtu f).pmg = s.pmg := rfl
@[simp] theorem State.modNtu_prr : (s.modNtu f).prr = s.prr := rfl
@[simp] theorem State.modNtu_ntu : (s.modNtu f).ntu = f s.ntu := rfl
@[simp] theorem State.modNtu_cmu : (s.modNtu f).cmu = s.cmu := rfl
@[simp] theorem State.modNtu_pending : (s.modNtu f).pending = s.pending := rfl
@[simp] theorem State.modNtu_count (c : Counter) : (s.modNtu f).count c = s.count c := rfl
@[simp] theorem State.modNtu_linkTime : (s.modNtu f).linkTime = s.linkTime := rfl
@[simp] theorem State.modNtu_linkActive : (s.modNtu f).linkActive = s.linkActive := rfl
end

section
variable (s : State) (f : Cmu → Cmu)
@[simp] theorem State.modCmu_lt : (s.modCmu f).lt = s.lt := rfl
@[simp] theorem State.modCmu_straps : (s.modCmu f).straps = s.straps := rfl
@[simp] theorem State.modCmu_counters : (s.modCmu f).counters = s.counters := rfl
@[simp] theorem State.modCmu_loaded : (s.modCmu f).loaded = s.loaded := rfl
@[simp] theorem State.modCmu_tlc : (s.modCmu f).tlc = s.tlc := rfl
@[simp] theorem State.modCmu_msu : (s.modCmu f).msu = s.msu := rfl
@[simp] theorem State.modCmu_oin : (s.modCmu f).oin = s.oin := rfl
@[simp] theorem State.modCmu_fst : (s.modCmu f).fst = s.fst := rfl
@[simp] theorem State.modCmu_sou : (s.modCmu f).sou = s.sou := rfl
@[simp] theorem State.modCmu_ilg : (s.modCmu f).ilg = s.ilg := rfl
@[simp] theorem State.modCmu_aud : (s.modCmu f).aud = s.aud := rfl
@[simp] theorem State.modCmu_pmg : (s.modCmu f).pmg = s.pmg := rfl
@[simp] theorem State.modCmu_prr : (s.modCmu f).prr = s.prr := rfl
@[simp] theorem State.modCmu_ntu : (s.modCmu f).ntu = s.ntu := rfl
@[simp] theorem State.modCmu_cmu : (s.modCmu f).cmu = f s.cmu := rfl
@[simp] theorem State.modCmu_pending : (s.modCmu f).pending = s.pending := rfl
@[simp] theorem State.modCmu_count (c : Counter) : (s.modCmu f).count c = s.count c := rfl
@[simp] theorem State.modCmu_linkTime : (s.modCmu f).linkTime = s.linkTime := rfl
@[simp] theorem State.modCmu_linkActive : (s.modCmu f).linkActive = s.linkActive := rfl
end

section
variable (s : State) (c : Counter) (n : Nat)
@[simp] theorem State.setCount_lt : (s.setCount c n).lt = s.lt := rfl
@[simp] theorem State.setCount_straps : (s.setCount c n).straps = s.straps := rfl
@[simp] theorem State.setCount_loaded : (s.setCount c n).loaded = s.loaded := rfl
@[simp] theorem State.setCount_tlc : (s.setCount c n).tlc = s.tlc := rfl
@[simp] theorem State.setCount_msu : (s.setCount c n).msu = s.msu := rfl
@[simp] theorem State.setCount_oin : (s.setCount c n).oin = s.oin := rfl
@[simp] theorem State.setCount_fst : (s.setCount c n).fst = s.fst := rfl
@[simp] theorem State.setCount_sou : (s.setCount c n).sou = s.sou := rfl
@[simp] theorem State.setCount_ilg : (s.setCount c n).ilg = s.ilg := rfl
@[simp] theorem State.setCount_aud : (s.setCount c n).aud = s.aud := rfl
@[simp] theorem State.setCount_pmg : (s.setCount c n).pmg = s.pmg := rfl
@[simp] theorem State.setCount_prr : (s.setCount c n).prr = s.prr := rfl
@[simp] theorem State.setCount_ntu : (s.setCount c n).ntu = s.ntu := rfl
@[simp] theorem State.setCount_cmu : (s.setCount c n).cmu = s.cmu := rfl
@[simp] theorem State.setCount_pending : (s.setCount c n).pending = s.pending := rfl
@[simp] theorem State.setCount_linkTime : (s.setCount c n).linkTime = s.linkTime := rfl
@[simp] theorem State.setCount_linkActive : (s.setCount c n).linkActive = s.linkActive := rfl
end

section
variable (s : State) (c : Counter) (n : Nat)
@[simp] theorem State.addCount_lt : (s.addCount c n).lt = s.lt := rfl
@[simp] theorem State.addCount_straps : (s.addCount c n).straps = s.straps := rfl
@[simp] theorem State.addCount_loaded : (s.addCount c n).loaded = s.loaded := rfl
@[simp] theorem State.addCount_tlc : (s.addCount c n).tlc = s.tlc := rfl
@[simp] theorem State.addCount_msu : (s.addCount c n).msu = s.msu := rfl
@[simp] theorem State.addCount_oin : (s.addCount c n).oin = s.oin := rfl
@[simp] theorem State.addCount_fst : (s.addCount c n).fst = s.fst := rfl
@[simp] theorem State.addCount_sou : (s.addCount c n).sou = s.sou := rfl
@[simp] theorem State.addCount_ilg : (s.addCount c n).ilg = s.ilg := rfl
@[simp] theorem State.addCount_aud : (s.addCount c n).aud = s.aud := rfl
@[simp] theorem State.addCount_pmg : (s.addCount c n).pmg = s.pmg := rfl
@[simp] theorem State.addCount_prr : (s.addCount c n).prr = s.prr := rfl
@[simp] theorem State.addCount_ntu : (s.addCount c n).ntu = s.ntu := rfl
@[simp] theorem State.addCount_cmu : (s.addCount c n).cmu = s.cmu := rfl
@[simp] theorem State.addCount_pending : (s.addCount c n).pending = s.pending := rfl
@[simp] theorem State.addCount_linkTime : (s.addCount c n).linkTime = s.linkTime := rfl
@[simp] theorem State.addCount_linkActive : (s.addCount c n).linkActive = s.linkActive := rfl
end

section
variable (s : State) (c : Counter)
@[simp] theorem State.bump_lt : (s.bump c).lt = s.lt := rfl
@[simp] theorem State.bump_straps : (s.bump c).straps = s.straps := rfl
@[simp] theorem State.bump_loaded : (s.bump c).loaded = s.loaded := rfl
@[simp] theorem State.bump_tlc : (s.bump c).tlc = s.tlc := rfl
@[simp] theorem State.bump_msu : (s.bump c).msu = s.msu := rfl
@[simp] theorem State.bump_oin : (s.bump c).oin = s.oin := rfl
@[simp] theorem State.bump_fst : (s.bump c).fst = s.fst := rfl
@[simp] theorem State.bump_sou : (s.bump c).sou = s.sou := rfl
@[simp] theorem State.bump_ilg : (s.bump c).ilg = s.ilg := rfl
@[simp] theorem State.bump_aud : (s.bump c).aud = s.aud := rfl
@[simp] theorem State.bump_pmg : (s.bump c).pmg = s.pmg := rfl
@[simp] theorem State.bump_prr : (s.bump c).prr = s.prr := rfl
@[simp] theorem State.bump_ntu : (s.bump c).ntu = s.ntu := rfl
@[simp] theorem State.bump_cmu : (s.bump c).cmu = s.cmu := rfl
@[simp] theorem State.bump_pending : (s.bump c).pending = s.pending := rfl
@[simp] theorem State.bump_linkTime : (s.bump c).linkTime = s.linkTime := rfl
@[simp] theorem State.bump_linkActive : (s.bump c).linkActive = s.linkActive := rfl
end

end Sys2Proof.Machine
end

