-- ==== Sys2Proof/Laws/Counters.lean ====
section
/-! SUPPORT. The counters: what reads back after an update (4.5). -/

namespace Sys2Proof.Machine

theorem counter_at (c : Counter) : (CounterGroup.all.flatMap CounterGroup.members)[c.ctorIdx]? = some c := by
  cases c <;> rfl

theorem ctorIdx_inj (c d : Counter) (h : c.ctorIdx = d.ctorIdx) : c = d := by
  have hc := counter_at c
  rw [h, counter_at d] at hc
  exact (Option.some.inj hc).symm

@[simp] theorem count_setCount (s : State) (c d : Counter) (n : Nat) :
    (s.setCount c n).count d = if d = c then n else s.count d := by
  by_cases h : d = c
  · subst h; simp [State.setCount, State.count]
  · have : c.index.val ≠ d.index.val := fun e => h (ctorIdx_inj c d e).symm
    simp [State.setCount, State.count, h, Vector.getElem_set_ne _ _ this]

@[simp] theorem count_addCount (s : State) (c d : Counter) (n : Nat) :
    (s.addCount c n).count d = if d = c then min 4294967295 (s.count c + n) else s.count d := by
  rw [State.addCount, count_setCount]; rfl

@[simp] theorem count_bump (s : State) (c d : Counter) :
    (s.bump c).count d = if d = c then min 4294967295 (s.count c + 1) else s.count d := count_addCount s c d 1

theorem setCount_fits (s : State) (c : Counter) (n : Nat) (h : s.countersFit) (hn : n ≤ 4294967295) :
    (s.setCount c n).countersFit := by
  intro d; rw [count_setCount]; split
  · exact hn
  · exact h d

theorem addCount_fits (s : State) (c : Counter) (n : Nat) (h : s.countersFit) : (s.addCount c n).countersFit :=
  setCount_fits s c _ h (Nat.min_le_left _ _)

theorem bump_fits (s : State) (c : Counter) (h : s.countersFit) : (s.bump c).countersFit := addCount_fits s c 1 h

end Sys2Proof.Machine
end

