-- ==== Sys2Proof/Laws/Notices.lean ====
section
/-! SUPPORT. What a report to the NTU can do (R183 to R191): it moves conditions, notices and ATTN, and nothing else. -/

namespace Sys2Proof.Machine

namespace SameButNotices

theorem refl (s : State) : SameButNotices s s :=
  ⟨rfl, rfl, rfl, fun _ _ _ => rfl, rfl, rfl, rfl, rfl, rfl, rfl, rfl, rfl, rfl, ⟨rfl, rfl⟩, rfl, rfl⟩

theorem trans {s t u : State} (h : SameButNotices s t) (g : SameButNotices t u) : SameButNotices s u := by
  refine ⟨g.lt.trans h.lt, g.straps.trans h.straps, g.loaded.trans h.loaded,
    fun c a b => (g.counts c a b).trans (h.counts c a b), ?_, g.msu.trans h.msu, g.oin.trans h.oin,
    g.fst.trans h.fst, g.sou.trans h.sou, g.ilg.trans h.ilg, g.aud.trans h.aud, g.pmg.trans h.pmg,
    g.prr.trans h.prr, ⟨g.mask.1.trans h.mask.1, g.mask.2.trans h.mask.2⟩, ?_, g.pending.trans h.pending⟩
  · rw [g.tlc, h.tlc]
  · rw [g.cmu, h.cmu]

end SameButNotices

theorem sbn_opportunity (s : State) : SameButNotices s s.opportunity := by
  unfold State.opportunity
  split
  · split <;> exact ⟨rfl, rfl, rfl, fun _ _ _ => rfl, rfl, rfl, rfl, rfl, rfl, rfl, rfl, rfl, rfl, ⟨rfl, rfl⟩, rfl, rfl⟩
  · exact .refl s

theorem sbn_uartStart (s : State) : SameButNotices s s.uartStart := by
  unfold State.uartStart
  split
  · exact ⟨rfl, rfl, rfl, fun _ _ _ => rfl, rfl, rfl, rfl, rfl, rfl, rfl, rfl, rfl, rfl, ⟨rfl, rfl⟩, rfl, rfl⟩
  · exact .refl s

theorem sbn_setOut (s : State) (p : Port) (q : List Message) : SameButNotices s (s.modCmu fun c => c.setOut p q) := by
  cases p <;> exact ⟨rfl, rfl, rfl, fun _ _ _ => rfl, rfl, rfl, rfl, rfl, rfl, rfl, rfl, rfl, rfl, ⟨rfl, rfl⟩, rfl, rfl⟩

theorem sbn_place (s : State) (p : Port) (role : MessageRole) (body : List Byte) :
    SameButNotices s (s.place p role body) :=
  ((sbn_setOut s p _).trans (sbn_opportunity _)).trans (sbn_uartStart _)

theorem sbn_modNtu (s : State) (f : Ntu → Ntu) (h : (f s.ntu).enabled = s.ntu.enabled)
    (g : (f s.ntu).holdoff = s.ntu.holdoff) : SameButNotices s (s.modNtu f) :=
  ⟨rfl, rfl, rfl, fun _ _ _ => rfl, rfl, rfl, rfl, rfl, rfl, rfl, rfl, rfl, rfl, ⟨h, g⟩, rfl, rfl⟩

theorem sbn_bump (s : State) (c : Counter) (h : c = .noticesIssued ∨ c = .noticesCoalesced) :
    SameButNotices s (s.bump c) := by
  refine ⟨rfl, rfl, rfl, fun d a b => ?_, rfl, rfl, rfl, rfl, rfl, rfl, rfl, rfl, rfl, ⟨rfl, rfl⟩, rfl, rfl⟩
  rw [count_bump, if_neg]
  rintro rfl
  rcases h with rfl | rfl
  · exact a rfl
  · exact b rfl

theorem sbn_issue (s : State) : SameButNotices s s.issue := by
  unfold State.issue
  split
  · exact .refl s
  · have h (f : Ntu → Ntu) (e : (f s.ntu).enabled = s.ntu.enabled) (g : (f s.ntu).holdoff = s.ntu.holdoff) :
        SameButNotices s ((s.modNtu f).bump .noticesIssued) :=
      (sbn_modNtu s f e g).trans (sbn_bump _ .noticesIssued (.inl rfl))
    dsimp only
    split
    · refine .trans (h _ ?_ ?_) (.trans (sbn_setOut _ _ _) (sbn_bump _ .noticesCoalesced (.inr rfl))) <;> rfl
    · refine .trans (h _ ?_ ?_) (sbn_place _ _ _ _) <;> rfl

theorem sbn_noticeDue (s : State) : SameButNotices s s.noticeDue := by
  unfold State.noticeDue
  split
  · exact .refl s
  · split
    · exact sbn_issue s
    · exact sbn_modNtu s _ rfl rfl

theorem sbn_attend (s : State) : SameButNotices s s.attend := by
  unfold State.attend
  split
  · exact sbn_modNtu s _ rfl rfl
  · split
    · exact sbn_modNtu s _ rfl rfl
    · exact .refl s

/-- R183, R187: a raise moves only conditions and notices. -/
theorem sbn_raise (s : State) (c : Condition) : SameButNotices s (s.raise c) := by
  unfold State.raise
  split
  · exact .refl s
  · refine (sbn_modNtu s (fun n => { n with pending := n.pending.put c }) rfl rfl).trans (.trans ?_ (sbn_attend _))
    split
    · exact sbn_noticeDue _
    · exact .refl _

/-- R183, R186: a clear moves only conditions and ATTN. -/
theorem sbn_lower (s : State) (c : Condition) : SameButNotices s (s.lower c) :=
  (sbn_modNtu s _ rfl rfl).trans (sbn_attend _)

theorem sbn_follow (s : State) (c : Condition) (b : Bool) : SameButNotices s (s.follow c b) := by
  unfold State.follow
  split
  · exact sbn_raise s c
  · exact sbn_lower s c

/-! ### The conditions after a report -/

@[simp] theorem opportunity_ntu (s : State) : s.opportunity.ntu = s.ntu := by
  unfold State.opportunity; repeat' split
  all_goals rfl

@[simp] theorem uartStart_ntu (s : State) : s.uartStart.ntu = s.ntu := by
  unfold State.uartStart; split <;> rfl

@[simp] theorem place_ntu (s : State) (p : Port) (r : MessageRole) (b : List Byte) : (s.place p r b).ntu = s.ntu := by
  simp [State.place]

@[simp] theorem issue_pending (s : State) : s.issue.ntu.pending = s.ntu.pending := by
  unfold State.issue
  split
  · rfl
  · dsimp only; split <;> simp

@[simp] theorem noticeDue_pending (s : State) : s.noticeDue.ntu.pending = s.ntu.pending := by
  unfold State.noticeDue
  split
  · rfl
  · split <;> simp

@[simp] theorem attend_pending (s : State) : s.attend.ntu.pending = s.ntu.pending := by
  unfold State.attend
  repeat' split
  all_goals rfl

theorem or_twoPow_of_and (x : BitVec 16) (i : Nat) (h : x &&& BitVec.twoPow 16 i ≠ 0) : x ||| BitVec.twoPow 16 i = x := by
  have hi : x.getLsbD i = true := by
    apply Classical.byContradiction
    intro hn
    apply h
    ext j hj
    simp only [BitVec.getElem_and, BitVec.getElem_twoPow]
    by_cases e : j = i
    · subst e; simp_all
    · simp [e]
  ext j hj
  simp only [BitVec.getElem_or, BitVec.getElem_twoPow]
  by_cases e : j = i
  · subst e; simp_all
  · simp [e]

theorem Masks.set_get (m : Masks) (c : CondSet) : m.set c (m.get c) = m := by cases c <;> rfl

theorem Masks.put_of_has (m : Masks) (c : Condition) (h : m.has c = true) : m.put c = m := by
  have h' : m.get c.set &&& BitVec.twoPow 16 c.place.2 ≠ 0 := by simpa [Masks.has, Condition.bit] using h
  rw [Masks.put, Condition.bit, or_twoPow_of_and _ _ h', Masks.set_get]

/-- R183: after a raise the condition is pending and every other is as it was. -/
@[simp] theorem raise_pending (s : State) (c : Condition) :
    (s.raise c).ntu.pending = s.ntu.pending.put c := by
  unfold State.raise
  split
  · rw [Masks.put_of_has _ _ ‹_›]
  · simp only [attend_pending]
    split <;> simp

/-- R183: after a clear the condition is clear and every other is as it was. -/
@[simp] theorem lower_pending (s : State) (c : Condition) :
    (s.lower c).ntu.pending = s.ntu.pending.drop c := by simp [State.lower]

end Sys2Proof.Machine
end

