-- ==== Sys2Proof/Laws/Requests.lean ====
section
/-! SUPPORT. What a request does (R199 to R201): who is answered, and what its reply moves. -/

namespace Sys2Proof.Machine

@[simp] theorem opportunity_cmu (s : State) : s.opportunity.cmu = s.cmu := by
  unfold State.opportunity; repeat' split
  all_goals rfl

theorem opportunity_rest (s : State) :
    s.opportunity = { s with tlc := { s.tlc with tx := s.opportunity.tlc.tx, beat := s.opportunity.tlc.beat } } := by
  unfold State.opportunity
  repeat' split
  all_goals rfl

theorem uartStart_rest (s : State) :
    s.uartStart = { s with cmu := { s.cmu with serviceTx := s.uartStart.cmu.serviceTx } } := by
  unfold State.uartStart; split <;> rfl

theorem setOut_self (c : Cmu) (p : Port) (q : List Message) : (c.setOut p q).out p = q := by cases p <;> rfl

theorem setOut_other (c : Cmu) (p r : Port) (q : List Message) (h : r ≠ p) : (c.setOut p q).out r = c.out r := by
  cases p <;> cases r <;> first | rfl | exact absurd rfl h

/-- R8, R21: a downstream block is discarded with a reason, as a whole, or is the row that its checks and its codes give. -/
theorem commandOfBlock_cases (b : List Byte) :
    (∃ d, judgeBlock b = some d ∧ commandOfBlock b = .linkBlockDiscarded b) ∨
      (judgeBlock b = none ∧ readBlock b = .ok (commandOfBlock b)) := by
  unfold judgeBlock commandOfBlock
  cases readBlock b <;> simp

/-- R201: a reply moves the entry, its queue, and what begins to be sent. -/
theorem reply_replied (u : State) (k : ReqKind) (p : Port) (tag : Byte) (x : Status) (values : List Byte)
    (role : MessageRole) (h : role ≠ .notice) : Replied u (u.reply k.code p tag x values role) k p tag x values := by
  have e : (u.reply k.code p tag x values role) =
      ((((u.modCmu fun c => { c with queue := markComplete c.queue }).modCmu fun c =>
        c.setOut p (c.out p ++ [⟨role, replyBody k.code tag x values, u.lt⟩])).opportunity).uartStart) := rfl
  generalize hv : ((u.modCmu fun c => { c with queue := markComplete c.queue }).modCmu fun c =>
    c.setOut p (c.out p ++ [⟨role, replyBody k.code tag x values, u.lt⟩])) = v at e
  rw [e, uartStart_rest, opportunity_rest]
  cases p <;> subst hv
  · exact ⟨rfl, ⟨_, rfl, rfl, rfl, h⟩, fun q hq => by cases q <;> first | rfl | exact absurd rfl hq, rfl, rfl, rfl⟩
  · exact ⟨rfl, ⟨_, rfl, rfl, rfl, h⟩, fun q hq => by cases q <;> first | rfl | exact absurd rfl hq, rfl, rfl, rfl⟩

/-- R199: a request whose turn it is, from the controller, is judged by its own rule. -/
theorem request_directed (s : State) (k : ReqKind) (p : Port) (tag : Byte) (payload : List Byte)
    (own : State → Answer) (h : s.directed k p tag payload) :
    s.request k p tag payload own = (own s).state.reply k.code p tag (own s).status (own s).values (own s).role := by
  unfold State.request
  simp [h.1, h.2]

/-- R199: a read-only request or ATTACH is judged by its own rule whoever sends it. -/
theorem request_open (s : State) (k : ReqKind) (p : Port) (tag : Byte) (payload : List Byte) (own : State → Answer)
    (h : s.turn k.code p tag payload = true) (hk : k.directing = false) :
    s.request k p tag payload own = (own s).state.reply k.code p tag (own s).status (own s).values (own s).role := by
  unfold State.request
  simp [h, hk]

/-- R199: a directing request from a port without the role. -/
theorem request_refused (s : State) (k : ReqKind) (p : Port) (tag : Byte) (payload : List Byte) (own : State → Answer)
    (h : s.turn k.code p tag payload = true) (hk : k.directing = true) (hr : s.cmu.role ≠ some p) :
    s.request k p tag payload own = s.reply k.code p tag .notController [] .reply := by
  unfold State.request
  simp [h, hk, hr]

/-- R199, R209: a request whose turn it is not waits. -/
theorem request_waits (s : State) (k : ReqKind) (p : Port) (tag : Byte) (payload : List Byte) (own : State → Answer)
    (h : s.turn k.code p tag payload = false) : s.request k p tag payload own = s := by
  unfold State.request
  simp [h]

end Sys2Proof.Machine
end

