-- ==== Sys2Proof/Laws/Reports.lean ====
section
/-!
SUPPORT. One lemma for each field that a report to the NTU, a message placed or an opportunity leaves alone (R22, R183 to R191,
R201), from `SameButNotices`.
-/

namespace Sys2Proof.Machine

namespace SameButNotices
variable {u t : State} (h : SameButNotices u t)
include h
theorem link : t.tlc.link = u.tlc.link := by rw [h.tlc]
theorem features : t.tlc.features = u.tlc.features := by rw [h.tlc]
theorem offer : t.tlc.offer = u.tlc.offer := by rw [h.tlc]
theorem lineDelay : t.tlc.lineDelay = u.tlc.lineDelay := by rw [h.tlc]
theorem offset : t.tlc.offset = u.tlc.offset := by rw [h.tlc]
theorem basis : t.tlc.basis = u.tlc.basis := by rw [h.tlc]
theorem crcCount : t.tlc.crcCount = u.tlc.crcCount := by rw [h.tlc]
theorem threshold : t.tlc.threshold = u.tlc.threshold := by rw [h.tlc]
theorem sleepPending : t.tlc.sleepPending = u.tlc.sleepPending := by rw [h.tlc]
theorem stepMotion : t.tlc.stepMotion = u.tlc.stepMotion := by rw [h.tlc]
theorem stepCapture : t.tlc.stepCapture = u.tlc.stepCapture := by rw [h.tlc]
theorem stepBeat : t.tlc.stepBeat = u.tlc.stepBeat := by rw [h.tlc]
theorem beacons : t.tlc.beacons = u.tlc.beacons := by rw [h.tlc]
theorem role : t.cmu.role = u.cmu.role := by rw [h.cmu]
theorem queue : t.cmu.queue = u.cmu.queue := by rw [h.cmu]
theorem storeState : t.cmu.storeState = u.cmu.storeState := by rw [h.cmu]
theorem storeWhole : t.cmu.storeWhole = u.cmu.storeWhole := by rw [h.cmu]
theorem rx : t.cmu.rx = u.cmu.rx := by rw [h.cmu]
theorem rxLast : t.cmu.rxLast = u.cmu.rxLast := by rw [h.cmu]
theorem restart : t.cmu.restart = u.cmu.restart := by rw [h.cmu]
theorem enabled : t.ntu.enabled = u.ntu.enabled := h.mask.1
theorem holdoff : t.ntu.holdoff = u.ntu.holdoff := h.mask.2
end SameButNotices

section
variable (s : State) 
@[simp] theorem State.opportunity_lt : s.opportunity.lt = s.lt := (sbn_opportunity s).lt
@[simp] theorem State.opportunity_straps : s.opportunity.straps = s.straps := (sbn_opportunity s).straps
@[simp] theorem State.opportunity_loaded : s.opportunity.loaded = s.loaded := (sbn_opportunity s).loaded
@[simp] theorem State.opportunity_msu : s.opportunity.msu = s.msu := (sbn_opportunity s).msu
@[simp] theorem State.opportunity_oin : s.opportunity.oin = s.oin := (sbn_opportunity s).oin
@[simp] theorem State.opportunity_fst : s.opportunity.fst = s.fst := (sbn_opportunity s).fst
@[simp] theorem State.opportunity_sou : s.opportunity.sou = s.sou := (sbn_opportunity s).sou
@[simp] theorem State.opportunity_ilg : s.opportunity.ilg = s.ilg := (sbn_opportunity s).ilg
@[simp] theorem State.opportunity_aud : s.opportunity.aud = s.aud := (sbn_opportunity s).aud
@[simp] theorem State.opportunity_pmg : s.opportunity.pmg = s.pmg := (sbn_opportunity s).pmg
@[simp] theorem State.opportunity_prr : s.opportunity.prr = s.prr := (sbn_opportunity s).prr
@[simp] theorem State.opportunity_pending : s.opportunity.pending = s.pending := (sbn_opportunity s).pending
@[simp] theorem State.opportunity_tlc_link : s.opportunity.tlc.link = s.tlc.link := (sbn_opportunity s).link
@[simp] theorem State.opportunity_tlc_features : s.opportunity.tlc.features = s.tlc.features := (sbn_opportunity s).features
@[simp] theorem State.opportunity_tlc_offer : s.opportunity.tlc.offer = s.tlc.offer := (sbn_opportunity s).offer
@[simp] theorem State.opportunity_tlc_lineDelay : s.opportunity.tlc.lineDelay = s.tlc.lineDelay := (sbn_opportunity s).lineDelay
@[simp] theorem State.opportunity_tlc_offset : s.opportunity.tlc.offset = s.tlc.offset := (sbn_opportunity s).offset
@[simp] theorem State.opportunity_tlc_basis : s.opportunity.tlc.basis = s.tlc.basis := (sbn_opportunity s).basis
@[simp] theorem State.opportunity_tlc_crcCount : s.opportunity.tlc.crcCount = s.tlc.crcCount := (sbn_opportunity s).crcCount
@[simp] theorem State.opportunity_tlc_threshold : s.opportunity.tlc.threshold = s.tlc.threshold := (sbn_opportunity s).threshold
@[simp] theorem State.opportunity_tlc_sleepPending : s.opportunity.tlc.sleepPending = s.tlc.sleepPending := (sbn_opportunity s).sleepPending
@[simp] theorem State.opportunity_tlc_stepMotion : s.opportunity.tlc.stepMotion = s.tlc.stepMotion := (sbn_opportunity s).stepMotion
@[simp] theorem State.opportunity_tlc_stepCapture : s.opportunity.tlc.stepCapture = s.tlc.stepCapture := (sbn_opportunity s).stepCapture
@[simp] theorem State.opportunity_tlc_stepBeat : s.opportunity.tlc.stepBeat = s.tlc.stepBeat := (sbn_opportunity s).stepBeat
@[simp] theorem State.opportunity_tlc_beacons : s.opportunity.tlc.beacons = s.tlc.beacons := (sbn_opportunity s).beacons
@[simp] theorem State.opportunity_cmu_role : s.opportunity.cmu.role = s.cmu.role := (sbn_opportunity s).role
@[simp] theorem State.opportunity_cmu_queue : s.opportunity.cmu.queue = s.cmu.queue := (sbn_opportunity s).queue
@[simp] theorem State.opportunity_cmu_storeState : s.opportunity.cmu.storeState = s.cmu.storeState := (sbn_opportunity s).storeState
@[simp] theorem State.opportunity_cmu_storeWhole : s.opportunity.cmu.storeWhole = s.cmu.storeWhole := (sbn_opportunity s).storeWhole
@[simp] theorem State.opportunity_cmu_rx : s.opportunity.cmu.rx = s.cmu.rx := (sbn_opportunity s).rx
@[simp] theorem State.opportunity_cmu_rxLast : s.opportunity.cmu.rxLast = s.cmu.rxLast := (sbn_opportunity s).rxLast
@[simp] theorem State.opportunity_cmu_restart : s.opportunity.cmu.restart = s.cmu.restart := (sbn_opportunity s).restart
@[simp] theorem State.opportunity_ntu_enabled : s.opportunity.ntu.enabled = s.ntu.enabled := (sbn_opportunity s).enabled
@[simp] theorem State.opportunity_ntu_holdoff : s.opportunity.ntu.holdoff = s.ntu.holdoff := (sbn_opportunity s).holdoff
@[simp] theorem State.opportunity_count (d : Counter) (h : d ≠ .noticesIssued) (g : d ≠ .noticesCoalesced) :
    s.opportunity.count d = s.count d := (sbn_opportunity s).counts d h g
end

section
variable (s : State) 
@[simp] theorem State.uartStart_lt : s.uartStart.lt = s.lt := (sbn_uartStart s).lt
@[simp] theorem State.uartStart_straps : s.uartStart.straps = s.straps := (sbn_uartStart s).straps
@[simp] theorem State.uartStart_loaded : s.uartStart.loaded = s.loaded := (sbn_uartStart s).loaded
@[simp] theorem State.uartStart_msu : s.uartStart.msu = s.msu := (sbn_uartStart s).msu
@[simp] theorem State.uartStart_oin : s.uartStart.oin = s.oin := (sbn_uartStart s).oin
@[simp] theorem State.uartStart_fst : s.uartStart.fst = s.fst := (sbn_uartStart s).fst
@[simp] theorem State.uartStart_sou : s.uartStart.sou = s.sou := (sbn_uartStart s).sou
@[simp] theorem State.uartStart_ilg : s.uartStart.ilg = s.ilg := (sbn_uartStart s).ilg
@[simp] theorem State.uartStart_aud : s.uartStart.aud = s.aud := (sbn_uartStart s).aud
@[simp] theorem State.uartStart_pmg : s.uartStart.pmg = s.pmg := (sbn_uartStart s).pmg
@[simp] theorem State.uartStart_prr : s.uartStart.prr = s.prr := (sbn_uartStart s).prr
@[simp] theorem State.uartStart_pending : s.uartStart.pending = s.pending := (sbn_uartStart s).pending
@[simp] theorem State.uartStart_tlc_link : s.uartStart.tlc.link = s.tlc.link := (sbn_uartStart s).link
@[simp] theorem State.uartStart_tlc_features : s.uartStart.tlc.features = s.tlc.features := (sbn_uartStart s).features
@[simp] theorem State.uartStart_tlc_offer : s.uartStart.tlc.offer = s.tlc.offer := (sbn_uartStart s).offer
@[simp] theorem State.uartStart_tlc_lineDelay : s.uartStart.tlc.lineDelay = s.tlc.lineDelay := (sbn_uartStart s).lineDelay
@[simp] theorem State.uartStart_tlc_offset : s.uartStart.tlc.offset = s.tlc.offset := (sbn_uartStart s).offset
@[simp] theorem State.uartStart_tlc_basis : s.uartStart.tlc.basis = s.tlc.basis := (sbn_uartStart s).basis
@[simp] theorem State.uartStart_tlc_crcCount : s.uartStart.tlc.crcCount = s.tlc.crcCount := (sbn_uartStart s).crcCount
@[simp] theorem State.uartStart_tlc_threshold : s.uartStart.tlc.threshold = s.tlc.threshold := (sbn_uartStart s).threshold
@[simp] theorem State.uartStart_tlc_sleepPending : s.uartStart.tlc.sleepPending = s.tlc.sleepPending := (sbn_uartStart s).sleepPending
@[simp] theorem State.uartStart_tlc_stepMotion : s.uartStart.tlc.stepMotion = s.tlc.stepMotion := (sbn_uartStart s).stepMotion
@[simp] theorem State.uartStart_tlc_stepCapture : s.uartStart.tlc.stepCapture = s.tlc.stepCapture := (sbn_uartStart s).stepCapture
@[simp] theorem State.uartStart_tlc_stepBeat : s.uartStart.tlc.stepBeat = s.tlc.stepBeat := (sbn_uartStart s).stepBeat
@[simp] theorem State.uartStart_tlc_beacons : s.uartStart.tlc.beacons = s.tlc.beacons := (sbn_uartStart s).beacons
@[simp] theorem State.uartStart_cmu_role : s.uartStart.cmu.role = s.cmu.role := (sbn_uartStart s).role
@[simp] theorem State.uartStart_cmu_queue : s.uartStart.cmu.queue = s.cmu.queue := (sbn_uartStart s).queue
@[simp] theorem State.uartStart_cmu_storeState : s.uartStart.cmu.storeState = s.cmu.storeState := (sbn_uartStart s).storeState
@[simp] theorem State.uartStart_cmu_storeWhole : s.uartStart.cmu.storeWhole = s.cmu.storeWhole := (sbn_uartStart s).storeWhole
@[simp] theorem State.uartStart_cmu_rx : s.uartStart.cmu.rx = s.cmu.rx := (sbn_uartStart s).rx
@[simp] theorem State.uartStart_cmu_rxLast : s.uartStart.cmu.rxLast = s.cmu.rxLast := (sbn_uartStart s).rxLast
@[simp] theorem State.uartStart_cmu_restart : s.uartStart.cmu.restart = s.cmu.restart := (sbn_uartStart s).restart
@[simp] theorem State.uartStart_ntu_enabled : s.uartStart.ntu.enabled = s.ntu.enabled := (sbn_uartStart s).enabled
@[simp] theorem State.uartStart_ntu_holdoff : s.uartStart.ntu.holdoff = s.ntu.holdoff := (sbn_uartStart s).holdoff
@[simp] theorem State.uartStart_count (d : Counter) (h : d ≠ .noticesIssued) (g : d ≠ .noticesCoalesced) :
    s.uartStart.count d = s.count d := (sbn_uartStart s).counts d h g
end

section
variable (s : State) 
@[simp] theorem State.attend_lt : s.attend.lt = s.lt := (sbn_attend s).lt
@[simp] theorem State.attend_straps : s.attend.straps = s.straps := (sbn_attend s).straps
@[simp] theorem State.attend_loaded : s.attend.loaded = s.loaded := (sbn_attend s).loaded
@[simp] theorem State.attend_msu : s.attend.msu = s.msu := (sbn_attend s).msu
@[simp] theorem State.attend_oin : s.attend.oin = s.oin := (sbn_attend s).oin
@[simp] theorem State.attend_fst : s.attend.fst = s.fst := (sbn_attend s).fst
@[simp] theorem State.attend_sou : s.attend.sou = s.sou := (sbn_attend s).sou
@[simp] theorem State.attend_ilg : s.attend.ilg = s.ilg := (sbn_attend s).ilg
@[simp] theorem State.attend_aud : s.attend.aud = s.aud := (sbn_attend s).aud
@[simp] theorem State.attend_pmg : s.attend.pmg = s.pmg := (sbn_attend s).pmg
@[simp] theorem State.attend_prr : s.attend.prr = s.prr := (sbn_attend s).prr
@[simp] theorem State.attend_pending : s.attend.pending = s.pending := (sbn_attend s).pending
@[simp] theorem State.attend_tlc_link : s.attend.tlc.link = s.tlc.link := (sbn_attend s).link
@[simp] theorem State.attend_tlc_features : s.attend.tlc.features = s.tlc.features := (sbn_attend s).features
@[simp] theorem State.attend_tlc_offer : s.attend.tlc.offer = s.tlc.offer := (sbn_attend s).offer
@[simp] theorem State.attend_tlc_lineDelay : s.attend.tlc.lineDelay = s.tlc.lineDelay := (sbn_attend s).lineDelay
@[simp] theorem State.attend_tlc_offset : s.attend.tlc.offset = s.tlc.offset := (sbn_attend s).offset
@[simp] theorem State.attend_tlc_basis : s.attend.tlc.basis = s.tlc.basis := (sbn_attend s).basis
@[simp] theorem State.attend_tlc_crcCount : s.attend.tlc.crcCount = s.tlc.crcCount := (sbn_attend s).crcCount
@[simp] theorem State.attend_tlc_threshold : s.attend.tlc.threshold = s.tlc.threshold := (sbn_attend s).threshold
@[simp] theorem State.attend_tlc_sleepPending : s.attend.tlc.sleepPending = s.tlc.sleepPending := (sbn_attend s).sleepPending
@[simp] theorem State.attend_tlc_stepMotion : s.attend.tlc.stepMotion = s.tlc.stepMotion := (sbn_attend s).stepMotion
@[simp] theorem State.attend_tlc_stepCapture : s.attend.tlc.stepCapture = s.tlc.stepCapture := (sbn_attend s).stepCapture
@[simp] theorem State.attend_tlc_stepBeat : s.attend.tlc.stepBeat = s.tlc.stepBeat := (sbn_attend s).stepBeat
@[simp] theorem State.attend_tlc_beacons : s.attend.tlc.beacons = s.tlc.beacons := (sbn_attend s).beacons
@[simp] theorem State.attend_cmu_role : s.attend.cmu.role = s.cmu.role := (sbn_attend s).role
@[simp] theorem State.attend_cmu_queue : s.attend.cmu.queue = s.cmu.queue := (sbn_attend s).queue
@[simp] theorem State.attend_cmu_storeState : s.attend.cmu.storeState = s.cmu.storeState := (sbn_attend s).storeState
@[simp] theorem State.attend_cmu_storeWhole : s.attend.cmu.storeWhole = s.cmu.storeWhole := (sbn_attend s).storeWhole
@[simp] theorem State.attend_cmu_rx : s.attend.cmu.rx = s.cmu.rx := (sbn_attend s).rx
@[simp] theorem State.attend_cmu_rxLast : s.attend.cmu.rxLast = s.cmu.rxLast := (sbn_attend s).rxLast
@[simp] theorem State.attend_cmu_restart : s.attend.cmu.restart = s.cmu.restart := (sbn_attend s).restart
@[simp] theorem State.attend_ntu_enabled : s.attend.ntu.enabled = s.ntu.enabled := (sbn_attend s).enabled
@[simp] theorem State.attend_ntu_holdoff : s.attend.ntu.holdoff = s.ntu.holdoff := (sbn_attend s).holdoff
@[simp] theorem State.attend_count (d : Counter) (h : d ≠ .noticesIssued) (g : d ≠ .noticesCoalesced) :
    s.attend.count d = s.count d := (sbn_attend s).counts d h g
end

section
variable (s : State) 
@[simp] theorem State.noticeDue_lt : s.noticeDue.lt = s.lt := (sbn_noticeDue s).lt
@[simp] theorem State.noticeDue_straps : s.noticeDue.straps = s.straps := (sbn_noticeDue s).straps
@[simp] theorem State.noticeDue_loaded : s.noticeDue.loaded = s.loaded := (sbn_noticeDue s).loaded
@[simp] theorem State.noticeDue_msu : s.noticeDue.msu = s.msu := (sbn_noticeDue s).msu
@[simp] theorem State.noticeDue_oin : s.noticeDue.oin = s.oin := (sbn_noticeDue s).oin
@[simp] theorem State.noticeDue_fst : s.noticeDue.fst = s.fst := (sbn_noticeDue s).fst
@[simp] theorem State.noticeDue_sou : s.noticeDue.sou = s.sou := (sbn_noticeDue s).sou
@[simp] theorem State.noticeDue_ilg : s.noticeDue.ilg = s.ilg := (sbn_noticeDue s).ilg
@[simp] theorem State.noticeDue_aud : s.noticeDue.aud = s.aud := (sbn_noticeDue s).aud
@[simp] theorem State.noticeDue_pmg : s.noticeDue.pmg = s.pmg := (sbn_noticeDue s).pmg
@[simp] theorem State.noticeDue_prr : s.noticeDue.prr = s.prr := (sbn_noticeDue s).prr
@[simp] theorem State.noticeDue_pending : s.noticeDue.pending = s.pending := (sbn_noticeDue s).pending
@[simp] theorem State.noticeDue_tlc_link : s.noticeDue.tlc.link = s.tlc.link := (sbn_noticeDue s).link
@[simp] theorem State.noticeDue_tlc_features : s.noticeDue.tlc.features = s.tlc.features := (sbn_noticeDue s).features
@[simp] theorem State.noticeDue_tlc_offer : s.noticeDue.tlc.offer = s.tlc.offer := (sbn_noticeDue s).offer
@[simp] theorem State.noticeDue_tlc_lineDelay : s.noticeDue.tlc.lineDelay = s.tlc.lineDelay := (sbn_noticeDue s).lineDelay
@[simp] theorem State.noticeDue_tlc_offset : s.noticeDue.tlc.offset = s.tlc.offset := (sbn_noticeDue s).offset
@[simp] theorem State.noticeDue_tlc_basis : s.noticeDue.tlc.basis = s.tlc.basis := (sbn_noticeDue s).basis
@[simp] theorem State.noticeDue_tlc_crcCount : s.noticeDue.tlc.crcCount = s.tlc.crcCount := (sbn_noticeDue s).crcCount
@[simp] theorem State.noticeDue_tlc_threshold : s.noticeDue.tlc.threshold = s.tlc.threshold := (sbn_noticeDue s).threshold
@[simp] theorem State.noticeDue_tlc_sleepPending : s.noticeDue.tlc.sleepPending = s.tlc.sleepPending := (sbn_noticeDue s).sleepPending
@[simp] theorem State.noticeDue_tlc_stepMotion : s.noticeDue.tlc.stepMotion = s.tlc.stepMotion := (sbn_noticeDue s).stepMotion
@[simp] theorem State.noticeDue_tlc_stepCapture : s.noticeDue.tlc.stepCapture = s.tlc.stepCapture := (sbn_noticeDue s).stepCapture
@[simp] theorem State.noticeDue_tlc_stepBeat : s.noticeDue.tlc.stepBeat = s.tlc.stepBeat := (sbn_noticeDue s).stepBeat
@[simp] theorem State.noticeDue_tlc_beacons : s.noticeDue.tlc.beacons = s.tlc.beacons := (sbn_noticeDue s).beacons
@[simp] theorem State.noticeDue_cmu_role : s.noticeDue.cmu.role = s.cmu.role := (sbn_noticeDue s).role
@[simp] theorem State.noticeDue_cmu_queue : s.noticeDue.cmu.queue = s.cmu.queue := (sbn_noticeDue s).queue
@[simp] theorem State.noticeDue_cmu_storeState : s.noticeDue.cmu.storeState = s.cmu.storeState := (sbn_noticeDue s).storeState
@[simp] theorem State.noticeDue_cmu_storeWhole : s.noticeDue.cmu.storeWhole = s.cmu.storeWhole := (sbn_noticeDue s).storeWhole
@[simp] theorem State.noticeDue_cmu_rx : s.noticeDue.cmu.rx = s.cmu.rx := (sbn_noticeDue s).rx
@[simp] theorem State.noticeDue_cmu_rxLast : s.noticeDue.cmu.rxLast = s.cmu.rxLast := (sbn_noticeDue s).rxLast
@[simp] theorem State.noticeDue_cmu_restart : s.noticeDue.cmu.restart = s.cmu.restart := (sbn_noticeDue s).restart
@[simp] theorem State.noticeDue_ntu_enabled : s.noticeDue.ntu.enabled = s.ntu.enabled := (sbn_noticeDue s).enabled
@[simp] theorem State.noticeDue_ntu_holdoff : s.noticeDue.ntu.holdoff = s.ntu.holdoff := (sbn_noticeDue s).holdoff
@[simp] theorem State.noticeDue_count (d : Counter) (h : d ≠ .noticesIssued) (g : d ≠ .noticesCoalesced) :
    s.noticeDue.count d = s.count d := (sbn_noticeDue s).counts d h g
end

section
variable (s : State) 
@[simp] theorem State.issue_lt : s.issue.lt = s.lt := (sbn_issue s).lt
@[simp] theorem State.issue_straps : s.issue.straps = s.straps := (sbn_issue s).straps
@[simp] theorem State.issue_loaded : s.issue.loaded = s.loaded := (sbn_issue s).loaded
@[simp] theorem State.issue_msu : s.issue.msu = s.msu := (sbn_issue s).msu
@[simp] theorem State.issue_oin : s.issue.oin = s.oin := (sbn_issue s).oin
@[simp] theorem State.issue_fst : s.issue.fst = s.fst := (sbn_issue s).fst
@[simp] theorem State.issue_sou : s.issue.sou = s.sou := (sbn_issue s).sou
@[simp] theorem State.issue_ilg : s.issue.ilg = s.ilg := (sbn_issue s).ilg
@[simp] theorem State.issue_aud : s.issue.aud = s.aud := (sbn_issue s).aud
@[simp] theorem State.issue_pmg : s.issue.pmg = s.pmg := (sbn_issue s).pmg
@[simp] theorem State.issue_prr : s.issue.prr = s.prr := (sbn_issue s).prr
@[simp] theorem State.issue_pending : s.issue.pending = s.pending := (sbn_issue s).pending
@[simp] theorem State.issue_tlc_link : s.issue.tlc.link = s.tlc.link := (sbn_issue s).link
@[simp] theorem State.issue_tlc_features : s.issue.tlc.features = s.tlc.features := (sbn_issue s).features
@[simp] theorem State.issue_tlc_offer : s.issue.tlc.offer = s.tlc.offer := (sbn_issue s).offer
@[simp] theorem State.issue_tlc_lineDelay : s.issue.tlc.lineDelay = s.tlc.lineDelay := (sbn_issue s).lineDelay
@[simp] theorem State.issue_tlc_offset : s.issue.tlc.offset = s.tlc.offset := (sbn_issue s).offset
@[simp] theorem State.issue_tlc_basis : s.issue.tlc.basis = s.tlc.basis := (sbn_issue s).basis
@[simp] theorem State.issue_tlc_crcCount : s.issue.tlc.crcCount = s.tlc.crcCount := (sbn_issue s).crcCount
@[simp] theorem State.issue_tlc_threshold : s.issue.tlc.threshold = s.tlc.threshold := (sbn_issue s).threshold
@[simp] theorem State.issue_tlc_sleepPending : s.issue.tlc.sleepPending = s.tlc.sleepPending := (sbn_issue s).sleepPending
@[simp] theorem State.issue_tlc_stepMotion : s.issue.tlc.stepMotion = s.tlc.stepMotion := (sbn_issue s).stepMotion
@[simp] theorem State.issue_tlc_stepCapture : s.issue.tlc.stepCapture = s.tlc.stepCapture := (sbn_issue s).stepCapture
@[simp] theorem State.issue_tlc_stepBeat : s.issue.tlc.stepBeat = s.tlc.stepBeat := (sbn_issue s).stepBeat
@[simp] theorem State.issue_tlc_beacons : s.issue.tlc.beacons = s.tlc.beacons := (sbn_issue s).beacons
@[simp] theorem State.issue_cmu_role : s.issue.cmu.role = s.cmu.role := (sbn_issue s).role
@[simp] theorem State.issue_cmu_queue : s.issue.cmu.queue = s.cmu.queue := (sbn_issue s).queue
@[simp] theorem State.issue_cmu_storeState : s.issue.cmu.storeState = s.cmu.storeState := (sbn_issue s).storeState
@[simp] theorem State.issue_cmu_storeWhole : s.issue.cmu.storeWhole = s.cmu.storeWhole := (sbn_issue s).storeWhole
@[simp] theorem State.issue_cmu_rx : s.issue.cmu.rx = s.cmu.rx := (sbn_issue s).rx
@[simp] theorem State.issue_cmu_rxLast : s.issue.cmu.rxLast = s.cmu.rxLast := (sbn_issue s).rxLast
@[simp] theorem State.issue_cmu_restart : s.issue.cmu.restart = s.cmu.restart := (sbn_issue s).restart
@[simp] theorem State.issue_ntu_enabled : s.issue.ntu.enabled = s.ntu.enabled := (sbn_issue s).enabled
@[simp] theorem State.issue_ntu_holdoff : s.issue.ntu.holdoff = s.ntu.holdoff := (sbn_issue s).holdoff
@[simp] theorem State.issue_count (d : Counter) (h : d ≠ .noticesIssued) (g : d ≠ .noticesCoalesced) :
    s.issue.count d = s.count d := (sbn_issue s).counts d h g
end

section
variable (s : State) (c : Condition)
@[simp] theorem State.raise_lt : (s.raise c).lt = s.lt := (sbn_raise s c).lt
@[simp] theorem State.raise_straps : (s.raise c).straps = s.straps := (sbn_raise s c).straps
@[simp] theorem State.raise_loaded : (s.raise c).loaded = s.loaded := (sbn_raise s c).loaded
@[simp] theorem State.raise_msu : (s.raise c).msu = s.msu := (sbn_raise s c).msu
@[simp] theorem State.raise_oin : (s.raise c).oin = s.oin := (sbn_raise s c).oin
@[simp] theorem State.raise_fst : (s.raise c).fst = s.fst := (sbn_raise s c).fst
@[simp] theorem State.raise_sou : (s.raise c).sou = s.sou := (sbn_raise s c).sou
@[simp] theorem State.raise_ilg : (s.raise c).ilg = s.ilg := (sbn_raise s c).ilg
@[simp] theorem State.raise_aud : (s.raise c).aud = s.aud := (sbn_raise s c).aud
@[simp] theorem State.raise_pmg : (s.raise c).pmg = s.pmg := (sbn_raise s c).pmg
@[simp] theorem State.raise_prr : (s.raise c).prr = s.prr := (sbn_raise s c).prr
@[simp] theorem State.raise_pending : (s.raise c).pending = s.pending := (sbn_raise s c).pending
@[simp] theorem State.raise_tlc_link : (s.raise c).tlc.link = s.tlc.link := (sbn_raise s c).link
@[simp] theorem State.raise_tlc_features : (s.raise c).tlc.features = s.tlc.features := (sbn_raise s c).features
@[simp] theorem State.raise_tlc_offer : (s.raise c).tlc.offer = s.tlc.offer := (sbn_raise s c).offer
@[simp] theorem State.raise_tlc_lineDelay : (s.raise c).tlc.lineDelay = s.tlc.lineDelay := (sbn_raise s c).lineDelay
@[simp] theorem State.raise_tlc_offset : (s.raise c).tlc.offset = s.tlc.offset := (sbn_raise s c).offset
@[simp] theorem State.raise_tlc_basis : (s.raise c).tlc.basis = s.tlc.basis := (sbn_raise s c).basis
@[simp] theorem State.raise_tlc_crcCount : (s.raise c).tlc.crcCount = s.tlc.crcCount := (sbn_raise s c).crcCount
@[simp] theorem State.raise_tlc_threshold : (s.raise c).tlc.threshold = s.tlc.threshold := (sbn_raise s c).threshold
@[simp] theorem State.raise_tlc_sleepPending : (s.raise c).tlc.sleepPending = s.tlc.sleepPending := (sbn_raise s c).sleepPending
@[simp] theorem State.raise_tlc_stepMotion : (s.raise c).tlc.stepMotion = s.tlc.stepMotion := (sbn_raise s c).stepMotion
@[simp] theorem State.raise_tlc_stepCapture : (s.raise c).tlc.stepCapture = s.tlc.stepCapture := (sbn_raise s c).stepCapture
@[simp] theorem State.raise_tlc_stepBeat : (s.raise c).tlc.stepBeat = s.tlc.stepBeat := (sbn_raise s c).stepBeat
@[simp] theorem State.raise_tlc_beacons : (s.raise c).tlc.beacons = s.tlc.beacons := (sbn_raise s c).beacons
@[simp] theorem State.raise_cmu_role : (s.raise c).cmu.role = s.cmu.role := (sbn_raise s c).role
@[simp] theorem State.raise_cmu_queue : (s.raise c).cmu.queue = s.cmu.queue := (sbn_raise s c).queue
@[simp] theorem State.raise_cmu_storeState : (s.raise c).cmu.storeState = s.cmu.storeState := (sbn_raise s c).storeState
@[simp] theorem State.raise_cmu_storeWhole : (s.raise c).cmu.storeWhole = s.cmu.storeWhole := (sbn_raise s c).storeWhole
@[simp] theorem State.raise_cmu_rx : (s.raise c).cmu.rx = s.cmu.rx := (sbn_raise s c).rx
@[simp] theorem State.raise_cmu_rxLast : (s.raise c).cmu.rxLast = s.cmu.rxLast := (sbn_raise s c).rxLast
@[simp] theorem State.raise_cmu_restart : (s.raise c).cmu.restart = s.cmu.restart := (sbn_raise s c).restart
@[simp] theorem State.raise_ntu_enabled : (s.raise c).ntu.enabled = s.ntu.enabled := (sbn_raise s c).enabled
@[simp] theorem State.raise_ntu_holdoff : (s.raise c).ntu.holdoff = s.ntu.holdoff := (sbn_raise s c).holdoff
@[simp] theorem State.raise_count (d : Counter) (h : d ≠ .noticesIssued) (g : d ≠ .noticesCoalesced) :
    (s.raise c).count d = s.count d := (sbn_raise s c).counts d h g
end

section
variable (s : State) (c : Condition)
@[simp] theorem State.lower_lt : (s.lower c).lt = s.lt := (sbn_lower s c).lt
@[simp] theorem State.lower_straps : (s.lower c).straps = s.straps := (sbn_lower s c).straps
@[simp] theorem State.lower_loaded : (s.lower c).loaded = s.loaded := (sbn_lower s c).loaded
@[simp] theorem State.lower_msu : (s.lower c).msu = s.msu := (sbn_lower s c).msu
@[simp] theorem State.lower_oin : (s.lower c).oin = s.oin := (sbn_lower s c).oin
@[simp] theorem State.lower_fst : (s.lower c).fst = s.fst := (sbn_lower s c).fst
@[simp] theorem State.lower_sou : (s.lower c).sou = s.sou := (sbn_lower s c).sou
@[simp] theorem State.lower_ilg : (s.lower c).ilg = s.ilg := (sbn_lower s c).ilg
@[simp] theorem State.lower_aud : (s.lower c).aud = s.aud := (sbn_lower s c).aud
@[simp] theorem State.lower_pmg : (s.lower c).pmg = s.pmg := (sbn_lower s c).pmg
@[simp] theorem State.lower_prr : (s.lower c).prr = s.prr := (sbn_lower s c).prr
@[simp] theorem State.lower_pending : (s.lower c).pending = s.pending := (sbn_lower s c).pending
@[simp] theorem State.lower_tlc_link : (s.lower c).tlc.link = s.tlc.link := (sbn_lower s c).link
@[simp] theorem State.lower_tlc_features : (s.lower c).tlc.features = s.tlc.features := (sbn_lower s c).features
@[simp] theorem State.lower_tlc_offer : (s.lower c).tlc.offer = s.tlc.offer := (sbn_lower s c).offer
@[simp] theorem State.lower_tlc_lineDelay : (s.lower c).tlc.lineDelay = s.tlc.lineDelay := (sbn_lower s c).lineDelay
@[simp] theorem State.lower_tlc_offset : (s.lower c).tlc.offset = s.tlc.offset := (sbn_lower s c).offset
@[simp] theorem State.lower_tlc_basis : (s.lower c).tlc.basis = s.tlc.basis := (sbn_lower s c).basis
@[simp] theorem State.lower_tlc_crcCount : (s.lower c).tlc.crcCount = s.tlc.crcCount := (sbn_lower s c).crcCount
@[simp] theorem State.lower_tlc_threshold : (s.lower c).tlc.threshold = s.tlc.threshold := (sbn_lower s c).threshold
@[simp] theorem State.lower_tlc_sleepPending : (s.lower c).tlc.sleepPending = s.tlc.sleepPending := (sbn_lower s c).sleepPending
@[simp] theorem State.lower_tlc_stepMotion : (s.lower c).tlc.stepMotion = s.tlc.stepMotion := (sbn_lower s c).stepMotion
@[simp] theorem State.lower_tlc_stepCapture : (s.lower c).tlc.stepCapture = s.tlc.stepCapture := (sbn_lower s c).stepCapture
@[simp] theorem State.lower_tlc_stepBeat : (s.lower c).tlc.stepBeat = s.tlc.stepBeat := (sbn_lower s c).stepBeat
@[simp] theorem State.lower_tlc_beacons : (s.lower c).tlc.beacons = s.tlc.beacons := (sbn_lower s c).beacons
@[simp] theorem State.lower_cmu_role : (s.lower c).cmu.role = s.cmu.role := (sbn_lower s c).role
@[simp] theorem State.lower_cmu_queue : (s.lower c).cmu.queue = s.cmu.queue := (sbn_lower s c).queue
@[simp] theorem State.lower_cmu_storeState : (s.lower c).cmu.storeState = s.cmu.storeState := (sbn_lower s c).storeState
@[simp] theorem State.lower_cmu_storeWhole : (s.lower c).cmu.storeWhole = s.cmu.storeWhole := (sbn_lower s c).storeWhole
@[simp] theorem State.lower_cmu_rx : (s.lower c).cmu.rx = s.cmu.rx := (sbn_lower s c).rx
@[simp] theorem State.lower_cmu_rxLast : (s.lower c).cmu.rxLast = s.cmu.rxLast := (sbn_lower s c).rxLast
@[simp] theorem State.lower_cmu_restart : (s.lower c).cmu.restart = s.cmu.restart := (sbn_lower s c).restart
@[simp] theorem State.lower_ntu_enabled : (s.lower c).ntu.enabled = s.ntu.enabled := (sbn_lower s c).enabled
@[simp] theorem State.lower_ntu_holdoff : (s.lower c).ntu.holdoff = s.ntu.holdoff := (sbn_lower s c).holdoff
@[simp] theorem State.lower_count (d : Counter) (h : d ≠ .noticesIssued) (g : d ≠ .noticesCoalesced) :
    (s.lower c).count d = s.count d := (sbn_lower s c).counts d h g
end

section
variable (s : State) (c : Condition) (b : Bool)
@[simp] theorem State.follow_lt : (s.follow c b).lt = s.lt := (sbn_follow s c b).lt
@[simp] theorem State.follow_straps : (s.follow c b).straps = s.straps := (sbn_follow s c b).straps
@[simp] theorem State.follow_loaded : (s.follow c b).loaded = s.loaded := (sbn_follow s c b).loaded
@[simp] theorem State.follow_msu : (s.follow c b).msu = s.msu := (sbn_follow s c b).msu
@[simp] theorem State.follow_oin : (s.follow c b).oin = s.oin := (sbn_follow s c b).oin
@[simp] theorem State.follow_fst : (s.follow c b).fst = s.fst := (sbn_follow s c b).fst
@[simp] theorem State.follow_sou : (s.follow c b).sou = s.sou := (sbn_follow s c b).sou
@[simp] theorem State.follow_ilg : (s.follow c b).ilg = s.ilg := (sbn_follow s c b).ilg
@[simp] theorem State.follow_aud : (s.follow c b).aud = s.aud := (sbn_follow s c b).aud
@[simp] theorem State.follow_pmg : (s.follow c b).pmg = s.pmg := (sbn_follow s c b).pmg
@[simp] theorem State.follow_prr : (s.follow c b).prr = s.prr := (sbn_follow s c b).prr
@[simp] theorem State.follow_pending : (s.follow c b).pending = s.pending := (sbn_follow s c b).pending
@[simp] theorem State.follow_tlc_link : (s.follow c b).tlc.link = s.tlc.link := (sbn_follow s c b).link
@[simp] theorem State.follow_tlc_features : (s.follow c b).tlc.features = s.tlc.features := (sbn_follow s c b).features
@[simp] theorem State.follow_tlc_offer : (s.follow c b).tlc.offer = s.tlc.offer := (sbn_follow s c b).offer
@[simp] theorem State.follow_tlc_lineDelay : (s.follow c b).tlc.lineDelay = s.tlc.lineDelay := (sbn_follow s c b).lineDelay
@[simp] theorem State.follow_tlc_offset : (s.follow c b).tlc.offset = s.tlc.offset := (sbn_follow s c b).offset
@[simp] theorem State.follow_tlc_basis : (s.follow c b).tlc.basis = s.tlc.basis := (sbn_follow s c b).basis
@[simp] theorem State.follow_tlc_crcCount : (s.follow c b).tlc.crcCount = s.tlc.crcCount := (sbn_follow s c b).crcCount
@[simp] theorem State.follow_tlc_threshold : (s.follow c b).tlc.threshold = s.tlc.threshold := (sbn_follow s c b).threshold
@[simp] theorem State.follow_tlc_sleepPending : (s.follow c b).tlc.sleepPending = s.tlc.sleepPending := (sbn_follow s c b).sleepPending
@[simp] theorem State.follow_tlc_stepMotion : (s.follow c b).tlc.stepMotion = s.tlc.stepMotion := (sbn_follow s c b).stepMotion
@[simp] theorem State.follow_tlc_stepCapture : (s.follow c b).tlc.stepCapture = s.tlc.stepCapture := (sbn_follow s c b).stepCapture
@[simp] theorem State.follow_tlc_stepBeat : (s.follow c b).tlc.stepBeat = s.tlc.stepBeat := (sbn_follow s c b).stepBeat
@[simp] theorem State.follow_tlc_beacons : (s.follow c b).tlc.beacons = s.tlc.beacons := (sbn_follow s c b).beacons
@[simp] theorem State.follow_cmu_role : (s.follow c b).cmu.role = s.cmu.role := (sbn_follow s c b).role
@[simp] theorem State.follow_cmu_queue : (s.follow c b).cmu.queue = s.cmu.queue := (sbn_follow s c b).queue
@[simp] theorem State.follow_cmu_storeState : (s.follow c b).cmu.storeState = s.cmu.storeState := (sbn_follow s c b).storeState
@[simp] theorem State.follow_cmu_storeWhole : (s.follow c b).cmu.storeWhole = s.cmu.storeWhole := (sbn_follow s c b).storeWhole
@[simp] theorem State.follow_cmu_rx : (s.follow c b).cmu.rx = s.cmu.rx := (sbn_follow s c b).rx
@[simp] theorem State.follow_cmu_rxLast : (s.follow c b).cmu.rxLast = s.cmu.rxLast := (sbn_follow s c b).rxLast
@[simp] theorem State.follow_cmu_restart : (s.follow c b).cmu.restart = s.cmu.restart := (sbn_follow s c b).restart
@[simp] theorem State.follow_ntu_enabled : (s.follow c b).ntu.enabled = s.ntu.enabled := (sbn_follow s c b).enabled
@[simp] theorem State.follow_ntu_holdoff : (s.follow c b).ntu.holdoff = s.ntu.holdoff := (sbn_follow s c b).holdoff
@[simp] theorem State.follow_count (d : Counter) (h : d ≠ .noticesIssued) (g : d ≠ .noticesCoalesced) :
    (s.follow c b).count d = s.count d := (sbn_follow s c b).counts d h g
end

section
variable (s : State) (p : Port) (r : MessageRole) (v : List Byte)
@[simp] theorem State.place_lt : (s.place p r v).lt = s.lt := (sbn_place s p r v).lt
@[simp] theorem State.place_straps : (s.place p r v).straps = s.straps := (sbn_place s p r v).straps
@[simp] theorem State.place_loaded : (s.place p r v).loaded = s.loaded := (sbn_place s p r v).loaded
@[simp] theorem State.place_msu : (s.place p r v).msu = s.msu := (sbn_place s p r v).msu
@[simp] theorem State.place_oin : (s.place p r v).oin = s.oin := (sbn_place s p r v).oin
@[simp] theorem State.place_fst : (s.place p r v).fst = s.fst := (sbn_place s p r v).fst
@[simp] theorem State.place_sou : (s.place p r v).sou = s.sou := (sbn_place s p r v).sou
@[simp] theorem State.place_ilg : (s.place p r v).ilg = s.ilg := (sbn_place s p r v).ilg
@[simp] theorem State.place_aud : (s.place p r v).aud = s.aud := (sbn_place s p r v).aud
@[simp] theorem State.place_pmg : (s.place p r v).pmg = s.pmg := (sbn_place s p r v).pmg
@[simp] theorem State.place_prr : (s.place p r v).prr = s.prr := (sbn_place s p r v).prr
@[simp] theorem State.place_pending : (s.place p r v).pending = s.pending := (sbn_place s p r v).pending
@[simp] theorem State.place_tlc_link : (s.place p r v).tlc.link = s.tlc.link := (sbn_place s p r v).link
@[simp] theorem State.place_tlc_features : (s.place p r v).tlc.features = s.tlc.features := (sbn_place s p r v).features
@[simp] theorem State.place_tlc_offer : (s.place p r v).tlc.offer = s.tlc.offer := (sbn_place s p r v).offer
@[simp] theorem State.place_tlc_lineDelay : (s.place p r v).tlc.lineDelay = s.tlc.lineDelay := (sbn_place s p r v).lineDelay
@[simp] theorem State.place_tlc_offset : (s.place p r v).tlc.offset = s.tlc.offset := (sbn_place s p r v).offset
@[simp] theorem State.place_tlc_basis : (s.place p r v).tlc.basis = s.tlc.basis := (sbn_place s p r v).basis
@[simp] theorem State.place_tlc_crcCount : (s.place p r v).tlc.crcCount = s.tlc.crcCount := (sbn_place s p r v).crcCount
@[simp] theorem State.place_tlc_threshold : (s.place p r v).tlc.threshold = s.tlc.threshold := (sbn_place s p r v).threshold
@[simp] theorem State.place_tlc_sleepPending : (s.place p r v).tlc.sleepPending = s.tlc.sleepPending := (sbn_place s p r v).sleepPending
@[simp] theorem State.place_tlc_stepMotion : (s.place p r v).tlc.stepMotion = s.tlc.stepMotion := (sbn_place s p r v).stepMotion
@[simp] theorem State.place_tlc_stepCapture : (s.place p r v).tlc.stepCapture = s.tlc.stepCapture := (sbn_place s p r v).stepCapture
@[simp] theorem State.place_tlc_stepBeat : (s.place p r v).tlc.stepBeat = s.tlc.stepBeat := (sbn_place s p r v).stepBeat
@[simp] theorem State.place_tlc_beacons : (s.place p r v).tlc.beacons = s.tlc.beacons := (sbn_place s p r v).beacons
@[simp] theorem State.place_cmu_role : (s.place p r v).cmu.role = s.cmu.role := (sbn_place s p r v).role
@[simp] theorem State.place_cmu_queue : (s.place p r v).cmu.queue = s.cmu.queue := (sbn_place s p r v).queue
@[simp] theorem State.place_cmu_storeState : (s.place p r v).cmu.storeState = s.cmu.storeState := (sbn_place s p r v).storeState
@[simp] theorem State.place_cmu_storeWhole : (s.place p r v).cmu.storeWhole = s.cmu.storeWhole := (sbn_place s p r v).storeWhole
@[simp] theorem State.place_cmu_rx : (s.place p r v).cmu.rx = s.cmu.rx := (sbn_place s p r v).rx
@[simp] theorem State.place_cmu_rxLast : (s.place p r v).cmu.rxLast = s.cmu.rxLast := (sbn_place s p r v).rxLast
@[simp] theorem State.place_cmu_restart : (s.place p r v).cmu.restart = s.cmu.restart := (sbn_place s p r v).restart
@[simp] theorem State.place_ntu_enabled : (s.place p r v).ntu.enabled = s.ntu.enabled := (sbn_place s p r v).enabled
@[simp] theorem State.place_ntu_holdoff : (s.place p r v).ntu.holdoff = s.ntu.holdoff := (sbn_place s p r v).holdoff
@[simp] theorem State.place_count (d : Counter) (h : d ≠ .noticesIssued) (g : d ≠ .noticesCoalesced) :
    (s.place p r v).count d = s.count d := (sbn_place s p r v).counts d h g
end

end Sys2Proof.Machine
end

