-- ==== Sys2Proof/Laws/Conditions.lean ====
section
/-! SUPPORT. The condition masks (R183, R211): what is in a mask after a condition is put in or taken out. -/

namespace Sys2Proof.Machine

theorem find_place (c : Condition) : Condition.all.find? (fun d => decide (d.place = c.place)) = some c := by
  cases c <;> rfl

/-- R211: no two conditions share a bit. -/
theorem place_inj (c d : Condition) (h : c.place = d.place) : c = d := by
  have hc := find_place c
  rw [h, find_place d] at hc
  exact (Option.some.inj hc).symm

theorem place_lt (c : Condition) : c.place.2 < 16 := by cases c <;> decide

theorem and_twoPow_ne (x : BitVec 16) (i : Nat) (h : i < 16) : (x &&& BitVec.twoPow 16 i != 0) = x.getLsbD i := by
  rw [Bool.eq_iff_iff, bne_iff_ne]
  constructor
  · intro n
    by_cases e : x.getLsbD i = true
    · exact e
    · refine absurd ?_ n
      ext j hj
      simp only [BitVec.getElem_and, BitVec.getElem_twoPow]
      by_cases k : j = i
      · subst k; simp_all
      · simp [k]
  · intro n e
    have := congrArg (fun y : BitVec 16 => y.getLsbD i) e
    simp [h] at this
    rw [← BitVec.getLsbD_eq_getElem] at this
    simp_all

theorem has_eq (m : Masks) (c : Condition) : m.has c = (m.get c.set).getLsbD c.place.2 :=
  and_twoPow_ne _ _ (place_lt c)

@[simp] theorem Masks.get_set (m : Masks) (c d : CondSet) (v : BitVec 16) :
    (m.set c v).get d = if d = c then v else m.get d := by cases c <;> cases d <;> rfl

/-- R183: what is pending or enabled after a condition is put in. -/
@[simp] theorem Masks.has_put (m : Masks) (c d : Condition) : (m.put c).has d = (decide (d = c) || m.has d) := by
  rw [has_eq, has_eq, Masks.put, Masks.get_set]
  by_cases e : d = c
  · subst e; simp [Condition.bit, place_lt]
  · by_cases f : d.set = c.set
    · have g : c.place.2 ≠ d.place.2 := fun g => e (place_inj _ _ (Prod.ext f g.symm))
      simp [f, e, Condition.bit, g]
    · simp [f, e]

/-- R183: what is pending or enabled after a condition is taken out. -/
@[simp] theorem Masks.has_drop (m : Masks) (c d : Condition) : (m.drop c).has d = (!decide (d = c) && m.has d) := by
  rw [has_eq, has_eq, Masks.drop, Masks.get_set]
  by_cases e : d = c
  · subst e; simp [Condition.bit, place_lt]
  · by_cases f : d.set = c.set
    · have g : c.place.2 ≠ d.place.2 := fun g => e (place_inj _ _ (Prod.ext f g.symm))
      simp [f, e, Condition.bit, Ne.symm g, place_lt]
    · simp [f, e]

end Sys2Proof.Machine
end

