-- ==== Sys2Proof/Laws/Audio.lean ====
section
/-!
SUPPORT. The drift servo (R132 to R134): what an adjustment and a sample of the fill do, said once.
-/

namespace Sys2Proof.Machine

/-- R134: an adjustment moves the drift run, and the tenth in a row sets it to zero; nothing else of the ATU. -/
@[simp] theorem adjusted_aud (s : State) (d : Adjust) :
    (s.adjusted d).aud =
      if 10 ≤ (s.aud.runOn d).runLength then { s.aud.runOn d with runLength := 0 } else s.aud.runOn d := by
  unfold State.adjusted
  by_cases h : 10 ≤ (s.aud.runOn d).runLength <;> simp [h]

/-- R133, R134: the counter of the adjustment moves, and DRIFT_LIMITS with the tenth in a row. -/
theorem adjusted_count (s : State) (d : Adjust) (c : Counter) (h : c ≠ .noticesIssued) (g : c ≠ .noticesCoalesced) :
    (s.adjusted d).count c =
      let made := match d with
        | .removal => Counter.driftRemovals
        | .insertion => .driftInsertions
      if c = made ∨ c = .driftLimits ∧ 10 ≤ (s.aud.runOn d).runLength then oneMore (s.count c) else s.count c := by
  unfold State.adjusted
  by_cases k : 10 ≤ (s.aud.runOn d).runLength <;>
    simp [k, (sbn_raise _ _).counts _ h g, oneMore] <;> cases d <;> cases c <;> simp_all

/-- R134: the tenth adjustment in a row raises DRIFT_LIMIT. -/
theorem adjusted_limit (s : State) (d : Adjust) (h : 10 ≤ (s.aud.runOn d).runLength) :
    (s.adjusted d).ntu.pending.has .driftLimit = true := by
  unfold State.adjusted
  simp [h]

/-- R132, R134: a sample of the fill moves the window, its decision and the drift run alone. -/
theorem sampleFill_eq (a : Aud) :
    a.sampleFill = { a with
      window := a.sampleFill.window, lastErr := a.sampleFill.lastErr, due := a.sampleFill.due
      runLength := a.sampleFill.runLength } := by
  unfold Aud.sampleFill
  split
  · dsimp only
    split <;> rfl
  · rfl

end Sys2Proof.Machine
end

