-- ==== Sys2Proof/Laws/PerInstr.lean ====
section
/-!
SUPPORT. Statements made command by command. The family `Coded`: a row that carries out a request names a
payload that its port can send, and a kind byte of the request table (R211), but for UNKNOWN_KIND, whose byte is none of them.
-/

namespace Sys2Proof.Laws

open Sys2Proof.Machine

/-- The request that a row carries out: its port, kind byte and payload. -/
def requestOf : Instr → Option (Port × Byte × List Byte)
  | .unknownKind p _ kind q => some (p, kind, q)
  | .attach p _ q => some (p, ReqKind.attach.code, q)
  | .detach p _ q => some (p, ReqKind.detach.code, q)
  | .getInfo p _ q => some (p, ReqKind.getInfo.code, q)
  | .getStatus p _ q => some (p, ReqKind.getStatus.code, q)
  | .restart p _ q => some (p, ReqKind.restart.code, q)
  | .linkSleep p _ q => some (p, ReqKind.linkSleep.code, q)
  | .setSensorRate p _ q => some (p, ReqKind.setSensorRate.code, q)
  | .setWear p _ q => some (p, ReqKind.setWear.code, q)
  | .setAxisMap p _ q => some (p, ReqKind.setAxisMap.code, q)
  | .selectPrimary p _ q => some (p, ReqKind.selectPrimary.code, q)
  | .anchor p _ q => some (p, ReqKind.anchor.code, q)
  | .setPoseOverride p _ q => some (p, ReqKind.setPoseOverride.code, q)
  | .clearPoseOverride p _ q => some (p, ReqKind.clearPoseOverride.code, q)
  | .setProfile p _ q => some (p, ReqKind.setProfile.code, q)
  | .stagePulses p _ q => some (p, ReqKind.stagePulses.code, q)
  | .setVolume p _ q => some (p, ReqKind.setVolume.code, q)
  | .setCapture p _ q => some (p, ReqKind.setCapture.code, q)
  | .setPowerLimits p _ q => some (p, ReqKind.setPowerLimits.code, q)
  | .setCableResistance p _ q => some (p, ReqKind.setCableResistance.code, q)
  | .railRestart p _ q => some (p, ReqKind.railRestart.code, q)
  | .startProcedure p _ q => some (p, ReqKind.startProcedure.code, q)
  | .abortProcedure p _ q => some (p, ReqKind.abortProcedure.code, q)
  | .getProcedureResult p _ q => some (p, ReqKind.getProcedureResult.code, q)
  | .readConditions p _ q => some (p, ReqKind.readConditions.code, q)
  | .readCounters p _ q => some (p, ReqKind.readCounters.code, q)
  | .clearConditions p _ q => some (p, ReqKind.clearConditions.code, q)
  | .setNoticeMask p _ q => some (p, ReqKind.setNoticeMask.code, q)
  | .powerOn _ | .storeLoadComplete _ | .inputMeasurement _ _ | .railPowerGood _ | .railRampTimeout _
  | .powerGoodWithdrawn _
  | .trainingRecordReceived _ _ | .trainingAttemptSucceeds _ | .trainingAttemptTimeout | .symbolLockLost _
  | .retrainAttemptSucceeds _ | .retrainAttemptTimeout | .retryTimerExpiry | .lineEnergyDetected
  | .linkBlockDiscarded _ | .crcWindowBoundary | .timeMark _ | .timeBasisFree | .sleepMark _ | .statusBeatDue
  | .upstreamBlockSent | .frameBegin _ | .lines _ | .frameEnd _ | .sound _ | .controlBlockReceived _
  | .serviceFrameReceived _ | .serviceByteTimeout | .serviceFrameSent | .biasCalCollectionEnd | .storeWriteComplete
  | .storeReadbackComplete _ | .sampleTick | .sampleReadEnd _ _ | .imuStartupTransaction _ _ | .imuStartupTimeout _
  | .imuRetryExpiry _ | .silenceWatchExpiry | .poseStale | .wearReadTick | .wearReadDone _ | .awayTimerExpiry
  | .blankStart | .illumPulseStart _ | .illumPulseEnd _ | .outputInstant _ _ | .attenuationRampStep
  | .holdoffExpiry | .quietHoldEnd => none

/-- Whether a row is UNKNOWN_KIND. -/
def isUnknown : Instr → Bool
  | .unknownKind .. => true
  | _ => false

/-- What the family says of one command. -/
def Coded.Statement (i : Instr) : Prop :=
  i.wellFormed = true → ∀ p kind q, requestOf i = some (p, kind, q) →
    requestPayload p q = true ∧ knownKind kind = !isUnknown i

/-- A row that carries out no request. -/
theorem coded_none (i : Instr) (h : requestOf i = none) : Coded.Statement i := by
  intro _ p kind q hr
  rw [h] at hr
  cases hr

/-- A row that carries out a request of the table. -/
theorem coded_request (i : Instr) (k : ReqKind) (p : Port) (q : List Byte) (h : requestOf i = some (p, k.code, q))
    (hw : i.wellFormed = requestPayload p q) (hu : isUnknown i = false) : Coded.Statement i := by
  intro w p' kind q' hr
  rw [h] at hr
  cases hr
  rw [hu]
  exact ⟨hw ▸ w, by cases k <;> rfl⟩

variable (port : Port) (tag : Byte) (payload : List Byte)

theorem Coded.powerOn (straps : Straps) : Coded.Statement (.powerOn straps) := coded_none _ rfl

theorem Coded.storeLoadComplete (read : Option (List Byte)) :
    Coded.Statement (.storeLoadComplete read) := coded_none _ rfl

theorem Coded.inputMeasurement (vin iin : Nat) : Coded.Statement (.inputMeasurement vin iin) := coded_none _ rfl

theorem Coded.railPowerGood (r : Rail) : Coded.Statement (.railPowerGood r) := coded_none _ rfl

theorem Coded.railRampTimeout (r : Rail) : Coded.Statement (.railRampTimeout r) := coded_none _ rfl

theorem Coded.powerGoodWithdrawn (r : Rail) : Coded.Statement (.powerGoodWithdrawn r) := coded_none _ rfl

theorem Coded.trainingRecordReceived (record : BaseRecord) (locked : BitVec 4) :
    Coded.Statement (.trainingRecordReceived record locked) := coded_none _ rfl

theorem Coded.trainingAttemptSucceeds (roundTrip : Nat) :
    Coded.Statement (.trainingAttemptSucceeds roundTrip) := coded_none _ rfl

theorem Coded.trainingAttemptTimeout : Coded.Statement .trainingAttemptTimeout := coded_none _ rfl

theorem Coded.symbolLockLost (lane : Fin 4) : Coded.Statement (.symbolLockLost lane) := coded_none _ rfl

theorem Coded.retrainAttemptSucceeds (roundTrip : Nat) :
    Coded.Statement (.retrainAttemptSucceeds roundTrip) := coded_none _ rfl

theorem Coded.retrainAttemptTimeout : Coded.Statement .retrainAttemptTimeout := coded_none _ rfl

theorem Coded.retryTimerExpiry : Coded.Statement .retryTimerExpiry := coded_none _ rfl

theorem Coded.lineEnergyDetected : Coded.Statement .lineEnergyDetected := coded_none _ rfl

theorem Coded.linkBlockDiscarded (block : List Byte) : Coded.Statement (.linkBlockDiscarded block) := coded_none _ rfl

theorem Coded.crcWindowBoundary : Coded.Statement .crcWindowBoundary := coded_none _ rfl

theorem Coded.timeMark (payload : List Byte) : Coded.Statement (.timeMark payload) := coded_none _ rfl

theorem Coded.timeBasisFree : Coded.Statement .timeBasisFree := coded_none _ rfl

theorem Coded.sleepMark (payload : List Byte) : Coded.Statement (.sleepMark payload) := coded_none _ rfl

theorem Coded.statusBeatDue : Coded.Statement .statusBeatDue := coded_none _ rfl

theorem Coded.upstreamBlockSent : Coded.Statement .upstreamBlockSent := coded_none _ rfl

theorem Coded.frameBegin (payload : List Byte) : Coded.Statement (.frameBegin payload) := coded_none _ rfl

theorem Coded.lines (payload : List Byte) : Coded.Statement (.lines payload) := coded_none _ rfl

theorem Coded.frameEnd (payload : List Byte) : Coded.Statement (.frameEnd payload) := coded_none _ rfl

theorem Coded.sound (payload : List Byte) : Coded.Statement (.sound payload) := coded_none _ rfl

theorem Coded.controlBlockReceived (payload : List Byte) :
    Coded.Statement (.controlBlockReceived payload) := coded_none _ rfl

theorem Coded.serviceFrameReceived (bytes : List Byte) :
    Coded.Statement (.serviceFrameReceived bytes) := coded_none _ rfl

theorem Coded.serviceByteTimeout : Coded.Statement .serviceByteTimeout := coded_none _ rfl

theorem Coded.serviceFrameSent : Coded.Statement .serviceFrameSent := coded_none _ rfl

theorem Coded.unknownKind (port : Port) (tag kind : Byte) (payload : List Byte) :
    Coded.Statement (.unknownKind port tag kind payload) := by
  intro w p' k' q' hr
  cases hr
  simp only [Instr.wellFormed, Bool.and_eq_true, Bool.or_eq_true, beq_iff_eq, decide_eq_true_eq] at w
  refine ⟨w.1, ?_⟩
  have : knownKind kind = false := by
    simp only [knownKind, Bool.and_eq_false_iff, decide_eq_false_iff_not]; omega
  simpa [isUnknown] using this

theorem Coded.attach : Coded.Statement (.attach port tag payload) :=
  coded_request _ .attach port payload rfl rfl rfl

theorem Coded.detach : Coded.Statement (.detach port tag payload) :=
  coded_request _ .detach port payload rfl rfl rfl

theorem Coded.getInfo : Coded.Statement (.getInfo port tag payload) :=
  coded_request _ .getInfo port payload rfl rfl rfl

theorem Coded.getStatus : Coded.Statement (.getStatus port tag payload) :=
  coded_request _ .getStatus port payload rfl rfl rfl

theorem Coded.restart : Coded.Statement (.restart port tag payload) :=
  coded_request _ .restart port payload rfl rfl rfl

theorem Coded.linkSleep : Coded.Statement (.linkSleep port tag payload) :=
  coded_request _ .linkSleep port payload rfl rfl rfl

theorem Coded.setSensorRate : Coded.Statement (.setSensorRate port tag payload) :=
  coded_request _ .setSensorRate port payload rfl rfl rfl

theorem Coded.setWear : Coded.Statement (.setWear port tag payload) :=
  coded_request _ .setWear port payload rfl rfl rfl

theorem Coded.setAxisMap : Coded.Statement (.setAxisMap port tag payload) :=
  coded_request _ .setAxisMap port payload rfl rfl rfl

theorem Coded.selectPrimary : Coded.Statement (.selectPrimary port tag payload) :=
  coded_request _ .selectPrimary port payload rfl rfl rfl

theorem Coded.anchor : Coded.Statement (.anchor port tag payload) :=
  coded_request _ .anchor port payload rfl rfl rfl

theorem Coded.setPoseOverride : Coded.Statement (.setPoseOverride port tag payload) :=
  coded_request _ .setPoseOverride port payload rfl rfl rfl

theorem Coded.clearPoseOverride : Coded.Statement (.clearPoseOverride port tag payload) :=
  coded_request _ .clearPoseOverride port payload rfl rfl rfl

theorem Coded.setProfile : Coded.Statement (.setProfile port tag payload) :=
  coded_request _ .setProfile port payload rfl rfl rfl

theorem Coded.stagePulses : Coded.Statement (.stagePulses port tag payload) :=
  coded_request _ .stagePulses port payload rfl rfl rfl

theorem Coded.setVolume : Coded.Statement (.setVolume port tag payload) :=
  coded_request _ .setVolume port payload rfl rfl rfl

theorem Coded.setCapture : Coded.Statement (.setCapture port tag payload) :=
  coded_request _ .setCapture port payload rfl rfl rfl

theorem Coded.setPowerLimits : Coded.Statement (.setPowerLimits port tag payload) :=
  coded_request _ .setPowerLimits port payload rfl rfl rfl

theorem Coded.setCableResistance : Coded.Statement (.setCableResistance port tag payload) :=
  coded_request _ .setCableResistance port payload rfl rfl rfl

theorem Coded.railRestart : Coded.Statement (.railRestart port tag payload) :=
  coded_request _ .railRestart port payload rfl rfl rfl

theorem Coded.startProcedure : Coded.Statement (.startProcedure port tag payload) :=
  coded_request _ .startProcedure port payload rfl rfl rfl

theorem Coded.abortProcedure : Coded.Statement (.abortProcedure port tag payload) :=
  coded_request _ .abortProcedure port payload rfl rfl rfl

theorem Coded.getProcedureResult : Coded.Statement (.getProcedureResult port tag payload) :=
  coded_request _ .getProcedureResult port payload rfl rfl rfl

theorem Coded.readConditions : Coded.Statement (.readConditions port tag payload) :=
  coded_request _ .readConditions port payload rfl rfl rfl

theorem Coded.readCounters : Coded.Statement (.readCounters port tag payload) :=
  coded_request _ .readCounters port payload rfl rfl rfl

theorem Coded.clearConditions : Coded.Statement (.clearConditions port tag payload) :=
  coded_request _ .clearConditions port payload rfl rfl rfl

theorem Coded.setNoticeMask : Coded.Statement (.setNoticeMask port tag payload) :=
  coded_request _ .setNoticeMask port payload rfl rfl rfl

theorem Coded.biasCalCollectionEnd : Coded.Statement .biasCalCollectionEnd := coded_none _ rfl

theorem Coded.storeWriteComplete : Coded.Statement .storeWriteComplete := coded_none _ rfl

theorem Coded.storeReadbackComplete (readBack : List Byte) :
    Coded.Statement (.storeReadbackComplete readBack) := coded_none _ rfl

theorem Coded.sampleTick : Coded.Statement .sampleTick := coded_none _ rfl

theorem Coded.sampleReadEnd (sensor : Sensor) (result : ReadResult) :
    Coded.Statement (.sampleReadEnd sensor result) := coded_none _ rfl

theorem Coded.imuStartupTransaction (sensor : Sensor) (result : StartupResult) :
    Coded.Statement (.imuStartupTransaction sensor result) := coded_none _ rfl

theorem Coded.imuStartupTimeout (sensor : Sensor) : Coded.Statement (.imuStartupTimeout sensor) := coded_none _ rfl

theorem Coded.imuRetryExpiry (sensor : Sensor) : Coded.Statement (.imuRetryExpiry sensor) := coded_none _ rfl

theorem Coded.silenceWatchExpiry : Coded.Statement .silenceWatchExpiry := coded_none _ rfl

theorem Coded.poseStale : Coded.Statement .poseStale := coded_none _ rfl

theorem Coded.wearReadTick : Coded.Statement .wearReadTick := coded_none _ rfl

theorem Coded.wearReadDone (result : WearResult) : Coded.Statement (.wearReadDone result) := coded_none _ rfl

theorem Coded.awayTimerExpiry : Coded.Statement .awayTimerExpiry := coded_none _ rfl

theorem Coded.blankStart : Coded.Statement .blankStart := coded_none _ rfl

theorem Coded.illumPulseStart (panel : Side) : Coded.Statement (.illumPulseStart panel) := coded_none _ rfl

theorem Coded.illumPulseEnd (panel : Side) : Coded.Statement (.illumPulseEnd panel) := coded_none _ rfl

theorem Coded.outputInstant (mic1 mic2 : Int) : Coded.Statement (.outputInstant mic1 mic2) := coded_none _ rfl

theorem Coded.attenuationRampStep : Coded.Statement .attenuationRampStep := coded_none _ rfl

theorem Coded.holdoffExpiry : Coded.Statement .holdoffExpiry := coded_none _ rfl

theorem Coded.quietHoldEnd : Coded.Statement .quietHoldEnd := coded_none _ rfl

end Sys2Proof.Laws
end

