-- ==== Sys2Proof/Tests/Slice0.lean ====
section
/-!
SUPPORT. Tests by hand: the refusals of WellFormed; the worked examples of the manual; for each statement with hypotheses a
state and operands that meet them (`witness_…`); for each command a small step or two. Expected values come from the rule or
the worked example named.
-/

namespace Sys2Proof.Tests

open Sys2Proof.Machine

-- One theorem after the other: each waits for the kernel, and a thread for each at once needs too much memory.
set_option Elab.async false

/-! ### States to start from -/

/-- An IMU that is RUNNING. -/
def runningImu : Imu := { Imu.powerOn with state := .running }

/-- A part in use: link ACTIVE, supply NORMAL at L0, every rail ON, both IMUs RUNNING, scan-out IDLE, the base in control. -/
def busy : State :=
  { State.reset with
    lt := 5000000
    tlc := { Tlc.powerOn with link := .active ⟨.g3, .four⟩, features := some ⟨true, true⟩, offer := some 7500 }
    msu := { Msu.powerOn with a := runningImu, b := runningImu, wear := .worn }
    sou := { Sou.reset with scanOut := .idle, schedule := some ⟨5000000, 11111⟩ }
    pmg := { Pmg.powerOn with
      supply := .normal, budget := 7500, rails := ⟨.on, .on, .on, .on, .on⟩, target := .all, reachedNormal := true }
    cmu := { Cmu.powerOn with storeState := .loaded, role := some .tether } }

/-- The same with one request waiting: port, kind, tag 7, payload. -/
def asks (s : State) (k : ReqKind) (p : Port) (q : List Byte) : State :=
  { s with cmu := { s.cmu with queue := [⟨p, k.code, 7, q, false⟩] } }

/-- The state after a command. -/
def after (c : Instr) (s : State) : State :=
  match exec c s with
  | .next t => t
  | _ => s

/-- The body of the newest reply of the tether after a request of tag 7 is carried out. -/
def replied (s : State) (k : ReqKind) (q : List Byte) : List Byte :=
  match (after (k.row .tether 7 q) (asks s k .tether q)).cmu.outTether.getLast? with
  | some m => m.body
  | none => []

/-- The busy part with another link state. -/
def linked (l : Link) : State := { busy with tlc := { busy.tlc with link := l } }

/-- A good image: the one that WRITE_STORE forms from the defaults. -/
def goodImage : List Byte := withCrc busy.storeImage

/-- A request that waits, sent by the controller, is carried out. -/
theorem asks_directed (s : State) (k : ReqKind) (p : Port) (q : List Byte) (h : s.cmu.restart = none)
    (hr : s.cmu.role = some p) : (asks s k p q).directed k p 7 q :=
  ⟨by simp [asks, State.turn, Cmu.next, h], hr⟩

/-! ### WellFormed refuses -/

theorem test_refuses_long_tether_payload (q : List Byte) (h : q.length = 65534) :
    (Instr.attach .tether 0 q).wellFormed = false := by simp [Instr.wellFormed, requestPayload, h]

theorem test_refuses_long_service_payload (q : List Byte) (h : q.length = 2047) :
    (Instr.getInfo .service 0 q).wellFormed = false := by simp [Instr.wellFormed, requestPayload, h]

theorem test_refuses_known_kind : (Instr.unknownKind .tether 0 0x1B []).wellFormed = false := by decide

theorem test_refuses_long_block (q : List Byte) (h : q.length = 65544) :
    (Instr.linkBlockDiscarded q).wellFormed = false := by simp [Instr.wellFormed, h]

theorem test_refuses_delivered_block : (Instr.linkBlockDiscarded (linkBlock 4 2 [])).wellFormed = false := by decide +kernel

theorem test_refuses_long_link_payload (q : List Byte) (h : q.length = 65536) :
    (Instr.sound q).wellFormed = false := by simp [Instr.wellFormed, linkPayload, h]

theorem test_refuses_no_bytes : (Instr.serviceFrameReceived []).wellFormed = false := by decide

theorem test_refuses_short_readback : (Instr.storeReadbackComplete (List.replicate 98 0)).wellFormed = false := by decide

theorem test_refuses_wide_sample :
    (Instr.sampleReadEnd .a (.succeeded ⟨0, 0, 32768, 0, 0, 0, none⟩)).wellFormed = false := by decide

theorem test_refuses_wide_temperature :
    (Instr.sampleReadEnd .a (.succeeded ⟨0, 0, 0, 0, 0, 0, some (-32769)⟩)).wellFormed = false := by decide

theorem test_refuses_wear_reading : (Instr.wearReadDone (.succeeded 4096)).wellFormed = false := by decide

theorem test_refuses_microphone : (Instr.outputInstant 0 (-32769)).wellFormed = false := by decide

theorem test_accepts_edges :
    (Instr.unknownKind .tether 0 0x1C []).wellFormed = true ∧ (Instr.unknownKind .service 0 0 []).wellFormed = true ∧
      (Instr.wearReadDone (.succeeded 4095)).wellFormed = true ∧
      (Instr.outputInstant 32767 (-32768)).wellFormed = true := by decide

/-! ### Encodings and checks of the wire (chapter 12) -/

/-- R212: the check values published for the two polynomials, over the characters 1 to 9. -/
theorem test_crc_check_values :
    crc32 [0x31, 0x32, 0x33, 0x34, 0x35, 0x36, 0x37, 0x38, 0x39] = 0xCBF43926 ∧
      crc16 [0x31, 0x32, 0x33, 0x34, 0x35, 0x36, 0x37, 0x38, 0x39] = 0x29B1 := by decide +kernel

/-- R212: blocks written out byte by byte, their CRC-32 computed outside the model, are the rows of their codes (R217: the kind of
a SOUND block is ignored). -/
theorem test_blocks_are_rows :
    commandOfBlock [0x01, 0x01, 0x01, 0x00, 0x07, 0x5C, 0x46, 0x58, 0xDC] = .frameBegin [7] ∧
      commandOfBlock [0x01, 0x02, 0x01, 0x00, 0x07, 0xB2, 0xE9, 0xED, 0xCE] = .lines [7] ∧
      commandOfBlock [0x01, 0x03, 0x01, 0x00, 0x07, 0xD7, 0x8E, 0x51, 0x76] = .frameEnd [7] ∧
      commandOfBlock [0x02, 0x00, 0x01, 0x00, 0x07, 0xE9, 0x5B, 0x44, 0x23] = .sound [7] ∧
      commandOfBlock [0x02, 0x09, 0x01, 0x00, 0x07, 0x63, 0x14, 0x4C, 0x5E] = .sound [7] ∧
      commandOfBlock [0x03, 0x00, 0x02, 0x00, 0x03, 0x01, 0xD3, 0x78, 0x75, 0xC1] = .controlBlockReceived [3, 1] ∧
      commandOfBlock [0x04, 0x01, 0x08, 0x00, 0x00, 0x00, 0x00, 0x00, 0x00, 0x00, 0x00, 0x01, 0xB2, 0x52, 0x8D, 0xDD] = .timeMark [0, 0, 0, 0, 0, 0, 0, 1] ∧
      commandOfBlock [0x04, 0x02, 0x00, 0x00, 0x25, 0x9C, 0xA2, 0xAD] = .sleepMark [] := by decide +kernel

/-- R8, R21, R213: an unknown PICTURE kind, an unknown mark, an unknown stream, a wrong length and a wrong CRC are discarded. -/
theorem test_blocks_discarded : ∀ b ∈
    ([[0x01, 0x04, 0x01, 0x00, 0x07, 0x6E, 0xB6, 0x86, 0xEB], [0x04, 0x03, 0x00, 0x00, 0x12, 0xF6, 0x60, 0xAC],
      [0x05, 0x00, 0x00, 0x00, 0x2E, 0x2F, 0x9A, 0x16], [0x04, 0x02, 0x01, 0x00, 0x25, 0x9C, 0xA2, 0xAD],
      [0x04, 0x02, 0x00, 0x00, 0x25, 0x9C, 0xA2, 0xAC]] : List (List Byte)),
    commandOfBlock b = .linkBlockDiscarded b := by
  decide +kernel

/-- R211: the codes named there. -/
theorem test_request_codes :
    ReqKind.attach.code = 0x01 ∧ ReqKind.linkSleep.code = 0x06 ∧ ReqKind.anchor.code = 0x0B ∧
      ReqKind.setNoticeMask.code = 0x1B := by decide

/-- R211: least significant byte first, signed fields in two's complement. -/
theorem test_field_order : leBytes 4 (-2) = [0xFE, 0xFF, 0xFF, 0xFF] ∧ intAt [0xFE, 0xFF, 0xFF, 0xFF] 0 4 = -2 ∧
    natAt [0x34, 0x12] 0 2 = 0x1234 := by decide

/-! ### Worked examples of the manual -/

/-- 01 1.9.1: the first mark steps the offset to 8,199,687,001; the second slews it by 1; the third leaves it. -/
theorem test_time_mark :
    let s := { busy with lt := 313000, tlc := { busy.tlc with lineDelay := 1 } }
    let t := after (.timeMark (leBytes 8 8200000000)) s
    let u := after (.timeMark (leBytes 8 8200001003)) { t with lt := 314000 }
    let v := after (.timeMark (leBytes 8 8200002002)) { u with lt := 315000 }
    t.tlc.offset = 8199687001 ∧ t.tlc.stepMotion = true ∧ t.tlc.stepCapture = true ∧ t.tlc.stepBeat = true ∧
      t.count .timeSteps = 1 ∧ t.tlc.basis = .locked 313000 ∧ t.ntu.pending.has .timeFree = false ∧
      u.tlc.offset = 8199687002 ∧ v.tlc.offset = 8199687002 := by decide +kernel

/-- 01 1.9.1: the base's record at attempt 2, then the success with line delay 1; half a microsecond rounds to it (R3). -/
theorem test_training :
    let s := { busy with
      lt := 312400, tlc := { busy.tlc with link := .training 2 310000 none, features := none, offer := none } }
    let t := after (.trainingRecordReceived ⟨3, 15, 9000, 3⟩ 15) s
    let u := after (.trainingAttemptSucceeds 1000) t
    t.tlc.link = .training 2 310000 (some ⟨⟨.g3, .four⟩, ⟨true, true⟩, 9000⟩) ∧
      u.tlc.link = .active ⟨.g3, .four⟩ ∧ u.tlc.lineDelay = 1 ∧ u.tlc.offer = some 9000 ∧ u.pmg.budget = 7500 ∧
      u.ntu.pending.has .trained = true := by decide +kernel

/-- 03 3.2.1: the axis map and biases of the worked integration. -/
def worked : State :=
  { busy with
    lt := 2000000
    msu := { busy.msu with ticks := [⟨2000000, [⟨.a, 1, false, .inProgress⟩]⟩] }
    oin := { busy.oin with
      angles := ⟨40000, -8000, 1000⟩, lastTime := some 1999000
      axisMap := ⟨⟨.z, true⟩, ⟨.x, false⟩, ⟨.y, false⟩⟩, biasA := ⟨⟨12, -6, 20⟩, 252⟩ } }

/-- 03 3.2.1: raw counts −314, 20, −2,870 are rates −628, 40, −5,740. -/
theorem test_integration :
    let t := after (.sampleReadEnd .a (.succeeded ⟨-314, 20, -2870, 0, 0, 0, some 252⟩)) worked
    t.oin.angles = ⟨40368, -8041, 1002⟩ ∧ t.oin.residues = ⟨10000, 625, 14750⟩ ∧
      t.oin.ring = [⟨2000000, ⟨40368, -8041, 1002⟩, ⟨5760, -640, 46⟩⟩] ∧ t.oin.lastTime = some 2000000 ∧
      t.msu.queue.map (·.rate) = [⟨-628, 40, -5740⟩] := by decide +kernel

/-- 03 3.2.1: a yaw of 737,368 wraps to −737,192; 03 3.6.1: −1,474,000 wraps to +560. -/
theorem test_wrap : wrapAngle 737368 = -737192 ∧ wrapAngle (-1474000) = 560 ∧ wrapAngle 737280 = -737280 := by decide

/-- 03 3.6.1: two entries of the ring, the anchor nearer the older. -/
theorem test_anchor :
    let s := { busy with
      tlc := { busy.tlc with offset := 500000 }
      oin := { busy.oin with
        angles := ⟨40737, -8082, 1005⟩
        ring := [⟨1950000, ⟨12300, -7900, 980⟩, .zero⟩, ⟨1951000, ⟨12668, -7941, 983⟩, .zero⟩] } }
    let q := leBytes 8 2450400 ++ leBytes 4 12000 ++ leBytes 4 (-8100) ++ leBytes 4 980
    let t := after (.anchor .tether 7 q) (asks s .anchor .tether q)
    replied s .anchor q = [0x8B, 7, 0] ++ leBytes 8 1950000 ++ leBytes 4 (-300) ++ leBytes 4 (-200) ++ leBytes 4 0 ∧
      t.oin.angles = ⟨40437, -8282, 1005⟩ ∧ (t.oin.ring.map fun e => e.angles.yaw) = [12000, 12368] ∧
      t.count .anchorsTaken = 1 := by decide +kernel

/-- 05 5.10.1: a frame of yaw 40,960 and pitch −8,192 at slot 0, and the newest entry of the worked case. -/
def shifting (interleave : Bool) : State :=
  { busy with
    lt := 5006000
    fst := { busy.fst with slots := { busy.fst.slots with
      s0 := { Slot.empty with state := .showing, frame := 9, pose := some ⟨40960, -8192, 0⟩ } }, newest := some 9 }
    sou := { busy.sou with schedule := some ⟨5006000, 11111⟩ }
    ilg := { busy.ilg with staged := ⟨⟨1200, 2000⟩, ⟨1200, 2000⟩⟩, interleaveRequest := interleave }
    oin := { busy.oin with ring := [⟨5000000, ⟨42700, -8000, 0⟩, ⟨5760, -640, 0⟩⟩] } }

/-- 05 5.10.1: both eyes under interleave. -/
theorem test_late_shift :
    let t := after .blankStart (shifting true)
    t.sou.left.basis = .history ∧ t.sou.left.display = some 5008200 ∧ t.sou.right.display = some 5010300 ∧
      t.sou.left.lead = some 8200 ∧ t.sou.left.predicted = some ⟨45723, -8336⟩ ∧ t.sou.left.applied = ⟨24, -1⟩ ∧
      t.sou.right.predicted = some ⟨46497, -8422⟩ ∧ t.sou.right.applied = ⟨28, -1⟩ ∧
      t.ilg.active = ⟨⟨1200, 2000⟩, ⟨3300, 2000⟩⟩ ∧ t.count .frameRepeats = 1 := by decide +kernel

/-- 05 5.10.1, last paragraph, and 05 5.10.6: without interleave both eyes take H 24 and V −1; across the half-turn the error is
+460 and H is 2. -/
theorem test_late_shift_cases :
    (after .blankStart (shifting false)).sou.right.applied = ⟨24, -1⟩ ∧
      wrapAngle (-737100 - 737000) = 460 ∧ roundDiv (460 * 328) 65536 = 2 := by decide +kernel

/-- 06 6.7.1: the table of the first set, and the L0 and L1 rows of the second with their guard cuts. -/
theorem test_pulse_copies :
    let p : PulseSet := ⟨⟨1200, 2000⟩, ⟨1200, 2000⟩⟩
    let q : PulseSet := ⟨⟨3000, 3000⟩, ⟨3000, 3000⟩⟩
    copyPulses p false .l0 11111 = ⟨⟨1200, 2000⟩, ⟨1200, 2000⟩⟩ ∧
      copyPulses p false .l1 11111 = ⟨⟨1200, 1500⟩, ⟨2800, 1500⟩⟩ ∧
      copyPulses p false .l2 11111 = ⟨⟨1200, 1000⟩, ⟨2300, 1000⟩⟩ ∧
      copyPulses p false .l3 11111 = ⟨⟨1200, 0⟩, ⟨1300, 0⟩⟩ ∧
      copyPulses q true .l0 6944 = ⟨⟨3000, 3000⟩, ⟨6100, 344⟩⟩ ∧ copyCuts q true .l0 6944 = 1 ∧
      copyPulses q true .l1 6944 = ⟨⟨3000, 2250⟩, ⟨5350, 1094⟩⟩ ∧ copyCuts q true .l2 6944 = 0 ∧
      copyPulses ⟨⟨6600, 3000⟩, ⟨3000, 3000⟩⟩ true .l0 6944 = ⟨⟨6444, 0⟩, ⟨6444, 0⟩⟩ ∧
      copyCuts ⟨⟨6600, 3000⟩, ⟨3000, 3000⟩⟩ true .l0 6944 = 2 := by decide

/-- 07 7.6.2: the frame of a drift removal. -/
theorem test_drift_removal :
    let s := { busy with
      lt := 6000000
      aud := { busy.aud with
        playback := .playing, buffer := [⟨1000, -2001⟩, ⟨1003, -2004⟩, ⟨5, 5⟩], due := some .removal, played := 500
        applied := 0 } }
    let t := after (.outputInstant 0 0) s
    t.aud.out = ⟨1002, -2003⟩ ∧ t.aud.buffer = [⟨5, 5⟩] ∧ t.count .driftRemovals = 1 := by decide +kernel

/-- 07 7.6.3: the ramp passes through 180 from MUTE, and moves by one toward the cap. -/
theorem test_ramp :
    let s := { busy with pmg := { busy.pmg with level := .l2 }, aud := { busy.aud with requested := 6, applied := 181 } }
    let t := after .attenuationRampStep s
    t.aud.applied = 180 ∧ (after .attenuationRampStep { t with lt := 5001000 }).aud.applied = 179 ∧
      (after .attenuationRampStep { t with lt := 5000500 }).aud.applied = 180 := by decide +kernel

/-- 08 8.1.1: the worked measurement, without and with the test load. -/
theorem test_measurement :
    let s := { busy with pmg := { busy.pmg with rCable := 450 } }
    let t := after (.inputMeasurement 11200 600) s
    let u := after (.inputMeasurement 11110 800) { s with pmg := { s.pmg with testLoad := true } }
    t.pmg.meas = some ⟨11200, 600, 600, 6720, 162, 6882, 270⟩ ∧ t.ntu.pending.has .budgetLow = true ∧
      t.ntu.pending.has .cableDropHigh = false ∧ t.pmg.rise = 0 ∧ t.pmg.fall = 0 ∧
      u.pmg.meas = some ⟨11110, 800, 600, 6666, 162, 6828, 360⟩ := by decide +kernel

/-- 08 8.3.1: the third call for a rise takes L0 to L1. -/
theorem test_third_rise :
    let s := { busy with pmg := { busy.pmg with budget := 6000, rise := 2 } }
    let t := after (.inputMeasurement 11200 603) s
    t.pmg.level = .l1 ∧ t.pmg.rise = 0 ∧ t.ntu.pending.has .shedChange = true ∧ t.count .shedRises = 1 := by decide +kernel

/-- 09 9.4.1: the 3,000th measurement ends with R 448 and ΔI 201. -/
theorem test_cable_measure :
    let s := { busy with
      lt := 23000250
      prr := ⟨some ⟨3, 20000600, .cable 2999 (11196000 - 11196) (604000 - 604) 11200 600 11108 803⟩, 3, none⟩ }
    let t := after (.inputMeasurement 11196 604) s
    t.pmg.rCable = 448 ∧ t.ntu.pending.has .procDone = true ∧
      t.prr.result = some ⟨.cableMeasure, 3, .done, 20000600, 23000250, [.number 448, .number 201]⟩ := by decide +kernel

/-- 09 9.7: the collection end of the worked calibration. -/
theorem test_bias_cal :
    let col : Collection :=
      ⟨2000, ⟨24130, -11890, 40040⟩, ⟨-20, -30, -10⟩, ⟨18, 22, 50⟩, 504000, 2000⟩
    let s := { busy with
      lt := 32000400
      prr := ⟨some ⟨7, 30000400, .biasCal ⟨true, false⟩ 32000400 64 col ⟨0, ⟨0, 0, 0⟩, ⟨0, 0, 0⟩, ⟨0, 0, 0⟩, 0, 0⟩⟩, 7,
        none⟩ }
    let t := after .biasCalCollectionEnd s
    t.oin.biasA = ⟨⟨12, -6, 20⟩, 252⟩ ∧ t.oin.biasB = s.oin.biasB ∧
      t.prr.result = some ⟨.biasCal, 7, .done, 30000400, 32000400,
        [.number 12, .number (-6), .number 20, .number 38, .number 52, .number 60]⟩ := by decide +kernel

/-- 10 10.8: RETRAIN raised with the holdoff idle issues notice 41, and FRAME_DAMAGED, raised while it runs, makes one due. -/
theorem test_notice_through_retrain :
    let s := { busy with
      lt := 5200640
      fst := { busy.fst with slots := { busy.fst.slots with s0 := { Slot.empty with state := .filling, frame := 4 } } }
      ntu := { busy.ntu with pending := .none, number := 40 } }
    let t := after (.symbolLockLost 2) s
    t.tlc.link = .retrain ⟨.g3, .four⟩ 1 5200640 ∧ t.ntu.number = 41 ∧ t.ntu.timer = some 5202640 ∧ t.ntu.due = true ∧
      t.count .framesDamaged = 1 ∧ t.fst.slots.count .free = 4 ∧
      (after .holdoffExpiry { t with lt := 5202640 }).ntu.number = 42 ∧
      (after .holdoffExpiry { t with lt := 5202640 }).count .noticesCoalesced = 1 := by decide +kernel

/-! ### One small step of each other command -/

/-- R207, R208: power-on with and without a store. -/
theorem test_power_on :
    (after (.powerOn boardStraps) busy).lt = 0 ∧ (after (.powerOn boardStraps) busy).cmu.storeState = .loading ∧
      (after (.powerOn boardStraps) busy).pmg.supply = .start ∧
      (after (.powerOn ⟨.one, .g1, false, false⟩) busy).cmu.storeState = .defaultedAbsent ∧
      (after (.powerOn ⟨.one, .g1, false, false⟩) busy).straps.maxLanes = .one := by decide +kernel

/-- R207: an image with one bit changed fails its CRC. -/
theorem test_store_load :
    let good := withCrc { busy with pmg := { busy.pmg with rCable := 513 } }.storeImage
    let t := after (.storeLoadComplete (some good)) State.reset
    let u := after (.storeLoadComplete (some (good.set 62 0))) State.reset
    t.cmu.storeState = .loaded ∧ t.pmg.rCable = 513 ∧ u.cmu.storeState = .defaultedBad ∧ u.pmg.rCable = 400 ∧
      u.ntu.pending.has .storeDefaulted = true := by decide +kernel

/-- 08 8.5.1: from the power-good of PANEL_L to the end of PANEL_R's ramp timer. -/
def panelFault : State :=
  after (.railRampTimeout .panelR)
    { after (.railPowerGood .panelL)
        { busy with lt := 183900, pmg := { busy.pmg with rails := ⟨.on, .on, .ramping 188000, .off, .off⟩ }, sou := .reset }
      with lt := 188900 }

/-- 08 8.5.1: PANEL_R faults at 188,900 and is restarted at 950,000. -/
theorem test_rail_fault_and_restart :
    panelFault.pmg.rails = ⟨.on, .on, .on, .fault, .off⟩ ∧ panelFault.count .railFaults = 1 ∧
      panelFault.ntu.pending.has .railFaultPanelR = true ∧
      (let t := after (.railRestart .tether 7 []) (asks { panelFault with lt := 950000 } .railRestart .tether [])
       t.pmg.rails = ⟨.on, .on, .on, .ramping 955000, .off⟩ ∧ t.count .railRestarts = 1 ∧
         t.ntu.pending.has .railFaultPanelR = false) ∧
      replied busy .railRestart [] = [0x94, 7, 4] := by decide +kernel

/-- R159, R29, R46: SENSOR loses power-good. -/
theorem test_power_good_withdrawn :
    let t := after (.powerGoodWithdrawn .sensor) busy
    t.pmg.rails = ⟨.fault, .off, .off, .off, .off⟩ ∧ t.msu.a.state = .off ∧ t.msu.wear = .unknown ∧
      t.sou.scanOut = .off := by decide +kernel

/-- 01 1.9.1 and R6: attempt 1 runs out; the sixth takes the link to DOWN, whose retry starts again at attempt 1. -/
theorem test_training_timeouts :
    let s (n : Nat) : State := { linked (.training n 4980000 none) with lt := 5000000 }
    let t := after .trainingAttemptTimeout (s 6)
    (after .trainingAttemptTimeout (s 1)).tlc.link = .training 2 5000000 none ∧ t.tlc.link = .down (some 5500000) ∧
      t.cmu.role = none ∧ (after .retryTimerExpiry { t with lt := 5500000 }).tlc.link = .training 1 5500000 none := by
  decide +kernel

/-- 01 1.9.2: the third attempt at G3 fails, then the G2 attempt succeeds. -/
theorem test_retrain :
    let s := { linked (.retrain ⟨.g3, .four⟩ 3 5240640) with lt := 5260640 }
    let t := after .retrainAttemptTimeout s
    let u := after (.retrainAttemptSucceeds 4999) { t with lt := 5266100 }
    t.tlc.link = .retrain ⟨.g2, .four⟩ 1 5260640 ∧ t.count .gearReductions = 1 ∧
      t.ntu.pending.has .gearReduced = true ∧ u.tlc.link = .active ⟨.g2, .four⟩ ∧ u.tlc.lineDelay = 2 ∧
      u.tlc.crcCount = 0 := by decide +kernel

/-- R10: two lanes lost at one moment enter RETRAIN once; R11: a loss later fails the attempt. -/
theorem test_lock_lost_twice :
    let t := after (.symbolLockLost 2) busy
    (after (.symbolLockLost 3) t).count .trainingFailures = 0 ∧
      (after (.linkBlockDiscarded [1, 2, 3]) t).count .linkCrcErrors = 1 ∧
      (after (.symbolLockLost 3) { t with lt := t.lt + 1 }).tlc.link = .retrain ⟨.g3, .four⟩ 2 5000001 := by
  decide +kernel

/-- 01 1.9.2: the eighth CRC error of a window; R9: a window boundary. -/
theorem test_crc_window :
    let s := { busy with tlc := { busy.tlc with crcCount := 7 } }
    (after (.linkBlockDiscarded [1, 2, 3]) s).tlc.link = .retrain ⟨.g3, .four⟩ 1 5000000 ∧
      (after (.linkBlockDiscarded [1, 2, 3]) busy).tlc.crcCount = 1 ∧ (after .crcWindowBoundary s).tlc.crcCount = 0 ∧
      (after .crcWindowBoundary { s with lt := 5000640 }).tlc.crcCount = 7 := by decide +kernel

/-- 01 1.9.2: TIME_FREE 10,000 µs after the last mark. -/
theorem test_time_basis :
    let s (n : Nat) : State := { busy with lt := n, tlc := { busy.tlc with basis := .locked 5200000 } }
    (after .timeBasisFree (s 5210000)).tlc.basis = .free ∧ (after .timeBasisFree (s 5209999)).tlc.basis = .locked 5200000 := by
  decide +kernel

/-- R13, R15: a sleep mark, then line energy. -/
theorem test_sleep_and_wake :
    let t := after (.sleepMark []) busy
    let u := after .lineEnergyDetected t
    t.tlc.link = .sleep ∧ t.pmg.rails = ⟨.on, .off, .off, .off, .off⟩ ∧ t.pmg.budget = 4000 ∧
      u.tlc.link = .training 1 5000000 none ∧ u.msu.a.state = .starting .reset 5000000 := by decide +kernel

/-- R24, R25, R214: a beat goes at once and its record is 28 bytes; then it has left. -/
theorem test_status_beat :
    let t := after .statusBeatDue busy
    (t.tetherWire.map List.length) = some (28 + 8) ∧ (after .upstreamBlockSent t).tlc.tx = none := by decide +kernel

/-- A profile of two rows of two columns (no run reaches it; the rules hold for it), frame 6 filling in slot 0. -/
def filling : State :=
  { busy with fst := {
      slots := ⟨{ Slot.empty with state := .filling, frame := 6, unposed := true }, .empty, .empty, .empty⟩
      newest := some 6, profile := { Profile.builtIn with columns := 2, rows := 2 } } }

/-- The payload of LINES: frame, eye, first row, rows, pixels. -/
def linesBytes (n eye first rows : Nat) (pixels : List Byte) : List Byte :=
  leBytes 4 n ++ leBytes 2 eye ++ leBytes 2 first ++ leBytes 2 rows ++ pixels

/-- R75, R77, R78: frame 7 is begun over frame 6, gets both rows of both eyes, and is complete. -/
theorem test_frame :
    let s := after (.frameBegin (leBytes 4 7 ++ List.replicate 24 0)) filling
    let l (eye : Nat) (s : State) : State := after (.lines (linesBytes 7 eye 0 2 (List.replicate 12 5))) s
    let t := l 1 (l 0 s)
    let u := after (.frameEnd (leBytes 4 7)) t
    s.fst.slots.s0.frame = 7 ∧ s.count .framesDamaged = 1 ∧ t.fst.slots.s0.left = [(0, [5, 5, 5, 5, 5, 5]), (1, [5, 5, 5, 5, 5, 5])] ∧
      u.fst.slots.s0.state = .ready ∧ u.count .framesCompleted = 1 ∧
      (after (.frameEnd (leBytes 4 7)) s).fst.slots.s0.state = .free := by decide +kernel

/-- R126, R129: the first block takes STOPPED to PRIMING; R126: d = 65 as in 07 7.6.1. -/
theorem test_sound :
    let t := after (.sound (leBytes 2 4000 ++ List.replicate 288 0)) busy
    let u := after (.sound (leBytes 2 4066 ++ List.replicate 288 0)) t
    t.aud.playback = .priming ∧ t.aud.buffer.length = 48 ∧ t.aud.expected = some 4001 ∧
      u.count .soundBlocksMissed = 65 ∧ u.aud.buffer.length = 96 := by decide +kernel

/-- R198, R212: a service frame of a GET_INFO of tag 9 in one piece and in two; R200: a CONTROL block. -/
theorem test_arrivals :
    let f := serviceFrame [3, 9]
    let e : Entry := ⟨.service, 3, 9, [], false⟩
    f.length = 7 ∧ (after (.serviceFrameReceived f) busy).cmu.queue = [e] ∧
      (after (.serviceFrameReceived (f.drop 4)) (after (.serviceFrameReceived (f.take 4)) busy)).cmu.queue = [e] ∧
      (after .serviceByteTimeout { after (.serviceFrameReceived (f.take 4)) busy with lt := 5001001 }).count
        .serviceFramesBad = 1 ∧
      (after (.controlBlockReceived [3, 9]) busy).cmu.queue = [⟨.tether, 3, 9, [], false⟩] := by decide +kernel

/-- 11 11.9: ATTACH on each port, the SERVICE one first; its reply leaves. -/
theorem test_two_ports :
    let s := { busy with cmu := { busy.cmu with
      role := none, queue := [⟨.service, 1, 4, [], false⟩, ⟨.tether, 1, 5, [], false⟩] } }
    let t := after (.attach .service 4 []) s
    let u := after (.attach .tether 5 []) t
    t.cmu.role = some .service ∧ t.ntu.attn = true ∧ t.ntu.pending.has .controllerChange = true ∧
      (u.cmu.outTether.map (·.body)) = [[0x81, 5, 5, 1]] ∧ u.cmu.role = some .service ∧
      (after .serviceFrameSent u).cmu.queue = [⟨.tether, 1, 5, [], true⟩] := by decide +kernel

/-- 11 11.9: DETACH discards what the port still asks. -/
theorem test_detach :
    let s := { busy with cmu := { busy.cmu with
      role := some .service, queue := [⟨.service, 2, 4, [], false⟩, ⟨.service, 4, 5, [8], false⟩] } }
    let t := after (.detach .service 4 []) s
    t.cmu.role = none ∧ t.cmu.queue = [⟨.service, 2, 4, [], true⟩] := by decide +kernel

/-- R199, R211: UNKNOWN_KIND replies with its code plus 80h, the tag, and status 6. -/
theorem test_unknown_kind :
    let s := { busy with cmu := { busy.cmu with queue := [⟨.tether, 0x1C, 7, [1, 2], false⟩] } }
    ((after (.unknownKind .tether 7 0x1C [1, 2]) s).cmu.outTether.map (·.body)) = [[0x9C, 7, 6]] := by decide +kernel

/-- R205, R215: group 9 is every group in order, group 10 none; R199: an argument where none belongs. -/
theorem test_get_status :
    (replied busy .getStatus [9]).length = 3 + (StatusGroup.all.flatMap busy.groupBytes).length ∧
      replied busy .getStatus [10] = [0x84, 7, 3] ∧ replied busy .getInfo [0] = [0x83, 7, 3] := by decide +kernel

/-- R209: a RESTART in ACTIVE waits for its reply, and the reset follows it. -/
theorem test_restart :
    let t := after (.restart .tether 7 []) (asks busy .restart .tether [])
    let u := after .upstreamBlockSent t
    t.cmu.restart = some .tether ∧ t.cmu.role = some .tether ∧ u.cmu.restart = none ∧ u.cmu.role = none ∧
      u.tlc.link = .active ⟨.g3, .four⟩ ∧ u.lt = 5000000 ∧ u.msu.a.state = .starting .reset 5000000 := by decide +kernel

/-- R34, R51, R168: RESTART brings the rate from 500 Hz back to 1000 Hz; its moment, no tick at 500 Hz, is none. -/
theorem test_restart_changes_the_rate :
    let s (lt : Nat) : State := { busy with lt := lt, msu := { busy.msu with requestedRate := 500 } }
    let u (lt : Nat) : State := after .upstreamBlockSent (after (.restart .tether 7 []) (asks (s lt) .restart .tether []))
    (u 5001000).period = 1000 ∧ (u 5001000).tickDue = false ∧ (u 5002000).tickDue = true ∧
      ({ u 5001000 with lt := 5002000 } : State).tickDue = true := by decide +kernel

/-- R14: LINK_SLEEP in ACTIVE, and the sleep when its reply has left. -/
theorem test_link_sleep :
    let t := after (.linkSleep .tether 7 []) (asks busy .linkSleep .tether [])
    replied busy .linkSleep [] = [0x86, 7, 0] ∧ t.tlc.link = .active ⟨.g3, .four⟩ ∧
      (after .upstreamBlockSent t).tlc.link = .sleep := by decide +kernel

/-- R48, R34: 500 Hz is a period of 2,000 µs, and the moment of a change that was no tick is none. -/
theorem test_sensor_rate :
    let q := leBytes 2 500
    let t := after (.setSensorRate .tether 7 q) (asks busy .setSensorRate .tether q)
    let s := { busy with msu := { busy.msu with requestedRate := 250 }, lt := 5002000 }
    let u := after (.setSensorRate .tether 7 q) (asks s .setSensorRate .tether q)
    t.period = 2000 ∧ t.tickDue = true ∧ u.tickDue = false ∧ replied busy .setSensorRate (leBytes 2 300) = [0x87, 7, 3] := by
  decide +kernel

/-- R47: the removed threshold must be less than the worn threshold. -/
theorem test_set_wear :
    replied busy .setWear (leBytes 2 100 ++ leBytes 2 100 ++ leBytes 2 5) = [0x88, 7, 3] ∧
      replied busy .setWear (leBytes 2 101 ++ leBytes 2 100 ++ leBytes 2 5) = [0x88, 7, 0] := by decide +kernel

/-- R58: a map that names an axis twice is refused; R66, R62: the override and the primary. -/
theorem test_orientation_requests :
    replied busy .setAxisMap [2, 1, 0, 0, 1, 0] = [0x89, 7, 0] ∧ replied busy .setAxisMap [2, 1, 2, 0, 1, 0] = [0x89, 7, 3] ∧
      replied busy .selectPrimary [1] = [0x8A, 7, 0] ∧
      replied busy .setPoseOverride (leBytes 4 737280 ++ leBytes 4 0 ++ leBytes 4 0) = [0x8C, 7, 3] ∧
      (let q := leBytes 4 (-737280) ++ leBytes 4 1 ++ leBytes 4 2
       let t := after (.setPoseOverride .tether 7 q) (asks busy .setPoseOverride .tether q)
       t.oin.pose = some ⟨-737280, 1, 2⟩ ∧
         (after (.clearPoseOverride .tether 7 []) (asks t .clearPoseOverride .tether [])).oin.pose = none) := by
  decide +kernel

/-- R72: the profile is 18 bytes; R112: the staged set; R163: R_cable. -/
theorem test_picture_and_power_settings :
    (let f := { Profile.builtIn with period := 6944, limit := 0 }
     let t := after (.setProfile .tether 7 f.bytes) (asks busy .setProfile .tether f.bytes)
     f.bytes.length = 18 ∧ t.fst.profile.period = 6944 ∧ t.sou.schedule = some ⟨5006944, 6944⟩) ∧
      (let q := leBytes 2 1 ++ leBytes 2 2 ++ leBytes 2 3 ++ leBytes 2 4 ++ [1]
       (after (.stagePulses .tether 7 q) (asks busy .stagePulses .tether q)).ilg.staged = ⟨⟨1, 2⟩, ⟨3, 4⟩⟩) ∧
      replied busy .setCableResistance (leBytes 4 65536) = [0x93, 7, 3] := by decide +kernel

/-- R165: the reply carries the new budget, the lower of the offer 7,500 and the cap 6,000. -/
theorem test_power_limits :
    let q := leBytes 2 6000 ++ leBytes 2 4000 ++ leBytes 2 10500 ++ leBytes 2 9800 ++ leBytes 2 9000
    replied busy .setPowerLimits q = [0x92, 7, 0] ++ leBytes 4 6000 := by decide +kernel

/-- R137, R215: the effective attenuation and the applied one follow the status, 4 bytes each. R142: capture off. -/
theorem test_audio_settings :
    replied busy .setVolume [30, 0, 192, 0, 0] = [0x90, 7, 0] ++ leBytes 4 30 ++ leBytes 4 180 ∧ replied busy .setVolume [181, 0, 192, 0, 0] = [0x90, 7, 3] ∧
      (let q : List Byte := [0, 1, 1, 0, 10, 0]
       (after (.setCapture .tether 7 q) (asks busy .setCapture .tether q)).aud.captureEnabled = false) := by decide +kernel

/-- R169, R174: BIAS_CAL of A with the default threshold; R171 and R172: its reading and its end. -/
theorem test_start_procedure :
    let q : List Byte := [0, 1, 0, 0xD0, 7]
    let t := after (.startProcedure .tether 7 q) (asks busy .startProcedure .tether q)
    replied busy .startProcedure q = [0x95, 7, 1, 1, 0, 0, 0] ∧
      (t.prr.running.map fun r => r.run) = some 1 ∧ replied t .startProcedure q = [0x95, 7, 2] ∧
      replied t .abortProcedure [] = [0x96, 7, 0] ∧ replied busy .abortProcedure [] = [0x96, 7, 4] ∧
      (replied t .getProcedureResult []).take 3 = [0x97, 7, 0] := by decide +kernel

/-- R181, R182: WRITE_STORE of 99 bytes, written and read back. -/
theorem test_write_store :
    let t := after (.startProcedure .tether 7 [3, 0]) (asks busy .startProcedure .tether [3, 0])
    let u := after .storeWriteComplete t
    let v := after (.storeReadbackComplete goodImage) u
    t.cmu.storeWhole = false ∧ u.cmu.storeWhole = true ∧ goodImage.length = 99 ∧
      (v.prr.result.map fun r => (r.result, r.values)) = some (.done, [.number 99]) ∧
      ((after (.storeReadbackComplete (goodImage.set 98 (goodImage.getD 98 0 + 1))) u).prr.result.map
        fun r => (r.result, r.values)) = some (.failed, [.number 99, .number 98]) := by decide +kernel

/-- R192 to R194, R185: counters read and cleared, conditions cleared but the live ones, the mask replaced. -/
theorem test_notice_requests :
    let s := { busy with ntu := { busy.ntu with pending := { Masks.none with link := 0x21 } } }
    (replied s .readConditions []).take 7 = [0x98, 7, 0, 0x21, 0, 0x3F, 0] ∧
      (replied (busy.bump .timeSteps) .readCounters [11, 1]).length = 3 + 69 * 4 ∧
      (after (.readCounters .tether 7 [11, 1]) (asks (busy.bump .timeSteps) .readCounters .tether [11, 1])).count .timeSteps =
        0 ∧
      replied busy .readCounters [12, 0] = [0x99, 7, 3] ∧
      replied ((busy.bump .timeSteps).bump .timeSteps) .readCounters [2, 0] = [0x99, 7, 0] ++ List.replicate 12 0 ∧
      (replied (busy.bump .timeSteps) .readCounters [0, 1]).length = 3 + 40 ∧
      replied s .clearConditions [0, 0, 0] = [0x9A, 7, 0, 0x20, 0] ∧ replied s .clearConditions [0, 0x40, 0] = [0x9A, 7, 3] ∧
      replied s .setNoticeMask (List.replicate 12 0 ++ [16]) = [0x9B, 7, 3] := by decide +kernel

/-- R35, R38: a tick starts a read with each IMU and is taken once. -/
theorem test_sample_tick :
    let t := after .sampleTick busy
    (t.msu.ticks.map fun k => k.reads.map (·.seq)) = [[1, 1]] ∧ after .sampleTick t = t ∧
      after .sampleTick { busy with lt := 5000500 } = { busy with lt := 5000500 } := by decide +kernel

/-- R30, R32: the start-up exchange, its time limit, the retry. -/
theorem test_imu_startup :
    let s := { busy with msu := { busy.msu with b := { runningImu with state := .starting .identity 4950000 } } }
    let t := after (.imuStartupTimeout .b) s
    (after (.imuStartupTransaction .b (.succeeded true)) s).msu.b.state = .starting .scales 4950000 ∧
      t.msu.b.state = .fault 5100000 ∧ t.ntu.pending.has .imuFaultB = true ∧
      (after (.imuRetryExpiry .b) { t with lt := 5100000 }).msu.b.state = .starting .reset 5100000 := by decide +kernel

/-- R59, R60: the silence watch moves the binding; R63: POSE_STALE is no longer pending with a fresh entry. -/
theorem test_orientation_watches :
    let s := { busy with oin := { busy.oin with silenceAt := some 5000000, ring := [⟨4999000, .zero, .zero⟩] } }
    (after .silenceWatchExpiry s).oin.primary = .b ∧ (after .silenceWatchExpiry s).count .imuFailovers = 1 ∧
      (after .poseStale s).ntu.pending.has .poseStale = false := by decide +kernel

/-- R42, R43, R44: the tenth worn reading; the away timer of 30 s. -/
theorem test_wear :
    let s := { busy with msu := { busy.msu with wear := .unknown, wornCount := 9 } }
    let t := after .wearReadTick s
    let u := after (.wearReadDone (.succeeded 2400)) t
    let v := { busy with msu := { busy.msu with wear := .removed 1 }, lt := 30000001 }
    t.msu.wearBusy = true ∧ u.msu.wear = .worn ∧ u.count .wearChanges = 1 ∧ (after .awayTimerExpiry v).msu.wear = .away ∧
      (after .awayTimerExpiry { v with lt := 30000000 }).msu.wear = .removed 1 := by decide +kernel

/-- R111: the lit interval of the left panel, 1,000 to 2,000 µs after the blank start. -/
theorem test_pulses :
    let s (n : Nat) (p : PulsePhase) : State := { busy with
      lt := n
      ilg := { busy.ilg with
        output := .emitting, periodStart := some 4998000, active := ⟨⟨1000, 1000⟩, ⟨0, 0⟩⟩, phaseLeft := p } }
    (after (.illumPulseStart .left) (s 4999000 .toCome)).ilg.phaseLeft = .lit ∧
      (after (.illumPulseStart .left) (s 4998999 .toCome)).ilg.phaseLeft = .toCome ∧
      (after (.illumPulseEnd .left) (s 5000000 .lit)).ilg.phaseLeft = .over ∧
      (after (.illumPulseEnd .left) (s 5000000 .lit)).count .illumPulsesLeft = 1 := by decide +kernel

/-- R191: the end of a quiet hold lets ATTN follow its facts. -/
theorem test_quiet_hold :
    let s := { busy with
      cmu := { busy.cmu with role := some .service }, ntu := { busy.ntu with quiet := some 5000000 } }
    (after .quietHoldEnd s).ntu.attn = true ∧ (after .quietHoldEnd { s with lt := 4999999 }).ntu.attn = false := by
  decide +kernel

/-- R41: A's record of tick 1 is queued after its read at tick 2 has failed; the record of tick 3 still takes GAP. -/
theorem test_gap_of_a_failed_read :
    let d : ImuData := ⟨1, 2, 3, 4, 5, 6, none⟩
    let s := { busy with msu := { busy.msu with
      a := { runningImu with seq := 2 }
      ticks := [⟨4998000, [⟨.a, 1, false, .succeeded d⟩, ⟨.b, 1, false, .inProgress⟩]⟩,
        ⟨4999000, [⟨.a, 2, false, .inProgress⟩]⟩] } }
    let t := after .sampleTick (after (.sampleReadEnd .b .failed) (after (.sampleReadEnd .a .failed) s))
    let u := after (.sampleReadEnd .b .failed) (after (.sampleReadEnd .a (.succeeded d)) t)
    u.msu.queue.map (fun r => (r.seq, r.gap)) = [(1, true), (3, true)] ∧ u.msu.a.gapPending = false := by decide +kernel

/-- R47: thresholds set while a wear read is in progress apply from the next read. -/
theorem test_wear_read_in_progress :
    let q := leBytes 2 100 ++ leBytes 2 50 ++ leBytes 2 5
    let s := after .wearReadTick { busy with msu := { busy.msu with wear := .unknown } }
    let t := after (.setWear .tether 7 q) (asks s .setWear .tether q)
    (after (.wearReadDone (.succeeded 200)) t).msu.removedCount = 1 ∧ t.msu.wornThreshold = 100 := by decide +kernel

/-- R52: BROWNOUT keeps the motion queue and does not drain it; R22: the other streams go on. -/
theorem test_brownout_keeps_motion_queue :
    let r : MotionRecord := ⟨.a, 1, 0, ⟨0, 0, 0⟩, ⟨0, 0, 0⟩, 0, false, false, false, true, false⟩
    let s := { busy with
      tlc := { busy.tlc with tx := some .control }
      msu := { busy.msu with queue := [r] }
      pmg := { busy.pmg with supply := .brownout, level := .l3 }
      cmu := { busy.cmu with outTether := [⟨.notice, [0x70], 0⟩, ⟨.notice, [0x71], 0⟩] } }
    let t := after .upstreamBlockSent s
    let u := after .upstreamBlockSent t
    t.tlc.tx = some .control ∧ u.tlc.tx = none ∧ u.msu.queue = [r] := by decide +kernel

/-- R88: no pixel is sent in the blank length; at its end the first row begins with the source pixel moved by the shift. -/
theorem test_rows_follow_the_blank :
    let row : List Byte := [1, 2, 3, 4, 5, 6]
    let rows : EyeRows := [(0, row), (1, row)]
    let slot : Slot := { Slot.empty with state := .ready, frame := 6, left := rows, right := rows, unposed := true }
    let s := { busy with fst := {
      slots := ⟨slot, .empty, .empty, .empty⟩
      newest := some 6, profile := { Profile.builtIn with columns := 2, rows := 2, blank := 300 } } }
    let t := after .blankStart s
    ({ t with lt := 5000299 } : State).outputPixel .left 1 1 = none ∧
      ({ t with lt := 5000300 } : State).outputPixel .left 1 1 = some ⟨4, 5, 6⟩ ∧ t.sentRows .left = [] ∧
      (({ t with lt := 5000300 } : State).sentRows .left).length = 2 := by decide +kernel

/-- R11: lock lost in the first attempt of a group at a lower gear fails it, also at the moment it begins. -/
theorem test_lock_lost_in_new_group :
    let t := after .retrainAttemptTimeout { linked (.retrain ⟨.g3, .four⟩ 3 4980000) with lt := 5000000 }
    let u := after (.symbolLockLost 0) t
    t.tlc.link = .retrain ⟨.g2, .four⟩ 1 5000000 ∧ u.tlc.link = .retrain ⟨.g2, .four⟩ 2 5000000 ∧
      u.count .trainingFailures = 2 := by decide +kernel

/-- R139: the second loud block opens the gate; its block is queued, and goes, before VOICE_START makes a notice. -/
theorem test_gate_opens :
    let s := { busy with
      lt := 5000979
      ntu := { busy.ntu with pending := .none, enabled := .all }
      aud := { busy.aud with
        gate := .closed, loudRun := 1, openThreshold := 100, forming := some ⟨5000000, List.replicate 47 (100, 0)⟩ } }
    let t := after (.outputInstant 0 0) s
    t.aud.gate = .open ∧ t.aud.queue.map (·.gateOpen) = [true] ∧ t.count .voiceStarts = 1 ∧
      t.tlc.tx = some .capture ∧ t.cmu.outTether.map (·.role) = [.notice] := by decide +kernel

/-- R190: the two notices due at an ATTACH with holdoff 0 lead to one issue. -/
theorem test_attach_issues_once :
    let s := { busy with
      cmu := { busy.cmu with role := none, queue := [⟨.tether, 1, 4, [], false⟩] }
      ntu := { busy.ntu with pending := { Masks.none with link := 1 }, enabled := .all, holdoff := 0, timer := none } }
    let t := after (.attach .tether 4 []) s
    t.ntu.number = s.ntu.number + 1 ∧ t.count .noticesIssued = 1 ∧ t.ntu.due = false := by decide +kernel

/-- R156, R208: the five-hundredth good measurement of BROWNOUT enters NORMAL at L2; before the load has ended the link step waits
for its end. -/
theorem test_recovery_before_load :
    let s := { busy with
      pmg := { busy.pmg with
        supply := .brownout, level := .l3, recovery := 499, reachedNormal := false, rails := ⟨.off, .off, .off, .off, .off⟩ }
      tlc := .powerOn, cmu := .powerOn }
    let t := after (.inputMeasurement 11200 600) s
    let u := after (.storeLoadComplete none) { t with lt := 5000300 }
    t.pmg.supply = .normal ∧ t.pmg.level = .l2 ∧ t.pmg.rails.sensor = .ramping 5005000 ∧ t.tlc.link = .down none ∧
      u.tlc.link = .training 1 5000300 none := by decide +kernel

/-- R139, R144: a load whose gate enable is clear disables a gate that is OPEN, with VOICE_END. -/
theorem test_load_disables_gate :
    let image := withCrc { busy with aud := { busy.aud with gate := .disabled } }.storeImage
    let s := { busy with cmu := .powerOn, aud := { busy.aud with gate := .open } }
    let t := after (.storeLoadComplete (some image)) s
    t.cmu.storeState = .loaded ∧ t.aud.gate = .disabled ∧ t.ntu.pending.has .voiceEnd = true ∧
      (after (.storeLoadComplete (some goodImage)) s).aud.gate = .open := by decide +kernel

/-- R180, R38: both targets read at the sync tick; IMU-A lost by its third failed read before it. -/
theorem test_sensor_sync_ends :
    let d : ImuData := ⟨1, 2, 3, 4, 5, 6, none⟩
    let s (reads : List Read) := { busy with
      msu := { busy.msu with a := { runningImu with fails := 2 }, ticks := [⟨4998000, reads⟩] }
      prr := ⟨some ⟨1, 4990000, .sync ⟨true, true⟩ 4998000⟩, 1, none⟩ }
    let t := after (.sampleReadEnd .b .failed) (s [⟨.a, 5, true, .succeeded d⟩, ⟨.b, 9, true, .inProgress⟩])
    let u := after (.sampleReadEnd .a .failed) (s [⟨.a, 5, false, .inProgress⟩])
    (t.prr.result.map fun r => (r.result, r.values)) = some (.done, [.time 4998000, .recorded, .pendingMark]) ∧
      t.msu.queue.map (fun r => (r.seq, r.syncMark)) = [(5, true)] ∧ t.msu.b.syncPending = true ∧
      (u.prr.result.map fun r => (r.result, r.values)) = some (.failed, [.target .a]) := by decide +kernel

/-- R130, R129: the first frame of the fade-out, its last, and the return to PLAYING; R133: a removal with one frame. -/
theorem test_underrun :
    let s (f : Aud → Aud) : State := { busy with aud := f { busy.aud with applied := 0, target := 2 } }
    let t := after (.outputInstant 0 0) (s fun a => { a with playback := .playing, lastValue := ⟨640, -640⟩, played := 70 })
    let u := after (.outputInstant 0 0) (s fun a => { a with playback := .underrun, lastValue := ⟨640, 0⟩, faded := 63 })
    let v := after (.outputInstant 0 0)
      (s fun a => { a with playback := .underrun, faded := 64, buffer := [⟨6400, 64⟩, ⟨1, 1⟩] })
    let w := after (.outputInstant 0 0)
      (s fun a => { a with playback := .playing, due := some .removal, buffer := [⟨7, 9⟩], played := 70, runLength := 4 })
    t.aud.playback = .underrun ∧ t.aud.out = ⟨630, -630⟩ ∧ t.count .playbackUnderruns = 1 ∧ u.aud.out = ⟨0, 0⟩ ∧
      v.aud.playback = .playing ∧ v.aud.out = ⟨100, 1⟩ ∧ w.aud.out = ⟨7, 9⟩ ∧ w.aud.runLength = 0 ∧
      w.count .driftRemovals = 0 := by decide +kernel

/-! ### States that meet the hypotheses of the statements: the machine, power, the link -/

theorem witness_StepRunsFrontCommand :
    ({ busy with pending := [.poseStale, .sampleTick] } : State).pending = .poseStale :: [.sampleTick] ∧
      busy.pending = [] := ⟨rfl, rfl⟩

theorem witness_OnlyPowerOnChangesTimeAndStraps :
    (∃ t, exec .timeBasisFree busy = .next t) ∧ (∀ x, Instr.timeBasisFree ≠ .powerOn x) ∧
      ∀ r, Instr.timeBasisFree ≠ .storeLoadComplete r :=
  ⟨⟨_, rfl⟩, (by intro x h; cases h), by intro r h; cases h⟩

/-- A state with a command in front, for the invariants. -/
def stepping : State := { busy with pending := [.sampleTick] }

theorem stepping_steps : ∃ t, step stepping = .next t := ⟨_, rfl⟩

theorem witness_CapacitiesAndCountersHold :
    stepping.withinCapacity ∧ stepping.countersFit ∧ ∃ t, step stepping = .next t :=
  ⟨by unfold State.withinCapacity; decide +kernel, by intro c; cases c <;> decide +kernel, stepping_steps⟩

theorem witness_AnglesStayWrapped : stepping.oin.wrapped ∧ ∃ t, step stepping = .next t :=
  ⟨⟨by unfold Angles.inTurn InTurn; decide +kernel, (by intro e h; cases h), (by intro a h; cases h),
    by unfold IsResidue; decide +kernel, by unfold IsResidue; decide +kernel, by unfold IsResidue; decide +kernel⟩,
   stepping_steps⟩

theorem witness_SlotsStayOrderedAndCanonical :
    stepping.fst.slots.ordered ∧ stepping.fst.slots.canonical ∧ ∃ t, step stepping = .next t :=
  ⟨by unfold Slots.ordered; decide +kernel, by unfold Slots.canonical rowsRising; decide +kernel, stepping_steps⟩

theorem witness_PowerStaysSound :
    stepping.powerSound ∧ stepping.pmg.countsFit ∧ stepping.loadSound ∧ ∃ t, step stepping = .next t :=
  ⟨⟨by decide +kernel, by decide +kernel, by decide +kernel, by intro x; cases x <;> decide +kernel,
    by intro x y _ _; cases x <;> decide +kernel, by intro h; cases h⟩,
   by unfold Pmg.countsFit; decide +kernel, (by intro h; cases h), stepping_steps⟩

theorem witness_GainStaysAboveCap : stepping.gainSound ∧ ∃ t, step stepping = .next t :=
  ⟨by unfold State.gainSound; decide +kernel, stepping_steps⟩

theorem witness_LinkStaysSound : stepping.linkSound ∧ ∃ t, step stepping = .next t :=
  ⟨⟨(by intro h; cases h), by intro h; cases h⟩, stepping_steps⟩

theorem witness_LiveConditionsFollow : stepping.liveSound ∧ ∃ t, step stepping = .next t :=
  ⟨⟨by decide +kernel, by decide +kernel, by decide +kernel, by intro x; cases x <;> decide +kernel⟩, stepping_steps⟩

theorem witness_AttentionFollowsFacts : stepping.masksTrim ∧ stepping.attnSound ∧ ∃ t, step stepping = .next t :=
  ⟨by unfold State.masksTrim; decide +kernel, by unfold State.attnSound; decide +kernel, stepping_steps⟩

theorem witness_MessagesMatchEntries : stepping.oneNotice ∧ stepping.repliesMatch ∧ ∃ t, step stepping = .next t :=
  ⟨by intro p; cases p <;> decide +kernel, by intro p; cases p <;> decide +kernel, stepping_steps⟩

theorem witness_ReadersFollowRails :
    (stepping.linkSound ∧ stepping.darkSound ∧ stepping.scanSound ∧ stepping.imusSound ∧ stepping.readsSound) ∧
      ∃ t, step stepping = .next t :=
  ⟨⟨witness_LinkStaysSound.1, by unfold State.darkSound; decide +kernel, by unfold State.scanSound; decide +kernel,
    (by intro x; cases x <;> decide +kernel), by intro x; cases x <;> decide +kernel⟩, stepping_steps⟩

theorem witness_PowerOnTakesPowerOnValues :
    boardStraps.storePresent = true ∧ ({ boardStraps with storePresent := false } : Straps).storePresent = false := by decide

/-- A good image but for its axis map, which names axis y three times. -/
def badAxesImage : List Byte := withCrc (goodImage.take 18 ++ [1, 0, 1, 0, 1, 0] ++ (goodImage.take 95).drop 24)

theorem badAxes_is_no_map (m : AxisMap) (h : m.ok = true) : slice badAxesImage 18 6 ≠ m.bytes := by
  rw [show slice badAxesImage 18 6 = [1, 0, 1, 0, 1, 0] by decide +kernel]
  obtain ⟨⟨u, a⟩, ⟨v, b⟩, ⟨w, c⟩⟩ := m
  revert h
  cases u <;> cases v <;> cases w <;> cases a <;> cases b <;> cases c <;> decide

theorem witness_StoreLoadTakesImageOrDefaults :
    State.reset.cmu.storeState = .loading ∧ State.reset.cmu.storeWhole = true ∧ goodImage.length = 99 ∧
      natAt goodImage 95 4 = crc32 (goodImage.take 95) ∧
      (∀ bs, (some [] : Option (List Byte)) = some bs →
        State.reset.cmu.storeWhole = false ∨ bs.length ≠ 99 ∨ natAt bs 95 4 ≠ crc32 (bs.take 95)) ∧
      busy.cmu.storeState ≠ .loading ∧ natAt goodImage 77 1 ≠ 0 ∧ State.reset.aud.gate ≠ .open ∧
      (let s := { busy with cmu := .powerOn, aud := { busy.aud with gate := .open } }
       let image := withCrc { busy with aud := { busy.aud with gate := .disabled } }.storeImage
       s.cmu.storeState = .loading ∧ s.aud.gate = .open ∧ s.pmg.rails.audio = .on ∧ s.aud.captureEnabled = true ∧
         image.length = 99 ∧ natAt image 95 4 = crc32 (image.take 95) ∧ natAt image 77 1 = 0) ∧
      (let s := { busy with cmu := .powerOn, tlc := .powerOn }
       s.cmu.storeState = .loading ∧ s.pmg.reachedNormal = true ∧ s.tlc.link = .down none) ∧
      slice goodImage 18 6 = AxisMap.builtIn.bytes ∧ AxisMap.builtIn.ok = true ∧
      badAxesImage.length = 99 ∧ natAt badAxesImage 95 4 = crc32 (badAxesImage.take 95) ∧
      ∀ m : AxisMap, m.ok = true → slice badAxesImage 18 6 ≠ m.bytes :=
  ⟨rfl, rfl, by decide +kernel, by decide +kernel, (by intro bs h; cases h; decide), by decide,
   by decide +kernel, by decide, by decide +kernel, by decide +kernel, by decide +kernel, by decide, by decide +kernel,
   by decide +kernel, badAxes_is_no_map⟩

theorem witness_StoreImageRoundTrips :
    let s := busy
    s.fst.profile.ok = true ∧ s.oin.axisMap.ok = true ∧
    (∀ b ∈ [s.oin.biasA, s.oin.biasB],
      (-65536 ≤ b.bias.x ∧ b.bias.x ≤ 65534) ∧ (-65536 ≤ b.bias.y ∧ b.bias.y ≤ 65534) ∧
        (-65536 ≤ b.bias.z ∧ b.bias.z ≤ 65534) ∧ (-32768 ≤ b.temp ∧ b.temp ≤ 32767) ∧
        (b.temp = -4096 ∨ Config.temperatureInRange b.temp = true)) ∧
    s.pmg.limits.ok = true ∧ s.pmg.rCable ≤ 65535 ∧ (1 ≤ s.tlc.threshold ∧ s.tlc.threshold ≤ 64) ∧
    (s.loaded.rate = 1000 ∨ s.loaded.rate = 500 ∨ s.loaded.rate = 250) ∧
    (s.loaded.removedThreshold < s.loaded.wornThreshold ∧ s.loaded.wornThreshold ≤ 4095) ∧
    (1 ≤ s.loaded.awayTime ∧ s.loaded.awayTime ≤ 600) ∧ s.loaded.requested ≤ 180 ∧
    (96 ≤ s.loaded.target ∧ s.loaded.target ≤ 384) ∧ (1 ≤ s.aud.openThreshold ∧ s.aud.openThreshold ≤ 32767) ∧
    (10 ≤ s.aud.hangover ∧ s.aud.hangover ≤ 1000) ∧ s.ntu.enabled.trim = s.ntu.enabled ∧ s.ntu.holdoff ≤ 15 := by
  refine ⟨by decide, by decide, ?_, by decide, by decide, by decide, by decide, by decide, by decide, by decide, by decide,
    by decide, by decide, by decide, by decide⟩
  intro b hb
  have : b = BiasEntry.builtIn := by
    rcases List.mem_cons.mp hb with h | h
    · exact h
    · exact List.mem_singleton.mp h
  subst this
  exact ⟨by decide, by decide, by decide, by decide, Or.inl rfl⟩

/-- The busy part with a measurement exactly 1,000 µs old. -/
def measured (p : Pmg → Pmg) : State := { busy with pmg := p { busy.pmg with measuredAt := some 4999000 } }

/-- Both ways a measurement is due: none before it, or one 1,000 µs ago. -/
theorem witness_MeasurementFormsFigures :
    (∀ m, busy.pmg.measuredAt = some m → m + 1000 ≤ busy.lt) ∧
      ∀ m, (measured id).pmg.measuredAt = some m → m + 1000 ≤ (measured id).lt :=
  ⟨(by intro m h; cases h), by intro m h; cases h; decide⟩

theorem witness_LevelJumpsRisesAndFalls :
    (let s := measured id
     (∀ m, s.pmg.measuredAt = some m → m + 1000 ≤ s.lt) ∧ s.pmg.supply ≠ .brownout ∧ s.pmg.level ≠ .l3 ∧
       min 30000 9799 < s.pmg.limits.vCrit) ∧
    (let s := measured fun p => { p with rise := 2 }
     (∀ m, s.pmg.measuredAt = some m → m + 1000 ≤ s.lt) ∧ s.pmg.supply = .normal ∧ 0 < s.pmg.budget ∧
       s.pmg.limits.vCrit ≤ min 30000 9800 ∧ s.pmg.limits.vCut ≤ min 30000 9800 ∧ s.pmg.level.up = some .l1 ∧
       s.pmg.rise = 2 ∧ min 30000 9800 < s.pmg.limits.vWarn) ∧
    (let s := measured fun p => { p with rise := 2 }
     let total := min 30000 12500 * 600 / 1000 + 600 * 600 * s.pmg.rCable / 1000000
     s.pmg.budget ≤ total ∧ s.pmg.limits.vWarn ≤ min 30000 12500) ∧
    (let s := measured fun p => { p with level := .l1, fall := 199 }
     let total := min 30000 10800 * 570 / 1000 + 570 * 570 * s.pmg.rCable / 1000000
     (∀ m, s.pmg.measuredAt = some m → m + 1000 ≤ s.lt) ∧ s.pmg.supply = .normal ∧ 0 < s.pmg.budget ∧
       s.pmg.limits.vCrit ≤ min 30000 10800 ∧ s.pmg.limits.vCut ≤ min 30000 10800 ∧ s.pmg.level.down = some .l0 ∧
       s.pmg.fall = 199 ∧ total * 100 ≤ s.pmg.budget * 85 ∧ s.pmg.limits.vWarn + 300 ≤ min 30000 10800) :=
  ⟨⟨by intro m h; cases h; decide, by decide, by decide, by decide⟩,
   ⟨by intro m h; cases h; decide, by decide, by decide, by decide, by decide, by decide, by decide, by decide⟩,
   by decide,
   ⟨by intro m h; cases h; decide, by decide, by decide, by decide, by decide, by decide, by decide, by decide,
     by decide⟩⟩

theorem witness_SecondCutEntersBrownout :
    let s := measured fun p => { p with cut := 1 }
    (∀ m, s.pmg.measuredAt = some m → m + 1000 ≤ s.lt) ∧ s.pmg.supply ≠ .brownout ∧ s.pmg.cut = 1 ∧
      min 30000 8999 < s.pmg.limits.vCut ∧ s.pmg.limits.vCut < s.pmg.limits.vCrit ∧
      s.pmg.limits.vCrit < s.pmg.limits.vWarn ∧
      ∀ x, s.ntu.pending.has (railFault x) = true ↔ s.pmg.rails.get x = .fault :=
  ⟨by intro m h; cases h; decide, by decide, by decide, by decide, by decide, by decide,
   by intro x; cases x <;> decide⟩

theorem witness_EnteringNormalBringsRailsUp :
    (let s := { measured (fun p =>
         { p with supply := .start, rails := ⟨.off, .off, .off, .off, .off⟩, reachedNormal := false }) with tlc := .powerOn }
     (∀ m, s.pmg.measuredAt = some m → m + 1000 ≤ s.lt) ∧ s.pmg.limits.ok = true ∧
       s.pmg.limits.vWarn ≤ min 30000 10500 ∧ s.pmg.supply = .start ∧ s.cmu.storeState ≠ .loading ∧
       s.pmg.rails.sensor = .off ∧ s.tlc.link = .down none ∧ ({ s with cmu := .powerOn } : State).cmu.storeState = .loading) ∧
    (∀ n, let s := { measured (fun p => { p with supply := .brownout, recovery := n, level := .l3 }) with
       msu := { busy.msu with queue := [⟨.a, 1, 0, ⟨0, 0, 0⟩, ⟨0, 0, 0⟩, 0, false, false, false, true, false⟩] } }
     (∀ m, s.pmg.measuredAt = some m → m + 1000 ≤ s.lt) ∧ s.pmg.limits.ok = true ∧
       s.pmg.supply = .brownout ∧ s.pmg.recovery = n ∧ s.pmg.level = .l3 ∧
       s.tlc.link = .active ⟨.g3, .four⟩ ∧ s.msu.queue ≠ []) ∧ (499 ≤ 499 ∧ 499 ≤ 500) ∧ 498 < 499 :=
  ⟨⟨by intro m h; cases h; decide, by decide, by decide, by decide, by decide, by decide, by decide, by decide⟩,
   fun _ => ⟨(by intro m h; cases h; show 4999000 + 1000 ≤ busy.lt; decide), show busy.pmg.limits.ok = true by decide,
     rfl, rfl, rfl, rfl, by simp⟩, by decide, by decide⟩

/-- A CABLE_MEASURE after `count` measurements, with the mean of Iin in phase 2 given. -/
def measuring (count i2 : Nat) : State :=
  { busy with prr := ⟨some ⟨3, 0, .cable count 11184804 603396 11200 600 11108 i2⟩, 3, none⟩ }

/-- Every phase boundary and a measurement between them; both endings; LOADED by a jump, by BROWNOUT and by the level. -/
theorem witness_CableMeasureEnds :
    (∀ count i2, (∀ m, (measuring count i2).pmg.measuredAt = some m → m + 1000 ≤ (measuring count i2).lt) ∧
      (measuring count i2).pmg.supply = .normal ∧ (measuring count i2).pmg.level = .l0 ∧
      (measuring count i2).pmg.rise = 0 ∧ (measuring count i2).pmg.limits.ok = true ∧
      (measuring count i2).pmg.limits.vCrit ≤ min 30000 11196 ∧
      min 30000 9799 < (measuring count i2).pmg.limits.vCrit ∧
      (measuring count i2).prr.running = some ⟨3, 0, .cable count 11184804 603396 11200 600 11108 i2⟩) ∧
    ((998 < 2999 ∧ 998 ≠ 999 ∧ 998 ≠ 1999) ∧ 2998 < 2999) ∧
    (let i3 := roundDiv ((603396 + min 5000 604 : Nat) : Int) 1000
     ((701 : Nat) : Int) - roundDiv (600 + i3) 2 < 100 ∧ 100 ≤ ((702 : Nat) : Int) - roundDiv (600 + i3) 2) ∧
    (let s := { measuring 1500 0 with pmg := { busy.pmg with level := .l2, fall := 198 } }
     s.pmg.level = .l2 ∧ s.pmg.fall < 199 ∧ s.pmg.limits.ok = true) ∧
    (let s := { measuring 1500 0 with pmg := { busy.pmg with supply := .brownout, level := .l3 } }
     s.pmg.supply = .brownout ∧ s.pmg.limits.ok = true) :=
  ⟨fun _ _ => ⟨(by intro m h; cases h), rfl, rfl, rfl, show busy.pmg.limits.ok = true by decide,
    show busy.pmg.limits.vCrit ≤ min 30000 11196 by decide, show min 30000 9799 < busy.pmg.limits.vCrit by decide, rfl⟩,
   by decide, by decide, by decide, by decide⟩

/-- Rails for the statements about them. -/
def railed (r : Rails) (f : State → State) : State := f { busy with pmg := { busy.pmg with rails := r } }

theorem witness_RailsComeUpAndFault :
    (let s := railed ⟨.on, .on, .on, .ramping 5000000, .off⟩ fun s => { s with sou := .reset }
     s.pmg.rails.get .panelR = .ramping 5000000 ∧ railBefore .illum = some .panelR ∧
       s.pmg.target.covers .illum = true ∧ s.pmg.rails.get .illum = .off ∧ s.pmg.rails.panelL = .on ∧
       s.tlc.link ≠ .sleep ∧ s.sou.scanOut = .off ∧ s.pmg.rails.get .audio ≠ .off) ∧
    (let s := railed ⟨.ramping 5000000, .off, .off, .off, .off⟩ fun s => { s with msu := .powerOn }
     s.pmg.rails.get .sensor = .ramping 5000000 ∧ s.tlc.link ≠ .sleep ∧ (s.msu.imu .a).state = .off ∧
       (s.msu.imu .b).state = .off) ∧
    (let s := railed ⟨.on, .ramping 5000000, .off, .off, .off⟩ id
     s.pmg.rails.get .audio = .ramping 5000000 ∧ 5000000 ≤ s.lt) ∧
    (let s := railed ⟨.on, .on, .on, .on, .fault⟩ id
     s.pmg.rails.get .panelL = .on ∧ .illum ∈ laterRails .panelL ∧ s.pmg.rails.get .illum = .fault) := by decide

theorem witness_RailRestartAndCableResistance :
    ((asks busy .railRestart .tether []).directed .railRestart .tether 7 [] ∧
      ∀ x, (asks busy .railRestart .tether []).pmg.rails.get x ≠ .fault) ∧
    (let s := railed ⟨.on, .fault, .off, .off, .off⟩ id
     (asks s .railRestart .tether []).directed .railRestart .tether 7 [] ∧
       (asks s .railRestart .tether []).pmg.rails.get .audio = .fault ∧
       (asks s .railRestart .tether []).pmg.rails.get .sensor = .on) ∧
    (let q := leBytes 4 65535
     (asks busy .setCableResistance .tether q).directed .setCableResistance .tether 7 q ∧ q.length = 4 ∧
       natAt q 0 4 ≤ 65535) ∧
    (let q := leBytes 4 65536
     (asks busy .setCableResistance .tether q).directed .setCableResistance .tether 7 q ∧
       ¬ (q.length = 4 ∧ natAt q 0 4 ≤ 65535)) :=
  ⟨⟨asks_directed _ _ _ _ rfl rfl, by intro x; cases x <;> decide⟩,
   ⟨asks_directed _ _ _ _ rfl rfl, by decide, by decide⟩,
   ⟨asks_directed _ _ _ _ rfl rfl, by decide, by decide⟩, ⟨asks_directed _ _ _ _ rfl rfl, by decide⟩⟩

/-- The payload of SET_POWER_LIMITS. -/
def limitBytes (a b c d e : Nat) : List Byte :=
  leBytes 2 a ++ leBytes 2 b ++ leBytes 2 c ++ leBytes 2 d ++ leBytes 2 e

theorem witness_PowerLimitsReplaceAllFive :
    (∀ q, (asks busy .setPowerLimits .tether q).turn ReqKind.setPowerLimits.code .tether 7 q = true ∧
      (asks busy .setPowerLimits .tether q).cmu.role = some .tether) ∧
    (let q := limitBytes 1000 30000 6000 5500 5000
     let l : Limits := ⟨natAt q 0 2, natAt q 2 2, natAt q 4 2, natAt q 6 2, natAt q 8 2⟩
     q.length = 10 ∧ (1000 ≤ l.cap ∧ l.cap ≤ 30000) ∧ (1000 ≤ l.safe ∧ l.safe ≤ 30000) ∧
       (6000 ≤ l.vWarn ∧ l.vWarn ≤ 20000) ∧ (5500 ≤ l.vCrit ∧ l.vCrit ≤ 19999) ∧
       (5000 ≤ l.vCut ∧ l.vCut ≤ 19998) ∧ l.vCut < l.vCrit ∧ l.vCrit < l.vWarn) ∧
    (let q := limitBytes 7500 4000 10500 10500 9000
     ¬ natAt q 6 2 < natAt q 4 2) ∧
    (let q := limitBytes 999 4000 10500 9800 9000
     (asks busy .setPowerLimits .service q).turn ReqKind.setPowerLimits.code .service 7 q = true ∧
       (asks busy .setPowerLimits .service q).cmu.role ≠ some .service ∧ ¬ 1000 ≤ natAt q 0 2) :=
  ⟨fun q => ⟨(asks_directed busy .setPowerLimits .tether q rfl rfl).1, rfl⟩, by decide, by decide, by decide⟩

theorem witness_TrainingRecordsAgree :
    (∀ n, (linked (.training n 4990000 none)).tlc.link = .training n 4990000 none) ∧
    (let r : BaseRecord := ⟨3, 15, 30001, 3⟩
     (1 ≤ r.gear ∧ r.gear ≤ 3) ∧ r.lanes < 16 ∧ r.features < 4 ∧
       (((15 : BitVec 4) &&& laneLimit busy.straps.maxLanes) &&& BitVec.ofNat 4 r.lanes).getLsbD 0 = true ∧
       (((15 : BitVec 4) &&& 1) &&& BitVec.ofNat 4 r.lanes).getLsbD 0 = true) ∧
    (let r : BaseRecord := ⟨4, 14, 0, 4⟩
     ¬ r.gear ≤ 3 ∧ ¬ r.features < 4 ∧
       ¬ (((15 : BitVec 4) &&& laneLimit busy.straps.maxLanes) &&& BitVec.ofNat 4 r.lanes).getLsbD 0 = true) :=
  ⟨fun _ => rfl, by decide, by decide⟩

theorem witness_SuccessfulAttemptsEnterActive :
    (let s := linked (.training 2 4980000 (some ⟨⟨.g3, .four⟩, ⟨true, true⟩, 0⟩))
     s.tlc.link = .training 2 4980000 (some ⟨⟨.g3, .four⟩, ⟨true, true⟩, 0⟩) ∧ s.lt ≤ 4980000 + 20000) ∧
    (let s := linked (.retrain ⟨.g2, .two⟩ 3 4980000)
     s.tlc.link = .retrain ⟨.g2, .two⟩ 3 4980000 ∧ s.lt ≤ 4980000 + 20000) := by decide

theorem witness_FailedAttemptsFollowTheirOrder :
    4980000 + 20000 ≤ busy.lt ∧
      (linked (.training 5 4980000 none)).tlc.link = .training 5 4980000 none ∧
      (linked (.training 6 4980000 none)).tlc.link = .training 6 4980000 none ∧
      (linked (.retrain ⟨.g3, .four⟩ 2 4980000)).tlc.link = .retrain ⟨.g3, .four⟩ 2 4980000 ∧
      (linked (.retrain ⟨.g1, .one⟩ 3 4980000)).tlc.link = .retrain ⟨.g1, .one⟩ 3 4980000 ∧
      (linked (.retrain ⟨.g3, .four⟩ 3 4980000)).tlc.link = .retrain ⟨.g3, .four⟩ 3 4980000 ∧
      Gear.g3.below = some .g2 ∧ Gear.g2.below = some .g1 ∧
      ((linked (.training 5 4980000 (some ⟨⟨.g3, .two⟩, ⟨true, true⟩, 0⟩))).tlc.link =
          .training 5 4980000 (some ⟨⟨.g3, .two⟩, ⟨true, true⟩, 0⟩) ∧ LaneSet.two.has 1 = true ∧ 5 < 6) ∧
      (let s (n began : Nat) : State := linked (.retrain ⟨.g3, .two⟩ n began)
       (s 1 5000000).tlc.retrainAt ≠ some (s 1 5000000).lt ∧ (2 ≠ 1 ∧ 2 < 3) ∧ 3 ≤ 3 ∧ 4980000 ≠ (s 1 4980000).lt) := by
  decide

theorem witness_LockLossEntersRetrain :
    let s := linked (.active ⟨.g3, .two⟩)
    s.tlc.link = .active ⟨.g3, .two⟩ ∧ LaneSet.two.has 2 = false ∧ LaneSet.two.has 1 = true ∧
      s.cmu.restart ≠ some .tether := by decide

theorem witness_RetryAndLineEnergyStartTraining :
    ((linked (.down (some 5000000))).tlc.link = .down (some 5000000) ∧ 5000000 ≤ busy.lt) ∧
      (let s := { linked .sleep with msu := .powerOn }
       s.tlc.link = .sleep ∧ s.pmg.rails.sensor = .on ∧ (s.msu.imu .b).state = .off) ∧
      busy.tlc.link ≠ .sleep := by decide

theorem witness_BlocksAreDeliveredOrDiscarded :
    (let good (b : List Byte) : Prop :=
       8 ≤ b.length ∧ natAt b 2 2 + 8 = b.length ∧ crc32 (b.take (b.length - 4)) = natAt b (b.length - 4) 4
     busy.tlc.link = .active ⟨.g3, .four⟩ ∧ ([] : List Byte).length < 8 ∧ busy.tlc.crcCount + 1 < busy.tlc.threshold ∧
       (good (linkBlock 0 1 []) ∧ natAt (linkBlock 0 1 []) 0 1 = 0) ∧
       (good (linkBlock 5 1 [9]) ∧ 4 < natAt (linkBlock 5 1 [9]) 0 1) ∧
       (good (linkBlock 4 3 []) ∧ natAt (linkBlock 4 3 []) 0 1 = 4 ∧ natAt (linkBlock 4 3 []) 1 1 = 3) ∧
       (good (linkBlock 1 0 []) ∧ natAt (linkBlock 1 0 []) 0 1 = 1 ∧ natAt (linkBlock 1 0 []) 1 1 = 0) ∧
       (good (linkBlock 1 4 []) ∧ 3 < natAt (linkBlock 1 4 []) 1 1)) ∧
    (let s := { busy with tlc := { busy.tlc with crcCount := 7 } }
     s.tlc.threshold ≤ s.tlc.crcCount + 1 ∧ s.cmu.restart ≠ some .tether) ∧
    (([] : List Byte).length ≤ 65535 ∧ ((0x04 : Byte) < 0x05 ∧ (0x03 : Byte) < 0x04 ∧ (0x03 : Byte) ≠ 0x01 ∧
       (0x03 : Byte) ≠ 0x02)) ∧
    (let b : List Byte := [0x04, 0x02, 0x00, 0x00, 0x25, 0x9C, 0xA2, 0xAC]
     8 ≤ b.length ∧ natAt b 2 2 + 8 = b.length ∧ crc32 (b.take (b.length - 4)) ≠ natAt b (b.length - 4) 4) ∧
    busy.lt % 1000 = 0 := by
  decide +kernel

theorem witness_TimeMarksMoveOffsetAndBasis :
    busy.tlc.link = .active ⟨.g3, .four⟩ ∧
      (let e (t : Nat) : Int := (natAt (leBytes 8 (t : Nat)) 0 8 : Int) + busy.tlc.lineDelay - (busy.lt + busy.tlc.offset)
       8 ≤ (leBytes 8 5000002).length ∧ (e 5000002).natAbs ≤ 2 ∧ (2 < (e 4999997).natAbs ∧ (e 4999997).natAbs ≤ 500) ∧
         (2 < (e 5000500).natAbs ∧ (e 5000500).natAbs ≤ 500) ∧ 500 < (e 5000501).natAbs) ∧
      (let s := { busy with tlc := { busy.tlc with basis := .locked 4990000 } }
       s.tlc.basis = .locked 4990000 ∧ 4990000 + 10000 ≤ s.lt) ∧
      (let s := { busy with tlc := { busy.tlc with basis := .locked 4990001 } }
       s.tlc.basis = .locked 4990001 ∧ s.lt < 4990001 + 10000) := by decide +kernel

theorem witness_SleepMarkPutsLinkToSleep :
    busy.tlc.link = .active ⟨.g3, .four⟩ ∧ busy.tlc.features = some ⟨true, true⟩ ∧ busy.cmu.restart ≠ some .tether ∧
      busy.pmg.supply = .normal ∧ busy.pmg.rails.sensor ≠ .off ∧
      ∀ f, ({ busy.tlc with features := some ⟨false, true⟩ } : Tlc).features = some f → f.sleep = false :=
  ⟨by decide, by decide, by decide, by decide, by decide, by intro f h; cases h; rfl⟩

/-- A beat, a motion record, a capture block and a message to put into queues. -/
def someBeat : Beat := ⟨0, none, 4, none, 0, .l0, .worn, 0, true, true⟩
def someRecord : MotionRecord := ⟨.a, 1, 0, ⟨0, 0, 0⟩, ⟨0, 0, 0⟩, 0, false, false, false, true, false⟩
def someBlock : CaptureBlock := ⟨1, 0, [], false, false, false, false, true⟩
def someMessage (r : MessageRole) (entered : Nat) : Message := ⟨r, [0x81, 1, 0], entered⟩

theorem witness_StatusBeatIsBuilt :
    busy.tlc.link = .active ⟨.g3, .four⟩ ∧ busy.lt % 1000 = 0 ∧ busy.tlc.beatTakenAt ≠ some busy.lt ∧ busy.tlc.tx = none ∧
      ({ busy.tlc with tx := some .motion, beat := some someBeat } : Tlc).tx ≠ none ∧
      busy.fst.slots.count .showing = 0 ∧
      (let s := shifting false
       s.tlc.link = .active ⟨.g3, .four⟩ ∧ s.lt % 1000 = 0 ∧ s.tlc.beatTakenAt ≠ some s.lt ∧
         (∃ u ∈ s.fst.slots.toList, u.state = .showing) ∧ s.fst.slots.count .showing = 1) := by decide

/-- The part sending something, with what waits behind it. -/
def sending (tx : Transmission) (q : List MotionRecord) (beat : Option Beat) (c : List CaptureBlock) (m : List Message) :
    State :=
  { busy with
    tlc := { busy.tlc with tx := some tx, beat := beat }
    msu := { busy.msu with queue := q }
    aud := { busy.aud with queue := c }
    cmu := { busy.cmu with outTether := m } }

/-- The premises on what is sent, for each of the four; then what may wait behind it. -/
theorem witness_ArbiterChoosesInOrder :
    (∀ tx q b c m, (sending tx q b c m).tlc.link = .active ⟨.g3, .four⟩ ∧ (sending tx q b c m).tlc.tx = some tx ∧
      (sending tx q b c m).tlc.beat = b ∧ (sending tx (someRecord :: q) b c m).msu.queue = someRecord :: q ∧
      (sending tx q b (someBlock :: c) m).aud.queue = someBlock :: c ∧
      ∀ r ∈ [MessageRole.reply, .notice], (sending tx q b c (someMessage r 0 :: m)).cmu.outTether = someMessage r 0 :: m) ∧
    (sending .capture [someRecord] none [someBlock] []).msu.queue ≠ [] ∧
    (sending .motion [] none [] []).pmg.supply ≠ .brownout ∧
    ({ sending .motion [someRecord] none [] [] with pmg := { busy.pmg with supply := .brownout } }).pmg.supply = .brownout ∧
    (∀ n, n + 2000 ≤ busy.lt → ∃ m ms, [someMessage .reply n] = m :: ms ∧ m.entered + 2000 ≤ busy.lt) ∧
    (∀ m ∈ [someMessage .reply 4998001].head?, busy.lt < m.entered + 2000) := by
  refine ⟨fun _ _ _ _ _ => ⟨rfl, rfl, rfl, rfl, rfl, fun _ _ => rfl⟩, by decide, by decide, by decide,
    fun n h => ⟨_, _, rfl, h⟩, ?_⟩
  intro m h
  cases h
  decide

theorem witness_NothingIsTakenOutOfActive :
    (∀ c, (linked .sleep).tlc.link ≠ .active c) ∧ ∀ c, (linked .sleep).tlc.link ≠ .retrain c 1 (linked .sleep).lt :=
  ⟨fun _ h => (nomatch h), fun _ h => (nomatch h)⟩

/-! ### The same for requests, motion, orientation -/

theorem witness_RequestsAreJudged :
    busy.turn ReqKind.attach.code .tether 7 [] = false ∧
      (let s := asks busy .restart .service []
       s.turn ReqKind.restart.code .service 7 [] = true ∧ ReqKind.restart.directing = true ∧
         s.cmu.role ≠ some .service) ∧
      (let s (k : Byte) : State := { busy with cmu := { busy.cmu with queue := [⟨.tether, k, 7, [], false⟩] } }
       (s 0).turn 0 .tether 7 [] = true ∧ (s 0x1C).turn 0x1C .tether 7 [] = true ∧ (0x1B : Byte) < 0x1C) := by
  decide

/-- The busy part with another holder of the role. -/
def held (r : Option Port) : State := { busy with cmu := { busy.cmu with role := r } }

theorem witness_RoleIsTakenAndReleased :
    (∀ r q, (asks (held r) .attach .tether q).turn ReqKind.attach.code .tether 7 q = true ∧
      (asks (held r) .attach .tether q).cmu.role = r) ∧
    Port.service ≠ .tether ∧ ([0] : List Byte) ≠ [] ∧ (asks busy .detach .tether []).directed .detach .tether 7 [] ∧
    (let s := held none
     s.ntu.enabled.has .controllerChange = true ∧ s.ntu.timer = none ∧
       ({ s.ntu with timer := some 5000500 } : Ntu).timer ≠ none ∧
       (let n : Ntu := { s.ntu with enabled := .none }
        ¬ (n.enabled.has .controllerChange = true ∨ n.summary ≠ []))) :=
  ⟨fun r q => ⟨by simp [asks, held, busy, State.turn, Cmu.next, Cmu.powerOn], rfl⟩, by decide, by decide,
   asks_directed _ _ _ _ rfl rfl, by decide +kernel⟩

theorem witness_RestartAndSleepFollowTheirReplies :
    ((asks (linked .sleep) .restart .tether []).directed .restart .tether 7 [] ∧
      ∀ c, (asks (linked .sleep) .restart .tether []).tlc.link ≠ .active c) ∧
    ((asks busy .restart .tether []).directed .restart .tether 7 [] ∧
      ∃ c, (asks busy .restart .tether []).tlc.link = .active c) ∧
    (asks (held (some .service)) .restart .service []).directed .restart .service 7 [] ∧
    (let s := { busy with cmu := { busy.cmu with serviceTx := .head, outService := [someMessage .restartReply 0] } }
     s.cmu.serviceTx = .head ∧ s.cmu.outService = someMessage .restartReply 0 :: [] ∧
       (someMessage .restartReply 0).role = .restartReply) ∧
    ((asks busy .linkSleep .tether []).directed .linkSleep .tether 7 [] ∧ busy.tlc.features = some ⟨true, true⟩) ∧
    ((asks (linked .sleep) .linkSleep .tether []).directed .linkSleep .tether 7 [] ∧
      ∀ c (f : Features), (asks (linked .sleep) .linkSleep .tether []).tlc.link = .active c →
        (linked .sleep).tlc.features = some f → f.sleep = false) ∧
    (let s := { busy with
       tlc := { busy.tlc with tx := some .control, sleepPending := true }
       cmu := { busy.cmu with outTether := [someMessage .sleepReply 0] } }
     s.tlc.link = .active ⟨.g3, .four⟩ ∧ s.tlc.tx = some .control ∧ s.cmu.outTether = someMessage .sleepReply 0 :: [] ∧
       (someMessage .sleepReply 0).role = .sleepReply ∧ s.tlc.sleepPending = true ∧
       s.cmu.restart ≠ some .tether) :=
  ⟨⟨asks_directed _ _ _ _ rfl rfl, (by intro c h; cases h)⟩, ⟨asks_directed _ _ _ _ rfl rfl, ⟨_, rfl⟩⟩,
   asks_directed _ _ _ _ rfl rfl, by decide, ⟨asks_directed _ _ _ _ rfl rfl, by decide⟩,
   ⟨asks_directed _ _ _ _ rfl rfl, (by intro c f h; cases h)⟩, by decide⟩

/-- Entries that wait in the command queue. -/
def entries (n : Nat) : List Entry := List.replicate n ⟨.tether, 3, 1, [], false⟩

theorem witness_MessagesArriveAndLeave :
    busy.tlc.link = .active ⟨.g3, .four⟩ ∧ ([9] : List Byte).length < 2 ∧ 2 ≤ ([3, 1] : List Byte).length ∧
      (let s := { busy with cmu := { busy.cmu with queue := entries 7 } }
       s.cmu.queue.length < 8 ∧ s.straps.serviceEn = true ∧ s.cmu.storeState ≠ .loading ∧ s.cmu.rx = []) ∧
      8 ≤ ({ busy.cmu with queue := entries 8 } : Cmu).queue.length ∧
      (let s := { busy with cmu := { busy.cmu with rx := [0xA5, 4], rxLast := 4998999 } }
       s.cmu.rx = 0xA5 :: [4] ∧ (∀ b ∈ ([4] : List Byte), b ≠ 0xA5) ∧ ([4] : List Byte).length < 2 ∧
         s.cmu.rxLast + 1000 < s.lt) ∧
      (let q : List Byte := [0, 8, 1, 2]
       let s := { busy with cmu := { busy.cmu with rx := 0xA5 :: q, rxLast := 4998999 } }
       s.cmu.rx = 0xA5 :: q ∧ (∀ b ∈ q, b ≠ 0xA5) ∧ 1 ≤ natAt q 0 2 ∧ natAt q 0 2 ≤ 2048 ∧ q.length < natAt q 0 2 + 4 ∧
         s.cmu.rxLast + 1000 < s.lt) ∧
      (∀ q ∈ ([[0, 0], [1, 8], [2, 0, 3, 1, 0, 0]] : List (List Byte)), 2 ≤ q.length ∧ ∀ b ∈ q, b ≠ 0xA5) ∧
      natAt [0, 0] 0 2 = 0 ∧ 2048 < natAt [1, 8] 0 2 ∧
      (let q : List Byte := [2, 0, 3, 1, 0, 0]
       natAt q 0 2 + 4 ≤ q.length ∧ crc16 (q.take (natAt q 0 2 + 2)) ≠ natAt q (natAt q 0 2 + 2) 2) ∧
      (8 ≤ ([3, 1, 0, 0, 0, 0, 0, 0] : List Byte).length ∧ ([3, 1, 0, 0, 0, 0, 0, 0] : List Byte).length ≤ 255) ∧
      busy.lt ≤ ({ busy.cmu with rxLast := 4999000 } : Cmu).rxLast + 1000 ∧
      (let s (r : MessageRole) : State :=
         { busy with cmu := { busy.cmu with serviceTx := .head, outService := [someMessage r 0] } }
       (s .reply).cmu.outService = someMessage .reply 0 :: [] ∧ (someMessage .reply 0).role = .reply ∧
         (s .notice).cmu.outService = someMessage .notice 0 :: [] ∧ (someMessage .notice 0).role = .notice ∧
         (s .reply).cmu.serviceTx = .head) := by decide

theorem witness_ReadOnlyRequestsReport :
    (∀ k q, (asks busy k .service q).turn k.code .service 7 q = true) ∧ (9 : Byte) < 10 ∧
      (asks busy .readCounters .service [0, 1]).cmu.role ≠ some .service ∧
      (∀ k q, (asks busy k .tether q).turn k.code .tether 7 q = true) ∧
      (asks busy .readCounters .tether [0, 1]).cmu.role = some .tether ∧ (11 : Byte) < 12 ∧ (1 : Byte) < 2 :=
  ⟨fun k q => by simp [asks, busy, State.turn, Cmu.next, Cmu.powerOn], by decide, by decide,
   fun k q => by simp [asks, busy, State.turn, Cmu.next, Cmu.powerOn], rfl, by decide, by decide⟩

/-- The busy part with another wear state. -/
def worn (w : Wear) : State := { busy with msu := { busy.msu with wear := w } }

theorem witness_MotionSettingsAreTaken :
    (∀ k q, (asks busy k .tether q).directed k .tether 7 q) ∧
    (let q := leBytes 2 250
     q.length = 2 ∧ natAt q 0 2 = 250) ∧
    (let q := leBytes 2 999
     ¬ (q.length = 2 ∧ (natAt q 0 2 = 1000 ∨ natAt q 0 2 = 500 ∨ natAt q 0 2 = 250))) ∧
    (let q := leBytes 2 4095 ++ leBytes 2 4094 ++ leBytes 2 1
     (q.length = 6 ∧ natAt q 0 2 ≤ 4095 ∧ natAt q 2 2 < natAt q 0 2 ∧ 1 ≤ natAt q 4 2 ∧ natAt q 4 2 ≤ 600) ∧
       (∀ since, (worn (.removed 4000001)).msu.wear = .removed since → busy.lt < since + 1 * 1000000) ∧
       ((worn (.removed 4000000)).msu.wear = .removed 4000000 ∧ 4000000 + natAt q 4 2 * 1000000 ≤ busy.lt)) ∧
    (let q := leBytes 2 100 ++ leBytes 2 100 ++ leBytes 2 601
     ¬ natAt q 2 2 < natAt q 0 2 ∧ ¬ natAt q 4 2 ≤ 600) ∧
    (let s := { busy with
       msu := { busy.msu with a := { runningImu with syncAt := some 5003000 } }
       prr := ⟨some ⟨1, 4999500, .sync ⟨true, false⟩ 5003000⟩, 1, none⟩ }
     (∃ x ∈ (⟨true, false⟩ : Targets).list, (s.msu.imu x).syncAt ≠ none) ∧
       (after (.setSensorRate .tether 7 (leBytes 2 250)) (asks s .setSensorRate .tether (leBytes 2 250))).period ≠ s.period ∧
       (after (.setSensorRate .tether 7 (leBytes 2 1000)) (asks s .setSensorRate .tether (leBytes 2 1000))).period =
         s.period ∧
       busy.msu.a.syncAt = none ∧ busy.msu.b.syncAt = none) :=
  ⟨fun _ _ => asks_directed _ _ _ _ rfl rfl, by decide, by decide,
   ⟨by decide, (by intro since h; cases h; decide), by decide⟩, by decide, by decide +kernel⟩

theorem witness_OrientationSettingsAreTaken :
    (∀ k q, (asks busy k .tether q).directed k .tether 7 q) ∧
    (let m : AxisMap := ⟨⟨.z, true⟩, ⟨.x, false⟩, ⟨.y, false⟩⟩
     m.yaw.source ≠ m.pitch.source ∧ m.yaw.source ≠ m.roll.source ∧ m.pitch.source ≠ m.roll.source) ∧
    (∀ m : AxisMap, m.yaw.source ≠ m.pitch.source → m.yaw.source ≠ m.roll.source → m.pitch.source ≠ m.roll.source →
      ([] : List Byte) ≠ m.bytes) ∧
    ((busy.msu.imu .a).state = .running ∧ Sensor.a = busy.oin.primary ∧ (busy.msu.imu .b).state = .running ∧
      Sensor.b ≠ busy.oin.primary ∧ (State.reset.msu.imu .a).state ≠ .running ∧ ([2] : List Byte) ≠ [0] ∧
      ([2] : List Byte) ≠ [1]) ∧
    (let q := leBytes 4 737279 ++ leBytes 4 (-737280) ++ leBytes 4 0
     q.length = 12 ∧ (⟨intAt q 0 4, intAt q 4 4, intAt q 8 4⟩ : Angles).inTurn) ∧
    (let q := leBytes 4 737280 ++ leBytes 4 0 ++ leBytes 4 0
     ¬ (⟨intAt q 0 4, intAt q 4 4, intAt q 8 4⟩ : Angles).inTurn) :=
  ⟨fun _ _ => asks_directed _ _ _ _ rfl rfl, by decide, (by intro m _ _ _ h; cases h), by decide,
   by unfold Angles.inTurn InTurn; decide, by unfold Angles.inTurn InTurn; decide⟩

/-- A payload of ANCHOR, and a ring of two entries. -/
def anchorBytes (t : Nat) (yaw : Int) : List Byte := leBytes 8 t ++ leBytes 4 yaw ++ leBytes 4 0 ++ leBytes 4 0
def ringed : State := { busy with oin := { busy.oin with ring := [⟨4000000, .zero, .zero⟩, ⟨4001000, .zero, .zero⟩] } }

theorem witness_AnchorCorrectsTheRing :
    (∀ q, (asks ringed .anchor .tether q).turn ReqKind.anchor.code .tether 7 q = true ∧
      (asks ringed .anchor .tether q).cmu.role = some .tether) ∧
    (let q := anchorBytes 4000000 0
     (asks ringed .anchor .service q).turn ReqKind.anchor.code .service 7 q = true ∧
       (asks ringed .anchor .service q).cmu.role ≠ some .service) ∧
    (ringed.oin.ring.Pairwise (fun x y => x.time < y.time) ∧
      ∀ x ∈ ringed.oin.ring, (x.time : Int) < (natAt (anchorBytes 4001001 0) 0 8 : Int) - ringed.tlc.offset) ∧
    busy.oin.ring = [] ∧
    (let good (q : List Byte) : Prop := q.length = 20 ∧ (⟨intAt q 8 4, intAt q 12 4, intAt q 16 4⟩ : Angles).inTurn
     good (anchorBytes 4000000 737279) ∧ ¬ good (anchorBytes 4000000 737280) ∧ good (anchorBytes 3999999 0)) ∧
    (natAt (anchorBytes 4000000 737279) 0 8 : Int) - ringed.tlc.offset = 4000000 ∧
    (natAt (anchorBytes 3999999 0) 0 8 : Int) - ringed.tlc.offset < 4000000 ∧
    ringed.oin.ring = ⟨4000000, .zero, .zero⟩ :: [⟨4001000, .zero, .zero⟩] :=
  ⟨fun q => ⟨(asks_directed ringed .anchor .tether q rfl rfl).1, rfl⟩, by decide, by decide, rfl,
   by unfold Angles.inTurn InTurn; decide, by decide, by decide, rfl⟩

/-- The busy part with another state of IMU-A. -/
def imuIn (st : ImuState) (fails : Nat) : State :=
  { busy with msu := { busy.msu with a := { runningImu with state := st, fails := fails } } }

theorem witness_ImuStartsFaultsAndRetries :
    (∀ st n, ((imuIn st n).msu.imu .a).state = st ∧ ((imuIn st n).msu.imu .a).fails = n) ∧
      Sensor.a = busy.oin.primary ∧ 4950000 + 50000 ≤ busy.lt ∧ 5000000 ≤ busy.lt ∧
      (let s := { busy with oin := { busy.oin with silenceAt := some 5000000 } }
       s.oin.silenceAt = some 5000000 ∧ 5000000 ≤ s.lt ∧ s.oin.primary = .a ∧ (s.msu.imu (other .a)).state = .running) ∧
      (let s := { busy with oin := { busy.oin with primary := .b, failoverPending := true } }
       Sensor.a ≠ s.oin.primary ∧ s.oin.failoverPending = true) ∧
      ((imuIn .off 0).msu.imu (other .b)).state ≠ .running :=
  ⟨fun _ _ => ⟨rfl, rfl⟩, by decide, by decide, by decide, by decide, by decide, by decide⟩

/-- The busy part with the reads of one tick or two, and with IMU-B at or before its sync tick. -/
def reading (ticks : List Tick) (fails : Nat) (queue : List MotionRecord) : State :=
  { imuIn .running fails with msu := { (imuIn .running fails).msu with ticks := ticks, queue := queue } }
def holding (t : Nat) : State := { busy with msu := { busy.msu with b := { runningImu with syncAt := some t } } }

/-- A full motion queue. -/
def fullQueue : List MotionRecord := List.replicate 64 someRecord

theorem witness_SamplesAreReadAndIntegrated :
    (∀ s ∈ [busy, holding 5000000, holding 5001000], s.lt % s.period = 0 ∧ s.msu.lastTick ≠ some s.lt ∧
      s.msu.barred ≠ some s.lt ∧ (s.msu.imu .b).state = .running ∧ s.msu.busy .b = false) ∧
    (busy.msu.imu .b).syncAt = none ∧ ((holding 5000000).msu.imu .b).syncAt = some (holding 5000000).lt ∧
    (((holding 5001000).msu.imu .b).syncAt = some 5001000 ∧ (holding 5001000).lt < 5001000) ∧
    (∀ x y n q, let s := reading [⟨4999000, [⟨x, 1, y, .inProgress⟩]⟩] n q
      s.msu.ticks = [⟨4999000, [⟨x, 1, y, .inProgress⟩]⟩] ∧ s.msu.queue = q ∧ (s.msu.imu .a).fails = n ∧
        s.oin.primary = .a ∧ s.oin.satRun < 9 ∧ s.oin.ring.length < 128) ∧
    (64 ≤ fullQueue.length ∧ fullQueue = someRecord :: fullQueue.tail ∧
      (sending .motion fullQueue (some someBeat) [] []).tlc.tx = some .motion) ∧
    (let d : ImuData := ⟨1, 2, 3, 4, 5, 6, none⟩
     let s := reading [⟨4998000, [⟨.b, 1, false, .succeeded d⟩, ⟨.a, 1, false, .inProgress⟩]⟩,
       ⟨4999000, [⟨.b, 2, false, .failed⟩]⟩] 1 []
     s.msu.ticks = [⟨4998000, [⟨.b, 1, false, .succeeded d⟩, ⟨other .b, 1, false, .inProgress⟩]⟩,
         ⟨4999000, [⟨.b, 1 + 1, false, .failed⟩]⟩] ∧ s.msu.queue.length < 64 ∧ (s.msu.imu (other .b)).fails < 2) :=
  ⟨by decide, by decide, by decide, by decide,
   fun _ _ _ _ => ⟨rfl, rfl, rfl, rfl, (by show 0 < 9; decide), (by show 0 < 128; decide)⟩, by decide, by decide⟩

/-- The busy part with a wear read in progress. -/
def wearing (f : Msu → Msu) : State := { busy with msu := f { busy.msu with wearBusy := true } }

theorem witness_WearAndStalenessFollowTheirRules :
    (busy.pmg.rails.sensor = .on ∧ busy.lt % 20000 = 0 ∧ busy.msu.lastWearTick ≠ some busy.lt ∧
      busy.msu.wearBusy = false) ∧
    (let s := wearing fun m => { m with wornCount := 9, wear := .unknown }
     s.msu.wearBusy = true ∧ s.msu.readWorn ≤ 2400 ∧ s.msu.wornCount = 9 ∧ s.msu.wear ≠ .worn ∧
       s.tlc.link ≠ .sleep ∧ (linked .sleep).tlc.link = .sleep ∧ (linked .sleep).tlc.features = some ⟨true, true⟩) ∧
    (let s := wearing fun m => { m with wornCount := 8, wear := .away }
     s.msu.wornCount < 9 ∧ s.msu.wear ≠ .worn) ∧
    (let s := wearing fun m => { m with removedCount := 9 }
     s.msu.wearBusy = true ∧ 1599 < s.msu.readRemoved ∧ 1599 < s.msu.readWorn ∧ s.msu.removedCount = 9 ∧
       s.msu.wear = .worn) ∧
    (let s := wearing fun m => { m with wearFails := 49 }
     s.msu.wearBusy = true ∧ s.msu.wearFails = 49 ∧ s.msu.wear ≠ .unknown) ∧
    (let s := { worn (.removed 0) with lt := 30000000 }
     s.msu.wear = .removed 0 ∧ 0 + s.msu.awayTime * 1000000 ≤ s.lt ∧ s.fst.profile.awayBlank = true) ∧
    (let s (n : Nat) : State := { busy with oin := { busy.oin with ring := [⟨n, .zero, .zero⟩] } }
     (s 4949999).oin.ring.getLast? = some ⟨4949999, .zero, .zero⟩ ∧ 4949999 + 50000 < busy.lt ∧
       (s 4950000).oin.ring.getLast? = some ⟨4950000, .zero, .zero⟩ ∧ busy.lt ≤ 4950000 + 50000) ∧
    busy.oin.ring = [] := by decide

/-! ### The same for pictures, illumination, sound -/

/-- A slot in use, and the busy part with four slots. -/
def slotIn (st : SlotState) (n : FrameNo) : Slot := { Slot.empty with state := st, frame := n, unposed := true }
def slotted (a b c d : Slot) (newest : Option FrameNo) : State :=
  { busy with fst := { busy.fst with slots := ⟨a, b, c, d⟩, newest := newest } }

/-- The payload of FRAME_BEGIN: frame number, posed flag, yaw. -/
def beginBytes (n flags : Nat) (yaw : Int) : List Byte :=
  leBytes 4 n ++ leBytes 4 flags ++ leBytes 8 77 ++ leBytes 4 yaw ++ leBytes 4 0 ++ leBytes 4 0

theorem witness_FrameBeginIsJudgedInOrder :
    let angles (q : List Byte) : Angles := ⟨intAt q 16 4, intAt q 20 4, intAt q 24 4⟩
    busy.tlc.link = .active ⟨.g3, .four⟩ ∧ (beginBytes 5 0 0).tail.length < 28 ∧
      ((byteAt (beginBytes 5 1 737280) 4).getLsbD 0 = true ∧ ¬ (angles (beginBytes 5 1 737280)).inTurn) ∧
      (let q := beginBytes 5 1 737279
       (28 ≤ q.length ∧ (angles q).inTurn) ∧
         (let s := slotted .empty .empty .empty .empty (some 5)
          s.fst.newest = some 5 ∧ frameGreater (BitVec.ofNat 32 (natAt q 0 4)) 5 = false) ∧
         (let s := slotted (slotIn .showing 1) (slotIn .ready 2) (slotIn .ready 3) (slotIn .filling 4) (some 4)
          (∀ m, s.fst.newest = some m → frameGreater (BitVec.ofNat 32 (natAt q 0 4)) m = true) ∧
            (∀ u ∈ s.fst.slots.toList, u.state = .ready ∨ u.state = .showing →
              frameGreater (BitVec.ofNat 32 (natAt q 0 4)) u.frame = true) ∧
            s.fst.slots.count .free = 0) ∧
         (slotted (slotIn .showing 1) .empty .empty (slotIn .filling 4) (some 4)).fst.slots.count .free ≠ 0) := by
  refine ⟨by decide, by decide, ⟨by decide, by unfold Angles.inTurn InTurn; decide⟩,
    ⟨by decide, by unfold Angles.inTurn InTurn; decide⟩, by decide, ⟨?_, by decide, by decide⟩, by decide⟩
  intro m h
  cases h
  decide

theorem witness_LinesAndFrameEndFillTheSlot :
    (filling.tlc.link = .active ⟨.g3, .four⟩ ∧ filling.fst.slots.ordered ∧
      slotIn .filling 6 ∈ filling.fst.slots.toList ∧ (slotIn .filling 6).state = .filling ∧
      (slotIn .filling 6).frame = BitVec.ofNat 32 (natAt (leBytes 4 6) 0 4)) ∧
    (let q := linesBytes 6 1 1 1 [1, 2, 3, 4, 5, 6]
     10 ≤ q.length ∧ natAt q 4 1 ≤ 1 ∧ 0 < natAt q 8 2 ∧ natAt q 6 2 + natAt q 8 2 ≤ filling.fst.profile.rows ∧
       q.length = 10 + natAt q 8 2 * (filling.fst.profile.columns * 3)) ∧
    (let q := linesBytes 6 0 1 2 []
     10 ≤ q.length ∧ ¬ natAt q 6 2 + natAt q 8 2 ≤ filling.fst.profile.rows) ∧
    (let q := linesBytes 7 0 0 1 []
     ∀ u ∈ filling.fst.slots.toList, u.state = .filling → u.frame ≠ BitVec.ofNat 32 (natAt q 0 4)) ∧
    (let rows : EyeRows := [(0, [1, 2, 3, 4, 5, 6]), (1, [1, 2, 3, 4, 5, 6])]
     let u := { slotIn .filling 6 with left := rows, right := rows }
     (∀ r < filling.fst.profile.rows, rowOf u.left r ≠ none ∧ rowOf u.right r ≠ none)) ∧
    (¬ ∀ r < filling.fst.profile.rows, rowOf (slotIn .filling 6).left r ≠ none ∧ rowOf (slotIn .filling 6).right r ≠ none) := by
  refine ⟨⟨by decide, by unfold Slots.ordered; decide, by decide, by decide, by decide⟩, by decide, by decide, by decide,
    by decide, by decide⟩

/-- Blank starts: a drop, a plain change, a repeat, nothing to show. -/
theorem witness_BlankStartSelectsAFrame :
    (busy.sou.schedule = some ⟨5000000, 11111⟩ ∧ 5000000 ≤ busy.lt ∧ busy.sou.scanOut ≠ .off) ∧
    (let s := slotted (slotIn .showing 1) (slotIn .ready 2) (slotIn .ready 3) .empty (some 3)
     (∃ u ∈ s.fst.slots.toList, u.state = .ready ∧
       ∀ v ∈ s.fst.slots.toList, v.state = .ready → v = u ∨ frameGreater u.frame v.frame = true) ∧
       0 < s.fst.slots.count .ready - 1 ∧ s.pmg.level ≠ .l3 ∧ s.pmg.rails.illum = .on ∧ s.msu.wear ≠ .away ∧
       0 < s.fst.profile.blank ∧ s.lt + s.fst.profile.blank ≤ 5011110) ∧
    (let s := slotted (slotIn .showing 1) (slotIn .ready 2) .empty .empty (some 2)
     s.fst.slots.count .ready - 1 = 0 ∧ slotIn .ready 2 ∈ s.fst.slots.toList) ∧
    (let s := slotted (slotIn .showing 1) .empty .empty .empty (some 1)
     s.fst.slots.count .ready = 0 ∧ 0 < s.fst.slots.count .showing) ∧
    (busy.fst.slots.count .ready = 0 ∧ busy.fst.slots.count .showing = 0) := by decide

/-- One frame shown, posed or not, with or without an override, with an entry exactly 50,000 µs old, and the first pixel. -/
theorem witness_LateShiftIsFormed :
    let s := { shifting true with lt := 5050000 }
    (s.sou.schedule = some ⟨5006000, 11111⟩ ∧ 5006000 ≤ s.lt ∧ s.sou.scanOut ≠ .off) ∧
      ((after .blankStart s).fst.slots.find .showing).isSome = true ∧
      (∀ u ∈ (after .blankStart s).fst.slots.find .showing, u.unposed = false) ∧ s.oin.pose = none ∧
      s.oin.ring.getLast? = some ⟨5000000, ⟨42700, -8000, 0⟩, ⟨5760, -640, 0⟩⟩ ∧ s.lt ≤ 5000000 + 50000 ∧
      (∀ e ∈ (shifting true).oin.ring.getLast?, e.time + 50000 < 5050001) ∧
      ({ s.oin with pose := some ⟨1, 2, 3⟩ } : Oin).pose = some ⟨1, 2, 3⟩ ∧ (slotIn .showing 1).unposed = true ∧
      0 < s.fst.profile.columns ∧ 0 < s.fst.profile.rows ∧ s.lt + s.fst.profile.blank ≤ 5061111 := by
  decide +kernel

theorem witness_ProfileIsReplacedWhole :
    (∀ q, (asks busy .setProfile .tether q).directed .setProfile .tether 7 q) ∧ Profile.builtIn.ok = true ∧
      (∀ f : Profile, f.ok = true → ([] : List Byte) ≠ f.bytes) ∧
      (let s := slotted (slotIn .showing 1) (slotIn .ready 2) (slotIn .filling 3) .empty (some 3)
       0 < s.fst.slots.count .ready ∧ 0 < s.fst.slots.count .filling ∧ s.sou.scanOut ≠ .off) ∧
      State.reset.sou.scanOut = .off :=
  ⟨fun _ => asks_directed _ _ _ _ rfl rfl, by decide, (by intro f _ h; cases h), by decide, by decide⟩

/-- The payload of STAGE_PULSES. -/
def pulseBytes (a b c d i : Nat) : List Byte := leBytes 2 a ++ leBytes 2 b ++ leBytes 2 c ++ leBytes 2 d ++ leBytes 1 i

theorem witness_StagedSetIsReplacedWhole :
    (∀ q, (asks busy .stagePulses .tether q).turn ReqKind.stagePulses.code .tether 7 q = true ∧
      (asks busy .stagePulses .tether q).cmu.role = some .tether) ∧
    (let good (q : List Byte) : Prop := q.length = 9 ∧ natAt q 0 2 ≤ 16167 ∧ natAt q 2 2 ≤ 16167 ∧ natAt q 4 2 ≤ 16167 ∧
       natAt q 6 2 ≤ 16167 ∧ natAt q 8 1 ≤ 1
     good (pulseBytes 16167 0 16167 16167 1) ∧ ¬ good (pulseBytes 16168 0 0 0 0) ∧ ¬ good (pulseBytes 0 0 0 0 2)) ∧
    (let q := pulseBytes 0 0 0 0 0
     (asks busy .stagePulses .service q).turn ReqKind.stagePulses.code .service 7 q = true ∧
       (asks busy .stagePulses .service q).cmu.role ≠ some .service) ∧
    (busy.sou.schedule = some ⟨5000000, 11111⟩ ∧ 5000000 ≤ busy.lt ∧ busy.sou.scanOut ≠ .off) ∧
    State.reset.sou.scanOut = .off :=
  ⟨fun q => ⟨(asks_directed busy .stagePulses .tether q rfl rfl).1, rfl⟩, by decide, by decide, by decide, by decide⟩

/-- The busy part emitting, its left panel in a phase. -/
def emitting (p : PulsePhase) : State :=
  { busy with ilg := { busy.ilg with
    output := .emitting, periodStart := some 4998000, active := ⟨⟨1000, 1000⟩, ⟨2000, 100⟩⟩, phaseLeft := p } }

theorem witness_PulsesAreCopiedAndLit :
    (let s := shifting false
     s.sou.schedule = some ⟨5006000, 11111⟩ ∧ 5006000 ≤ s.lt ∧ s.sou.scanOut ≠ .off ∧ 500 ≤ s.fst.profile.period ∧
       s.ilg.staged.left.offset + s.ilg.staged.left.width * 100 / 100 ≤ s.fst.profile.period - 500 ∧
       ¬ (s.ilg.interleaveRequest = true ∨ s.pmg.level ≠ .l0) ∧
       s.ilg.staged.right.offset + s.ilg.staged.right.width * 100 / 100 ≤ s.fst.profile.period - 500) ∧
    (let s := { busy with ilg := { busy.ilg with staged := ⟨⟨10611, 1⟩, ⟨0, 0⟩⟩ } }
     s.ilg.staged.left.offset ≤ s.fst.profile.period - 500 ∧
       s.fst.profile.period - 500 < s.ilg.staged.left.offset + s.ilg.staged.left.width * 100 / 100) ∧
    ((shifting true).ilg.interleaveRequest = true ∧ 0 < (after .blankStart (shifting true)).ilg.active.right.width) ∧
    (let s := emitting .toCome
     s.ilg.periodStart = some 4998000 ∧ s.ilg.output = .emitting ∧ s.ilg.phase .left = .toCome ∧
       4998000 + (s.ilg.active.side .left).offset ≤ s.lt) ∧
    (let s := emitting .lit
     s.ilg.phase .left = .lit ∧
       4998000 + (s.ilg.active.side .left).offset + (s.ilg.active.side .left).width ≤ s.lt) ∧
    busy.ilg.output = .dark := by decide +kernel

/-- The payload of a SOUND block: its sequence, then 48 frames of zeros. -/
def soundBytes (n : Nat) : List Byte := leBytes 2 n ++ List.replicate 288 0

/-- The busy part with its playback given. -/
def playing (f : Aud → Aud) : State := { busy with aud := f busy.aud }

theorem witness_SoundBlocksAreTaken :
    (busy.tlc.link = .active ⟨.g3, .four⟩ ∧ (soundBytes 5).tail.length < 290 ∧ 290 ≤ (soundBytes 5).length) ∧
    (State.reset.aud.playback = .stopped ∧ State.reset.pmg.rails.audio ≠ .on) ∧
    ¬ (busy.aud.playback = .stopped ∧ busy.pmg.rails.audio ≠ .on) ∧
    (let s := playing fun a => { a with expected := some 6 }
     s.aud.expected = some 6 ∧ 32768 ≤ ((BitVec.ofNat 16 (natAt (soundBytes 5) 0 2) : Seq) - 6).toNat) ∧
    (let s := playing fun a => { a with expected := some 5 }
     s.aud.expected = some 5 ∧ 0 = ((BitVec.ofNat 16 (natAt (soundBytes 5) 0 2) : Seq) - 5).toNat) ∧
    (let s := playing fun a => { a with expected := some 32774 }
     s.aud.expected = some 32774 ∧ 32767 = ((BitVec.ofNat 16 (natAt (soundBytes 5) 0 2) : Seq) - 32774).toNat) ∧
    busy.aud.expected = none ∧
    ((soundFrames (soundBytes 5) 2 48).take (512 - 464)).length = 48 ∧
    ((soundFrames (soundBytes 5) 2 48).take (512 - 465)).length < 48 := by decide +kernel

/-- The playback states of the clauses of PlaybackDone. -/
theorem witness_OutputInstantPlaysAndCaptures :
    (busy.pmg.rails.audio = .on ∧ busy.aud.lastInstant ≠ some busy.lt ∧ ∃ j < 48, busy.lt % 1000 = j * 125 / 6) ∧
    (∃ j < 48, 5000979 % 1000 = j * 125 / 6) ∧ busy.aud.playback = .stopped ∧
    (let s := playing fun a => { a with playback := .priming, target := 1 }
     s.aud.playback = .priming ∧ s.aud.buffer.length < s.aud.target) ∧
    (let s := playing fun a => { a with playback := .priming, target := 1, buffer := [⟨1, 2⟩] }
     s.aud.playback = .priming ∧ s.aud.buffer = ⟨1, 2⟩ :: [] ∧ s.aud.target ≤ ([] : List Stereo).length + 1) ∧
    (let s := playing fun a => { a with playback := .playing }
     s.aud.playback = .playing ∧ s.aud.again = none ∧ s.aud.buffer = [] ∧ s.aud.due = none) ∧
    (let s (n : Nat) := playing fun a => { a with playback := .underrun, faded := n, target := 1 }
     (s 0).aud.playback = .underrun ∧ (s 63).aud.faded < 64 ∧ 64 ≤ (s 64).aud.faded ∧
       (s 64).aud.buffer.length < (s 64).aud.target) ∧
    (let s := playing fun a => { a with playback := .underrun, faded := 64, target := 1, buffer := [⟨1, 2⟩] }
     (s.aud.playback = .underrun ∧ 64 ≤ s.aud.faded) ∧ s.aud.target ≤ ([] : List Stereo).length + 1) ∧
    (let s (d : Adjust) (q : List Stereo) := playing fun a => { a with playback := .playing, due := some d, buffer := q }
     (s .removal [⟨1, 2⟩, ⟨3, 4⟩]).aud.buffer = ⟨1, 2⟩ :: ⟨3, 4⟩ :: [] ∧ (s .removal [⟨1, 2⟩]).aud.buffer = [⟨1, 2⟩] ∧
       (s .removal [⟨1, 2⟩]).aud.due = some .removal ∧ (s .insertion [⟨1, 2⟩]).aud.due = some .insertion ∧
       (s .insertion [⟨1, 2⟩]).aud.buffer = ⟨1, 2⟩ :: []) ∧
    (let s := playing fun a => { a with playback := .playing, again := some ⟨1, 2⟩ }
     s.aud.again = some ⟨1, 2⟩) := by
  refine ⟨⟨by decide, by decide, ⟨0, by decide, by decide⟩⟩, ⟨47, by decide, by decide⟩, ?_⟩
  decide

/-- The clauses of DriftWindow and DriftRun: in a window, at its tenth sample, with each decision, and at the limit. -/
theorem witness_DriftWindow :
    let s (played : Nat) (window : List Nat) (run : Nat) := playing fun a =>
      { a with
        playback := .playing, buffer := [⟨1, 2⟩, ⟨3, 4⟩], played := played, window := window, target := 96
        runDirection := .removal, runLength := run }
    let err (n : Nat) : Int := (((List.replicate 9 n).sum + 1) / 10 : Nat) - ((s 47 [] 0).aud.target : Int)
    ((s 46 [] 0).aud.played + 1) % 48 ≠ 0 ∧ ((s 47 [1] 0).aud.played + 1) % 48 = 0 ∧ (s 47 [1] 0).aud.window.length < 9 ∧
      (s 47 (List.replicate 9 1) 0).aud.window.length = 9 ∧ 48 < err 161 ∧ err 50 < -48 ∧ (-48 ≤ err 106 ∧ err 106 ≤ 48) ∧
      ((s 1 [] 8).aud.runDirection = .removal ∧ (s 1 [] 8).aud.runLength + 1 < 10 ∧ 10 ≤ (s 1 [] 9).aud.runLength + 1) := by
  decide

/-- The part with a capture block in formation, its voice gate given. -/
def capturing (frames : Nat) (v : Int) (f : Aud → Aud) : State :=
  { playing (fun a => f { a with forming := some ⟨4999000, List.replicate frames (v, 0)⟩, openThreshold := 100 }) with
    lt := 5000979 }

/-- The clauses of CaptureDone: frames of a block, its end in each state of the gate, a full queue. -/
theorem witness_CaptureDone :
    (busy.aud.captureEnabled = true ∧ busy.lt % 1000 = 0 ∧ ({ busy.aud with captureEnabled := false } : Aud).captureEnabled = false) ∧
    (({ busy with lt := 5000979 } : State).lt % 1000 ≠ 0 ∧ busy.aud.forming = none) ∧
    (∀ n v f, (capturing n v f).lt % 1000 ≠ 0) ∧
    (let s := capturing 46 0 id
     s.aud.forming = some ⟨4999000, List.replicate 46 (0, 0)⟩ ∧ (List.replicate 46 ((0 : Int), (0 : Int))).length < 47) ∧
    (let s (v : Int) (g : Gate) (loud quiet : Nat) :=
       capturing 47 v fun a => { a with gate := g, loudRun := loud, quietRun := quiet, hangover := 10 }
     let loud (v : Int) : Prop := (s v .closed 0 0).aud.openThreshold ≤ v.natAbs
     (s 0 .disabled 0 0).aud.gate = .disabled ∧ ¬ loud 99 ∧ loud (-100) ∧
       ((s 0 .closed 0 0).aud.gate = .closed ∧ (s 0 .closed 0 0).aud.loudRun = 0 ∧ 1 ≤ (s 0 .closed 1 0).aud.loudRun) ∧
       ((s 0 .open 0 8).aud.gate = .open ∧ (s 0 .open 0 8).aud.quietRun + 1 < (s 0 .open 0 8).aud.hangover ∧
         (s 0 .open 0 9).aud.hangover ≤ (s 0 .open 0 9).aud.quietRun + 1)) ∧
    (busy.aud.queue.length < 32 ∧ 32 ≤ (List.replicate 32 someBlock).length ∧
      ∀ b, List.replicate 32 someBlock ++ [b] = someBlock :: someBlock :: (List.replicate 30 someBlock ++ [b])) :=
  ⟨by decide, by decide, fun _ _ _ => by show 5000979 % 1000 ≠ 0; decide, by decide, by decide, by decide, by decide,
   fun _ => rfl⟩

/-- The payloads of SET_VOLUME and SET_CAPTURE. -/
def volumeBytes (req mute target flush : Nat) : List Byte := leBytes 1 req ++ leBytes 1 mute ++ leBytes 2 target ++ leBytes 1 flush
def captureBytes (capture gate level hang : Nat) : List Byte :=
  leBytes 1 capture ++ leBytes 1 gate ++ leBytes 2 level ++ leBytes 2 hang

theorem witness_GainAndCaptureSettings :
    (busy.lt % 1000 = 0 ∧ busy.aud.lastRamp ≠ some busy.lt) ∧ (∀ k q, (asks busy k .tether q).directed k .tether 7 q) ∧
    (let good (q : List Byte) : Prop := q.length = 5 ∧ natAt q 0 1 ≤ 180 ∧ natAt q 1 1 ≤ 1 ∧ 96 ≤ natAt q 2 2 ∧
       natAt q 2 2 ≤ 384 ∧ natAt q 4 1 ≤ 1
     (good (volumeBytes 180 1 96 0) ∧ natAt (volumeBytes 180 1 96 0) 4 1 = 0) ∧
       (good (volumeBytes 0 0 384 1) ∧ natAt (volumeBytes 0 0 384 1) 4 1 = 1) ∧ ¬ good (volumeBytes 181 0 96 0) ∧
       ¬ good (volumeBytes 0 0 385 0)) ∧
    (let good (q : List Byte) : Prop := q.length = 6 ∧ natAt q 0 1 ≤ 1 ∧ natAt q 1 1 ≤ 1 ∧ 1 ≤ natAt q 2 2 ∧
       natAt q 2 2 ≤ 32767 ∧ 10 ≤ natAt q 4 2 ∧ natAt q 4 2 ≤ 1000
     (good (captureBytes 0 1 1 10) ∧ natAt (captureBytes 0 1 1 10) 0 1 = 0 ∧ natAt (captureBytes 0 1 1 10) 1 1 = 1) ∧
       (good (captureBytes 1 0 32767 1000) ∧ natAt (captureBytes 1 0 32767 1000) 1 1 = 0) ∧
       ¬ good (captureBytes 1 1 0 10) ∧ ¬ good (captureBytes 1 1 1 1001)) ∧
    (busy.pmg.rails.audio = .on ∧ busy.aud.captureEnabled = true ∧ busy.aud.gate = .closed) ∧
    (playing fun a => { a with gate := .open }).aud.gate = .open :=
  ⟨by decide, fun _ _ => asks_directed _ _ _ _ rfl rfl, by decide, by decide, by decide, by decide⟩

/-! ### The same for procedures and notices -/

/-- The busy part running a procedure. -/
def proceeding (w : Work) : State := { busy with prr := ⟨some ⟨1, 4000000, w⟩, 1, none⟩ }

/-- A collection of one sample. -/
def oneSample (r : Int) : Collection := ⟨1, ⟨r, r, r⟩, ⟨r, r, r⟩, ⟨r, r, r⟩, 0, 0⟩
def noSample : Collection := ⟨0, ⟨0, 0, 0⟩, ⟨0, 0, 0⟩, ⟨0, 0, 0⟩, 0, 0⟩

theorem witness_ProceduresStartAndAbort :
    (∀ k q, (asks busy k .tether q).directed k .tether 7 q) ∧ (proceeding (.cable 0 0 0 0 0 0 0)).prr.running ≠ none ∧
      busy.prr.running = none ∧ 3 < natAt [4, 0] 0 1 ∧ 3 < natAt [0, 4] 1 1 ∧ ([0] : List Byte).length < 2 ∧
      (∀ x ∈ (⟨true, true⟩ : Targets).list, (busy.msu.imu x).state = .running) ∧
      (∃ x ∈ (⟨true, false⟩ : Targets).list, ((imuIn .off 0).msu.imu x).state ≠ .running) ∧
      busy.pmg.supply = .normal ∧ State.reset.pmg.supply ≠ .normal ∧ busy.straps.storePresent = true ∧
      ({ busy.straps with storePresent := false } : Straps).storePresent = false ∧
      (proceeding (.sync ⟨true, true⟩ 5001000)).prr.running = some ⟨1, 4000000, .sync ⟨true, true⟩ 5001000⟩ ∧
      (Work.cable 0 0 0 0 0 0 0).kind = .cableMeasure :=
  ⟨fun _ _ => asks_directed _ _ _ _ rfl rfl, by decide, by decide, by decide, by decide, by decide, by decide, by decide,
   by decide, by decide, by decide, by decide, by decide, by decide⟩

/-- The edges of the durations and thresholds that START_PROCEDURE takes. -/
theorem witness_ProcedureParameters :
    (500 ≤ 500 ∧ 500 ≤ 5000) ∧ (500 ≤ 5000 ∧ 5000 ≤ 5000) ∧ (1 ≤ 1 ∧ 1 ≤ 4096) ∧ (1 ≤ 4096 ∧ 4096 ≤ 4096) ∧
      ((⟨true, false⟩ : Targets).a || (⟨true, false⟩ : Targets).b) = true := by decide

theorem witness_ProceduresEnd :
    (∀ ca cb, (proceeding (.biasCal ⟨true, true⟩ 5000000 64 ca cb)).prr.running =
      some ⟨1, 4000000, .biasCal ⟨true, true⟩ 5000000 64 ca cb⟩) ∧ 5000000 ≤ busy.lt ∧
    (Sensor.a ∈ (⟨true, true⟩ : Targets).list ∧ noSample.count = 0 ∧ (oneSample 5).count ≠ 0) ∧
    (let c : Collection := ⟨2, ⟨0, 0, 0⟩, ⟨0, 0, 0⟩, ⟨0, 129, 0⟩, 0, 0⟩
     c.count ≠ 0 ∧ ¬ c.maxs.y - c.mins.y ≤ 2 * 64) ∧
    (Sensor.b ∉ (⟨true, false⟩ : Targets).list ∧ ∃ x ∈ (⟨true, false⟩ : Targets).list, x = .a) ∧
    (let c : Collection := ⟨2, ⟨0, 0, 0⟩, ⟨0, 0, 0⟩, ⟨128, 128, 128⟩, 0, 0⟩
     c.count ≠ 0 ∧ c.maxs.x - c.mins.x ≤ 2 * 64 ∧ c.maxs.y - c.mins.y ≤ 2 * 64 ∧ c.maxs.z - c.mins.z ≤ 2 * 64) ∧
    (∀ w, (proceeding (.store [1, 2] w)).prr.running = some ⟨1, 4000000, .store [1, 2] w⟩) ∧
    ([1, 2] = ([] : List Byte) ++ 1 :: [2] ∧ ([7, 2] : List Byte) = [] ++ 7 :: [2] ∧ (1 : Byte) ≠ 7) :=
  ⟨fun _ _ => rfl, by decide, by decide, by decide, by decide, by decide, fun _ => rfl, by decide⟩

/-- The busy part running a SENSOR_SYNC with the tick 5,000,000, its reads given. -/
def syncing (tg : Targets) (fails : Nat) (ticks : List Tick) : State :=
  { proceeding (.sync tg 5000000) with msu := (reading ticks fails []).msu }

/-- The clauses of ProceduresEnd on SENSOR_SYNC: one target, two, a target lost by a failed read, by its rail. -/
theorem witness_SensorSyncEnds :
    (∀ tg n ticks, (syncing tg n ticks).prr.running = some ⟨1, 4000000, .sync tg 5000000⟩ ∧
      (syncing tg n ticks).msu.ticks = ticks ∧ ((syncing tg n ticks).msu.imu .a).fails = n ∧
      ((syncing tg n ticks).msu.imu .a).state = .running ∧ ((syncing tg n ticks).msu.imu .b).fails < 2 ∧
      (syncing tg n ticks).msu.queue.length < 63 ∧ (syncing tg n ticks).pmg.rails.sensor = .on) ∧
    (⟨true, false⟩ : Targets).list = [.a] ∧ (⟨true, true⟩ : Targets).list = [.a, .b] :=
  ⟨fun _ _ _ => ⟨rfl, rfl, rfl, rfl, (by show 0 < 2; decide), (by show 0 < 63; decide), rfl⟩, rfl, rfl⟩

/-- The busy part with its Notice Unit given. -/
def noticing (f : Ntu → Ntu) : State := { busy with ntu := f busy.ntu }

theorem witness_ConditionsAndNoticesAreHandled :
    (∀ k q, (asks busy k .tether q).directed k .tether 7 q) ∧
    (let q := leBytes 1 5 ++ leBytes 2 0xF
     q.length = 3 ∧ natAt q 0 1 = CondSet.command.ctorIdx ∧
       (BitVec.ofNat 16 (natAt q 1 2)) &&& ~~~(Masks.all.get .command) = 0) ∧
    (let q := leBytes 1 5 ++ leBytes 2 0x10
     natAt q 0 1 = CondSet.command.ctorIdx ∧ (BitVec.ofNat 16 (natAt q 1 2)) &&& ~~~(Masks.all.get .command) ≠ 0) ∧
    5 < natAt (leBytes 1 6 ++ leBytes 2 0) 0 1 ∧
    (Masks.all.trim = Masks.all ∧ 15 ≤ 15) ∧
    (∀ (m : Masks) (h : Nat), m.trim = m → h ≤ 15 → ([] : List Byte) ≠ m.bytes ++ [BitVec.ofNat 8 h]) ∧
    (let s := noticing fun n => { n with timer := some 5000000 }
     s.ntu.timer = some 5000000 ∧ 5000000 ≤ s.lt ∧ s.ntu.due = false) ∧
    (let s := noticing fun n => { n with timer := some 5000000, due := true }
     s.ntu.due = true ∧ s.cmu.role = some .tether) ∧
    (let s := noticing fun n => { n with quiet := some 5000000 }
     s.ntu.quiet = some 5000000 ∧ 5000000 ≤ s.lt ∧ s.attnSound) :=
  ⟨fun _ _ => asks_directed _ _ _ _ rfl rfl, by decide, by decide, by decide, by decide,
   (by intro m h _ _ e; simp at e), by decide, by decide, by decide, by decide, by unfold State.attnSound; decide⟩

end Sys2Proof.Tests
end

section
/-!
What a report to the NTU leaves of the block in transmission, and the relation `ReaderStep`: what every block that reads a rail,
a shed level or the link state may move when it acts (R12, R29, R46, R82, R118, R131, R138), and what it leaves alone.
-/

namespace Sys2Proof.Machine

/-! ### The block in transmission under a report -/

/-- R22: whether the link can take the start of a block. -/
def State.mayStart (s : State) : Bool := s.linkActive && s.tlc.tx.isNone

theorem opportunity_of_not_mayStart {s : State} (h : s.mayStart = false) : s.opportunity = s := by
  unfold State.opportunity
  rw [show (s.linkActive && s.tlc.tx.isNone) = false from h]
  rfl

theorem uartStart_tlc (s : State) : s.uartStart.tlc = s.tlc := by
  unfold State.uartStart
  split <;> rfl

theorem place_tlc_of_not_mayStart {s : State} (h : s.mayStart = false) (p : Port) (r : MessageRole) (b : List Byte) :
    (s.place p r b).tlc = s.tlc := by
  unfold State.place
  rw [uartStart_tlc, opportunity_of_not_mayStart]
  · rfl
  · exact h

theorem issue_tlc_of_not_mayStart {s : State} (h : s.mayStart = false) : s.issue.tlc = s.tlc := by
  unfold State.issue
  split
  · rfl
  · dsimp only
    split
    · rfl
    · exact place_tlc_of_not_mayStart (by exact h) ..

theorem noticeDue_tlc_of_not_mayStart {s : State} (h : s.mayStart = false) : s.noticeDue.tlc = s.tlc := by
  unfold State.noticeDue
  split
  · rfl
  · split
    · exact issue_tlc_of_not_mayStart h
    · rfl

theorem attend_tlc (s : State) : s.attend.tlc = s.tlc := by
  unfold State.attend
  repeat' split
  all_goals rfl

/-- R22, R187: a report starts no block unless the link can take one. -/
theorem raise_tlc_of_not_mayStart {s : State} (h : s.mayStart = false) (c : Condition) : (s.raise c).tlc = s.tlc := by
  unfold State.raise
  split
  · rfl
  · rw [attend_tlc]
    split
    · exact noticeDue_tlc_of_not_mayStart (s := s.modNtu fun n => { n with pending := n.pending.put c }) h
    · rfl

theorem lower_tlc (s : State) (c : Condition) : (s.lower c).tlc = s.tlc := attend_tlc _

/-- R22, R24: a beat leaves only when it is sent. -/
theorem opportunity_beat {s : State} (h : s.tlc.beat = none) : s.opportunity.tlc.beat = none := by
  unfold State.opportunity
  split
  · split
    · rfl
    · exact h
  · exact h

theorem place_beat {s : State} (h : s.tlc.beat = none) (p : Port) (r : MessageRole) (b : List Byte) :
    (s.place p r b).tlc.beat = none := by
  unfold State.place
  rw [uartStart_tlc]
  exact opportunity_beat h

theorem issue_beat {s : State} (h : s.tlc.beat = none) : s.issue.tlc.beat = none := by
  unfold State.issue
  split
  · exact h
  · dsimp only
    split
    · exact h
    · exact place_beat (by exact h) ..

theorem noticeDue_beat {s : State} (h : s.tlc.beat = none) : s.noticeDue.tlc.beat = none := by
  unfold State.noticeDue
  split
  · exact h
  · split
    · exact issue_beat h
    · exact h

/-- R24: no report makes a beat. -/
theorem raise_beat {s : State} (h : s.tlc.beat = none) (c : Condition) : (s.raise c).tlc.beat = none := by
  unfold State.raise
  split
  · exact h
  · rw [attend_tlc]
    split
    · exact noticeDue_beat (by exact h)
    · exact h

/-! ### The conditions that follow a state at once -/

/-- The conditions of `State.liveSound` (R20, R32, R158, R184). -/
def Condition.tied : Condition → Bool
  | .timeFree | .imuFaultA | .imuFaultB | .railFaultSensor | .railFaultAudio | .railFaultPanelL | .railFaultPanelR
  | .railFaultIllum => true
  | _ => false

/-- What a condition of `State.liveSound` follows. -/
def State.tiedHolds (s : State) : Condition → Prop
  | .timeFree => s.tlc.basis = .free
  | .imuFaultA => s.msu.a.faultHeld = true
  | .imuFaultB => s.msu.b.faultHeld = true
  | .railFaultSensor => s.pmg.rails.sensor = .fault
  | .railFaultAudio => s.pmg.rails.audio = .fault
  | .railFaultPanelL => s.pmg.rails.panelL = .fault
  | .railFaultPanelR => s.pmg.rails.panelR = .fault
  | .railFaultIllum => s.pmg.rails.illum = .fault
  | _ => True

theorem liveSound_iff (s : State) :
    s.liveSound ↔ ∀ c : Condition, c.tied = true → (s.ntu.pending.has c = true ↔ s.tiedHolds c) := by
  constructor
  · rintro ⟨htime, hA, hB, hrail⟩ c hc
    cases c <;> simp only [Condition.tied, Bool.false_eq_true] at hc
    case timeFree => exact htime
    case imuFaultA => exact hA
    case imuFaultB => exact hB
    case railFaultSensor => exact hrail .sensor
    case railFaultAudio => exact hrail .audio
    case railFaultPanelL => exact hrail .panelL
    case railFaultPanelR => exact hrail .panelR
    case railFaultIllum => exact hrail .illum
  · intro h
    exact ⟨h .timeFree rfl, h .imuFaultA rfl, h .imuFaultB rfl, fun x => by
      cases x
      · exact h .railFaultSensor rfl
      · exact h .railFaultAudio rfl
      · exact h .railFaultPanelL rfl
      · exact h .railFaultPanelR rfl
      · exact h .railFaultIllum rfl⟩

/-- R184: what the live conditions follow stands in the time basis, the two IMUs and the rails. -/
theorem State.tiedHolds_congr {s t : State} (hb : t.tlc.basis = s.tlc.basis)
    (ha : t.msu.a.faultHeld = s.msu.a.faultHeld) (hb' : t.msu.b.faultHeld = s.msu.b.faultHeld)
    (hr : t.pmg.rails = s.pmg.rails) (c : Condition) : t.tiedHolds c ↔ s.tiedHolds c := by
  cases c <;> simp only [State.tiedHolds, hb, ha, hb', hr]

/-- R184: a command that moves one live condition with its state, and no other, keeps them following. -/
theorem liveSound_of_change {s t : State} (c : Condition) (hc : t.ntu.pending.has c = true ↔ t.tiedHolds c)
    (ho : ∀ d : Condition, d.tied = true → d ≠ c →
      t.ntu.pending.has d = s.ntu.pending.has d ∧ (t.tiedHolds d ↔ s.tiedHolds d))
    (h : s.liveSound) : t.liveSound := by
  rw [liveSound_iff] at h ⊢
  intro d hd
  by_cases e : d = c
  · rw [e]
    exact hc
  · obtain ⟨hp, ht⟩ := ho d hd e
    rw [hp, ht]
    exact h d hd

/-- R184: the live conditions go on following where they and their states are as they were. -/
theorem liveSound_congr {s t : State}
    (hp : ∀ c : Condition, c.tied = true → t.ntu.pending.has c = s.ntu.pending.has c)
    (hs : ∀ c, t.tiedHolds c ↔ s.tiedHolds c) (h : s.liveSound) : t.liveSound := by
  rw [liveSound_iff] at h ⊢
  intro c hc
  rw [hp c hc, hs c]
  exact h c hc

theorem railFault_tied (x : Rail) : (railFault x).tied = true := by cases x <;> rfl

theorem has_put_of_ne {m : Masks} {c d : Condition} (h : d ≠ c) : (m.put c).has d = m.has d := by
  rw [Masks.has_put, decide_eq_false h, Bool.false_or]

theorem has_drop_of_ne {m : Masks} {c d : Condition} (h : d ≠ c) : (m.drop c).has d = m.has d := by
  rw [Masks.has_drop, decide_eq_false h, Bool.not_false, Bool.true_and]

theorem ne_of_tied {c d : Condition} (hc : c.tied = false) (hd : d.tied = true) : d ≠ c := by
  rintro rfl
  simp_all

/-- A report moves nothing that a live condition follows. -/
theorem SameButNotices.tiedHolds {s t : State} (h : SameButNotices s t) (c : Condition) :
    t.tiedHolds c ↔ s.tiedHolds c :=
  State.tiedHolds_congr h.basis (by rw [h.msu]) (by rw [h.msu]) (by rw [h.pmg]) c

theorem raise_liveSound {s : State} {c : Condition} (hc : c.tied = false) : s.liveSound → (s.raise c).liveSound :=
  liveSound_congr (fun d hd => by rw [raise_pending, has_put_of_ne (ne_of_tied hc hd)]) (sbn_raise s c).tiedHolds

theorem lower_liveSound {s : State} {c : Condition} (hc : c.tied = false) : s.liveSound → (s.lower c).liveSound :=
  liveSound_congr (fun d hd => by rw [lower_pending, has_drop_of_ne (ne_of_tied hc hd)]) (sbn_lower s c).tiedHolds

theorem put_link {m : Masks} {c : Condition} (h : c.set ≠ .link) : (m.put c).link = m.link := by
  unfold Masks.put
  generalize hv : m.get c.set ||| c.bit = v
  cases hs : c.set
  case link => exact absurd hs h
  all_goals rfl

theorem drop_link {m : Masks} {c : Condition} (h : c.set ≠ .link) : (m.drop c).link = m.link := by
  unfold Masks.drop
  generalize hv : m.get c.set &&& ~~~c.bit = v
  cases hs : c.set
  case link => exact absurd hs h
  all_goals rfl

/-! ### What a reader leaves alone -/

/-- What stays where blocks that read a rail, a shed level or the link state act: the link, the times, the frame store, the
requests, the LINK conditions and the LINK counters. -/
structure ReaderFrame (s t : State) : Prop where
  lt : t.lt = s.lt
  straps : t.straps = s.straps
  loaded : t.loaded = s.loaded
  pending : t.pending = s.pending
  fst : t.fst = s.fst
  tlc : t.tlc = { s.tlc with
    tx := t.tlc.tx, beat := t.tlc.beat, stepMotion := t.tlc.stepMotion, stepCapture := t.tlc.stepCapture }
  still : s.linkActive = false → s.tlc.tx = none → t.tlc.tx = none
  beat : s.tlc.beat = none → t.tlc.beat = none
  pmg : t.pmg = { s.pmg with rails := t.pmg.rails }
  cmu : t.cmu = { s.cmu with
    outTether := t.cmu.outTether, outService := t.cmu.outService, serviceTx := t.cmu.serviceTx }
  mask : t.ntu.enabled = s.ntu.enabled ∧ t.ntu.holdoff = s.ntu.holdoff
  linkSet : t.ntu.pending.link = s.ntu.pending.link
  linkCounts : ∀ c ∈ CounterGroup.link.members, t.count c = s.count c

/-- `t` is `s` after rails have changed and the blocks that read a rail, a shed level or the link state have acted: they move
themselves (MSU, OIN, SOU, ILG, AUD, PRR), the rails, their conditions and counters, and what they queue or send upstream, and live
conditions go on following. -/
structure RailStep (s t : State) : Prop extends ReaderFrame s t where
  live : s.liveSound → t.liveSound

/-- The same where the rails do not change. -/
structure ReaderStep (s t : State) : Prop extends RailStep s t where
  rails : t.pmg.rails = s.pmg.rails

namespace ReaderFrame

theorem refl (s : State) : ReaderFrame s s :=
  ⟨rfl, rfl, rfl, rfl, rfl, rfl, fun _ h => h, fun h => h, rfl, rfl, ⟨rfl, rfl⟩, rfl, fun _ _ => rfl⟩

section
variable {s t u : State} (h : ReaderFrame s t)
include h
theorem link : t.tlc.link = s.tlc.link := by rw [h.tlc]
theorem linkActive : t.linkActive = s.linkActive := by simp only [State.linkActive, h.link]
theorem features : t.tlc.features = s.tlc.features := by rw [h.tlc]
theorem offer : t.tlc.offer = s.tlc.offer := by rw [h.tlc]
theorem lineDelay : t.tlc.lineDelay = s.tlc.lineDelay := by rw [h.tlc]
theorem offset : t.tlc.offset = s.tlc.offset := by rw [h.tlc]
theorem basis : t.tlc.basis = s.tlc.basis := by rw [h.tlc]
theorem crcCount : t.tlc.crcCount = s.tlc.crcCount := by rw [h.tlc]
theorem sleepPending : t.tlc.sleepPending = s.tlc.sleepPending := by rw [h.tlc]
theorem beacons : t.tlc.beacons = s.tlc.beacons := by rw [h.tlc]
theorem role : t.cmu.role = s.cmu.role := by rw [h.cmu]
theorem queue : t.cmu.queue = s.cmu.queue := by rw [h.cmu]
theorem storeState : t.cmu.storeState = s.cmu.storeState := by rw [h.cmu]
theorem restart : t.cmu.restart = s.cmu.restart := by rw [h.cmu]
theorem budget : t.pmg.budget = s.pmg.budget := by rw [h.pmg]
theorem standby : t.pmg.standby = s.pmg.standby := by rw [h.pmg]
theorem supply : t.pmg.supply = s.pmg.supply := by rw [h.pmg]
theorem target : t.pmg.target = s.pmg.target := by rw [h.pmg]
theorem level : t.pmg.level = s.pmg.level := by rw [h.pmg]
theorem limits : t.pmg.limits = s.pmg.limits := by rw [h.pmg]
theorem reachedNormal : t.pmg.reachedNormal = s.pmg.reachedNormal := by rw [h.pmg]
theorem linkHas (c : Condition) (hc : c.set = .link) : t.ntu.pending.has c = s.ntu.pending.has c := by
  simp only [Masks.has, hc, Masks.get, h.linkSet]

theorem trans (g : ReaderFrame t u) : ReaderFrame s u where
  lt := g.lt.trans h.lt
  straps := g.straps.trans h.straps
  loaded := g.loaded.trans h.loaded
  pending := g.pending.trans h.pending
  fst := g.fst.trans h.fst
  tlc := by rw [g.tlc, h.tlc]
  still a b := g.still (h.linkActive.trans a) (h.still a b)
  beat a := g.beat (h.beat a)
  pmg := by rw [g.pmg, h.pmg]
  cmu := by rw [g.cmu, h.cmu]
  mask := ⟨g.mask.1.trans h.mask.1, g.mask.2.trans h.mask.2⟩
  linkSet := g.linkSet.trans h.linkSet
  linkCounts c hc := (g.linkCounts c hc).trans (h.linkCounts c hc)
end

variable (s : State)

theorem modMsu (f : Msu → Msu) : ReaderFrame s (s.modMsu f) :=
  ⟨rfl, rfl, rfl, rfl, rfl, rfl, fun _ h => h, fun h => h, rfl, rfl, ⟨rfl, rfl⟩, rfl, fun _ _ => rfl⟩

theorem setRails (x : Rail) (st : RailState) :
    ReaderFrame s (s.modPmg fun p => { p with rails := p.rails.set x st }) :=
  ⟨rfl, rfl, rfl, rfl, rfl, rfl, fun _ h => h, fun h => h, rfl, rfl, ⟨rfl, rfl⟩, rfl, fun _ _ => rfl⟩

theorem addCount (c : Counter) (n : Nat) (h : c ∉ CounterGroup.link.members) : ReaderFrame s (s.addCount c n) :=
  ⟨rfl, rfl, rfl, rfl, rfl, rfl, fun _ h => h, fun h => h, rfl, rfl, ⟨rfl, rfl⟩, rfl,
    fun d hd => by rw [count_addCount, if_neg (by rintro rfl; exact h hd)]⟩

theorem bump (c : Counter) (h : c ∉ CounterGroup.link.members) : ReaderFrame s (s.bump c) := addCount s c 1 h

/-- A report that leaves the LINK conditions alone. -/
theorem of_report {s t : State} (h : SameButNotices s t) (still : s.mayStart = false → t.tlc = s.tlc)
    (beat : s.tlc.beat = none → t.tlc.beat = none) (linkSet : t.ntu.pending.link = s.ntu.pending.link) :
    ReaderFrame s t where
  lt := h.lt
  straps := h.straps
  loaded := h.loaded
  pending := h.pending
  fst := h.fst
  tlc := by rw [h.tlc]
  still a b := by rw [still (by simp [State.mayStart, a])]; exact b
  beat := beat
  pmg := by rw [h.pmg]
  cmu := by rw [h.cmu]
  mask := h.mask
  linkSet := linkSet
  linkCounts c hc := h.counts c (by rintro rfl; revert hc; decide) (by rintro rfl; revert hc; decide)

theorem raise (c : Condition) (h : c.set ≠ .link) : ReaderFrame s (s.raise c) :=
  of_report (sbn_raise s c) (raise_tlc_of_not_mayStart · c) (raise_beat · c) (by rw [raise_pending, put_link h])

theorem lower (c : Condition) (h : c.set ≠ .link) : ReaderFrame s (s.lower c) :=
  of_report (sbn_lower s c) (fun _ => lower_tlc s c) (by rw [lower_tlc]; exact id) (by rw [lower_pending, drop_link h])

end ReaderFrame

namespace RailStep

theorem refl (s : State) : RailStep s s := ⟨.refl s, id⟩

theorem trans {s t u : State} (h : RailStep s t) (g : RailStep t u) : RailStep s u :=
  ⟨h.toReaderFrame.trans g.toReaderFrame, g.live ∘ h.live⟩

end RailStep

namespace ReaderStep

theorem refl (s : State) : ReaderStep s s := ⟨.refl s, rfl⟩

theorem trans {s t u : State} (h : ReaderStep s t) (g : ReaderStep t u) : ReaderStep s u :=
  ⟨h.toRailStep.trans g.toRailStep, g.rails.trans h.rails⟩

/-- What reads the rails leaves the PMG alone. -/
theorem pmg_eq {s t : State} (h : ReaderStep s t) : t.pmg = s.pmg := by rw [h.pmg, h.rails]

variable (s : State)

theorem modOin (f : Oin → Oin) : ReaderStep s (s.modOin f) :=
  ⟨⟨⟨rfl, rfl, rfl, rfl, rfl, rfl, fun _ h => h, fun h => h, rfl, rfl, ⟨rfl, rfl⟩, rfl, fun _ _ => rfl⟩, id⟩, rfl⟩

theorem modSou (f : Sou → Sou) : ReaderStep s (s.modSou f) :=
  ⟨⟨⟨rfl, rfl, rfl, rfl, rfl, rfl, fun _ h => h, fun h => h, rfl, rfl, ⟨rfl, rfl⟩, rfl, fun _ _ => rfl⟩, id⟩, rfl⟩

theorem modIlg (f : Ilg → Ilg) : ReaderStep s (s.modIlg f) :=
  ⟨⟨⟨rfl, rfl, rfl, rfl, rfl, rfl, fun _ h => h, fun h => h, rfl, rfl, ⟨rfl, rfl⟩, rfl, fun _ _ => rfl⟩, id⟩, rfl⟩

theorem modAud (f : Aud → Aud) : ReaderStep s (s.modAud f) :=
  ⟨⟨⟨rfl, rfl, rfl, rfl, rfl, rfl, fun _ h => h, fun h => h, rfl, rfl, ⟨rfl, rfl⟩, rfl, fun _ _ => rfl⟩, id⟩, rfl⟩

theorem modPrr (f : Prr → Prr) : ReaderStep s (s.modPrr f) :=
  ⟨⟨⟨rfl, rfl, rfl, rfl, rfl, rfl, fun _ h => h, fun h => h, rfl, rfl, ⟨rfl, rfl⟩, rfl, fun _ _ => rfl⟩, id⟩, rfl⟩

theorem modMsu (f : Msu → Msu) (ha : (f s.msu).a.faultHeld = s.msu.a.faultHeld)
    (hb : (f s.msu).b.faultHeld = s.msu.b.faultHeld) : ReaderStep s (s.modMsu f) :=
  ⟨⟨.modMsu s f, liveSound_congr (fun _ _ => rfl) (State.tiedHolds_congr rfl ha hb rfl)⟩, rfl⟩

theorem modImu (x : Sensor) (f : Imu → Imu) (h : (f (s.msu.imu x)).faultHeld = (s.msu.imu x).faultHeld) :
    ReaderStep s (s.modImu x f) := by
  cases x
  · exact modMsu s _ h rfl
  · exact modMsu s _ rfl h

theorem addCount (c : Counter) (n : Nat) (h : c ∉ CounterGroup.link.members) : ReaderStep s (s.addCount c n) :=
  ⟨⟨.addCount s c n h, id⟩, rfl⟩

theorem bump (c : Counter) (h : c ∉ CounterGroup.link.members) : ReaderStep s (s.bump c) := addCount s c 1 h

theorem raise (c : Condition) (h : c.set ≠ .link) (ht : c.tied = false) : ReaderStep s (s.raise c) :=
  ⟨⟨.raise s c h, raise_liveSound ht⟩, by rw [(sbn_raise s c).pmg]⟩

theorem lower (c : Condition) (h : c.set ≠ .link) (ht : c.tied = false) : ReaderStep s (s.lower c) :=
  ⟨⟨.lower s c h, lower_liveSound ht⟩, by rw [(sbn_lower s c).pmg]⟩

theorem follow (c : Condition) (b : Bool) (h : c.set ≠ .link) (ht : c.tied = false) : ReaderStep s (s.follow c b) := by
  unfold State.follow
  split
  · exact raise s c h ht
  · exact lower s c h ht

theorem opportunity : ReaderStep s s.opportunity :=
  ⟨⟨.of_report (sbn_opportunity s) (fun h => by rw [opportunity_of_not_mayStart h]) opportunity_beat (by simp),
    liveSound_congr (by simp) (sbn_opportunity s).tiedHolds⟩, by rw [(sbn_opportunity s).pmg]⟩

/-- R19: a record or a block takes its stream's step mark. -/
theorem takeMark (f : Tlc → Tlc) (h : f s.tlc = { s.tlc with
    stepMotion := (f s.tlc).stepMotion, stepCapture := (f s.tlc).stepCapture }) : ReaderStep s (s.modTlc f) where
  lt := rfl
  straps := rfl
  loaded := rfl
  pending := rfl
  fst := rfl
  tlc := by rw [State.modTlc_tlc, h]
  still _ a := by rw [State.modTlc_tlc, h]; exact a
  beat a := by rw [State.modTlc_tlc, h]; exact a
  pmg := rfl
  cmu := rfl
  mask := ⟨rfl, rfl⟩
  linkSet := rfl
  linkCounts _ _ := rfl
  live := liveSound_congr (fun _ _ => rfl) (State.tiedHolds_congr (by rw [State.modTlc_tlc, h]) rfl rfl rfl)
  rails := rfl

theorem cutIf (x : Transmission) : ReaderStep s (s.cutIf x) := by
  unfold State.cutIf
  split
  · exact ⟨⟨⟨rfl, rfl, rfl, rfl, rfl, rfl, fun _ _ => rfl, fun h => h, rfl, rfl, ⟨rfl, rfl⟩, rfl, fun _ _ => rfl⟩, id⟩, rfl⟩
  · exact refl s

end ReaderStep

end Sys2Proof.Machine
end

section
/-!
Every operation by which a block reads a rail, a shed level or the link state is a `ReaderStep`, in the order of the model's
files: illumination, the runner, orientation, motion, scan-out, audio, the rails.
-/

namespace Sys2Proof.Machine

namespace ReaderStep
variable (s : State)

/-! ### Illumination and the runner (R118, R170, R174) -/

theorem enterDark : ReaderStep s s.enterDark :=
  ((addCount s _ _ (by decide)).trans (bump _ _ (by decide))).trans (modIlg _ _)

theorem judgeDark : ReaderStep s s.judgeDark := by
  unfold State.judgeDark
  split
  · split
    · exact modIlg s _
    · exact refl s
  · split
    · exact refl s
    · exact enterDark s

theorem endProc (r : ProcResult) (v : List ProcValue) : ReaderStep s (s.endProc r v) := by
  unfold State.endProc
  split
  · exact refl s
  · exact (modPrr s _).trans (raise _ _ (by decide) rfl)

theorem targetLeft (x : Sensor) : ReaderStep s (s.targetLeft x) := by
  unfold State.targetLeft
  split
  · exact endProc s _ _
  · exact refl s

theorem collect (x : Sensor) (r : Axes) (t : Int) : ReaderStep s (s.collect x r t) := by
  unfold State.collect
  split
  · split
    · exact modPrr s _
    · exact refl s
  · exact refl s

/-! ### Orientation (R53 to R63) -/

theorem followStale : ReaderStep s s.followStale := follow s _ _ (by decide) rfl

theorem bind (x : Sensor) : ReaderStep s (s.bind x) := modOin s _

theorem failover : ReaderStep s s.failover :=
  ((bind s _).trans (bump _ _ (by decide))).trans (raise _ _ (by decide) rfl)

theorem primaryFails : ReaderStep s s.primaryFails := by
  unfold State.primaryFails
  split
  · exact failover s
  · exact modOin s _

theorem primaryLeft (x : Sensor) : ReaderStep s (s.primaryLeft x) := by
  unfold State.primaryLeft
  split
  · exact modOin s _
  · exact refl s

theorem reportRunning (x : Sensor) : ReaderStep s (s.reportRunning x) := by
  unfold State.reportRunning
  split
  · exact modOin s _
  · split
    · exact failover s
    · exact refl s

theorem reportFault (x : Sensor) : ReaderStep s (s.reportFault x) := by
  unfold State.reportFault
  split
  · exact (primaryLeft s x).trans (primaryFails _)
  · exact refl s

theorem reportOff (x : Sensor) : ReaderStep s (s.reportOff x) := by
  unfold State.reportOff
  split
  · exact (primaryLeft s x).trans (modOin _ _)
  · exact refl s

theorem testSample (b : Bool) : ReaderStep s (s.testSample b) := by
  unfold State.testSample
  dsimp only
  split
  · split
    · exact ((modOin s _).trans (modOin _ _)).trans (primaryFails _)
    · exact (modOin s _).trans (modOin _ _)
  · exact (modOin s _).trans (modOin _ _)

theorem takeSample (x : Sensor) (t : Nat) (r : Axes) (b : Bool) : ReaderStep s (s.takeSample x t r b) := by
  unfold State.takeSample
  split
  · exact ((modOin s _).trans (followStale _)).trans (testSample _ b)
  · exact refl s

/-! ### IMU states (R29 to R33) -/

theorem enterStarting (x : Sensor) : ReaderStep s (s.enterStarting x) := modImu s x _ rfl

theorem startImu (x : Sensor) : ReaderStep s (s.startImu x) := by
  unfold State.startImu
  split
  · exact enterStarting s x
  · exact refl s

theorem startImus : ReaderStep s s.startImus := (startImu s .a).trans (startImu _ .b)

theorem imuFault_set (x : Sensor) : (imuFault x).set ≠ .link := by cases x <;> decide

theorem imuFaults_notLink (x : Sensor) : imuFaults x ∉ CounterGroup.link.members := by cases x <;> decide

theorem readFailures_notLink (x : Sensor) : readFailures x ∉ CounterGroup.link.members := by cases x <;> decide

theorem tiedHolds_imuFault (t : State) (x : Sensor) :
    t.tiedHolds (imuFault x) ↔ (t.msu.imu x).faultHeld = true := by cases x <;> rfl

theorem tiedHolds_modImu (x : Sensor) (f : Imu → Imu) (d : Condition) (h : d ≠ imuFault x) :
    (s.modImu x f).tiedHolds d ↔ s.tiedHolds d := by
  cases x <;> cases d <;> first | exact Iff.rfl | exact absurd rfl h

theorem imu_modImu (x : Sensor) (f : Imu → Imu) : (s.modImu x f).msu.imu x = f (s.msu.imu x) := by cases x <;> rfl

/-- R32: an IMU becomes fault-held, and its condition is raised. -/
theorem faultHeld (x : Sensor) (f : Imu → Imu) (h : (f (s.msu.imu x)).faultHeld = true) :
    ReaderStep s (((s.modImu x f).bump (imuFaults x)).raise (imuFault x)) where
  rails := by rw [(sbn_raise _ _).pmg]; rfl
  toReaderFrame := ((ReaderFrame.modMsu s _).trans (.bump _ _ (imuFaults_notLink x))).trans (.raise _ _ (imuFault_set x))
  live := liveSound_of_change (imuFault x)
    (by
      rw [raise_pending, Masks.has_put, (sbn_raise _ _).tiedHolds, tiedHolds_imuFault]
      simp only [State.bump_msu, imu_modImu, h, decide_true, Bool.true_or])
    (fun d _ hd =>
      ⟨by rw [raise_pending, has_put_of_ne hd]; rfl,
        ((sbn_raise _ _).tiedHolds d).trans (tiedHolds_modImu s x f d hd)⟩)

/-- R29, R30: an IMU is no longer fault-held, and its condition becomes clear. -/
theorem faultEnded (x : Sensor) (f : Imu → Imu) (h : (f (s.msu.imu x)).faultHeld = false) :
    ReaderStep s ((s.modImu x f).lower (imuFault x)) where
  rails := by rw [(sbn_lower _ _).pmg]; rfl
  toReaderFrame := (ReaderFrame.modMsu s _).trans (.lower _ _ (imuFault_set x))
  live := liveSound_of_change (imuFault x)
    (by
      rw [lower_pending, Masks.has_drop, (sbn_lower _ _).tiedHolds, tiedHolds_imuFault]
      simp only [imu_modImu, h, decide_true, Bool.not_true, Bool.false_and])
    (fun d _ hd =>
      ⟨by rw [lower_pending, has_drop_of_ne hd]; rfl,
        ((sbn_lower _ _).tiedHolds d).trans (tiedHolds_modImu s x f d hd)⟩)

theorem enterRunning (x : Sensor) : ReaderStep s (s.enterRunning x) := (faultEnded s x _ rfl).trans (reportRunning _ x)

theorem enterFault (x : Sensor) : ReaderStep s (s.enterFault x) := by
  have told := (faultHeld s x (fun i => i.toFault (s.lt + Config.imuRetry)) rfl).trans (reportFault _ x)
  unfold State.enterFault
  dsimp only
  split
  · exact told.trans (targetLeft _ x)
  · exact told

theorem enterOff (x : Sensor) : ReaderStep s (s.enterOff x) := by
  have told := (faultEnded s x Imu.toOff rfl).trans (reportOff _ x)
  unfold State.enterOff
  split
  · exact refl s
  · dsimp only
    split
    · exact told.trans (targetLeft _ x)
    · exact told

/-! ### Ticks, records and samples (R35 to R41) -/

theorem enqueueRecord (r : MotionRecord) : ReaderStep s (s.enqueueRecord r) := by
  unfold State.enqueueRecord
  split
  · exact (modMsu s _ rfl rfl).trans (opportunity _)
  · split
    · exact refl s
    · dsimp only
      split
      · exact ((((modMsu s _ rfl rfl).trans (cutIf _ _)).trans (bump _ _ (by decide))).trans
          (raise _ _ (by decide) rfl)).trans (opportunity _)
      · exact (((((modMsu s _ rfl rfl).trans (modImu _ _ _ rfl)).trans (cutIf _ _)).trans (bump _ _ (by decide))).trans
          (raise _ _ (by decide) rfl)).trans (opportunity _)

theorem makeRecord (t : Nat) (r : Read) (d : ImuData) : ReaderStep s (s.makeRecord t r d) := by
  have marks := (modImu s r.sensor (fun i => { i with gapPending := false, syncPending := false }) rfl).trans
    (takeMark _ (fun c => { c with stepMotion := false }) rfl)
  unfold State.makeRecord
  dsimp only
  split
  · exact ((marks.trans (bump _ _ (by decide))).trans (raise _ _ (by decide) rfl)).trans (enqueueRecord _ _)
  · exact marks.trans (enqueueRecord _ _)

theorem handSample (t : Nat) (r : Read) (d : ImuData) : ReaderStep s (s.handSample t r d) :=
  (takeSample s _ _ _ _).trans (collect _ _ _ _)

theorem eachSucceeded (f : State → Read → ImuData → State) (h : ∀ s r d, ReaderStep s (f s r d)) (rs : List Read) :
    ReaderStep s (eachSucceeded f rs s) := by
  unfold Machine.eachSucceeded
  induction rs generalizing s with
  | nil => exact refl s
  | cons r rs ih =>
    rw [List.foldl_cons]
    refine .trans ?_ (ih _)
    split
    · exact h s r _
    · exact refl s

theorem syncDone (t : Tick) : ReaderStep s (s.syncDone t) := by
  unfold State.syncDone
  split
  · split
    · exact endProc s _ _
    · exact refl s
  · exact refl s

theorem markGaps (t : Tick) : ReaderStep s (s.markGaps t) := by
  unfold State.markGaps
  exact (modImu s .a _ rfl).trans (modImu _ .b _ rfl)

theorem finishTick (t : Tick) : ReaderStep s (s.finishTick t) :=
  (((markGaps s t).trans (eachSucceeded _ _ (fun s r d => makeRecord s t.time r d) _)).trans
    (eachSucceeded _ _ (fun s r d => handSample s t.time r d) _)).trans (syncDone _ t)

/-- Steps made one after another. -/
theorem foldl {α : Type} (f : State → α → State) (h : ∀ s a, ReaderStep s (f s a)) (xs : List α) :
    ReaderStep s (xs.foldl f s) := by
  induction xs generalizing s with
  | nil => exact refl s
  | cons x xs ih => exact (h s x).trans (ih _)

theorem completeTicks : ReaderStep s s.completeTicks := (modMsu s _ rfl rfl).trans (foldl _ _ finishTick _)

theorem readFails (x : Sensor) : ReaderStep s (s.readFails x) := by
  have ended := ((modMsu s (fun m => { m with ticks := m.ticks.map (Tick.endRead x .failed) }) rfl rfl).trans
    (modImu _ x (fun i =>
      { i with fails := i.fails + 1, gapPending := true, syncPending := i.syncPending || s.msu.busySync x }) rfl)).trans
    (bump _ _ (readFailures_notLink x))
  unfold State.readFails
  dsimp only
  split
  · exact ended.trans (enterFault _ x)
  · exact ended

theorem readSucceeds (x : Sensor) (d : ImuData) : ReaderStep s (s.readSucceeds x d) :=
  (modMsu s _ rfl rfl).trans (modImu _ x _ rfl)

theorem imusOff : ReaderStep s s.imusOff :=
  (((modMsu s _ rfl rfl).trans (completeTicks _)).trans (enterOff _ .a)).trans (enterOff _ .b)

theorem startupGoesOn (x : Sensor) (k : StartStep) (e : Nat) (ok : Bool) : ReaderStep s (s.startupGoesOn x k e ok) := by
  have reset := modImu s x (fun i => { i with fails := 0 }) rfl
  have goesOn (n : StartStep) := reset.trans (modImu _ x (fun i => { i with state := .starting n e }) rfl)
  cases k with
  | reset => exact goesOn .identity
  | scales => exact goesOn .readBack
  | identity =>
    cases ok
    · exact reset.trans (enterFault _ x)
    · exact goesOn .scales
  | readBack =>
    cases ok
    · exact reset.trans (enterFault _ x)
    · exact reset.trans (enterRunning _ x)

theorem reformSync (n : Nat) : ReaderStep s (s.reformSync n) := by
  unfold State.reformSync
  split
  · exact refl s
  · exact (((modMsu s _ rfl rfl).trans (modPrr _ _)).trans (modImu _ .a _ rfl)).trans (modImu _ .b _ rfl)

/-! ### The wear sensor (R42 to R46) -/

theorem changeWear (w : Wear) : ReaderStep s (s.changeWear w) :=
  (((modMsu s _ rfl rfl).trans (bump _ _ (by decide))).trans (raise _ _ (by decide) rfl)).trans (judgeDark _)

theorem awayExpires : ReaderStep s s.awayExpires := by
  unfold State.awayExpires
  split
  · exact changeWear s _
  · exact refl s

theorem judgeWear : ReaderStep s s.judgeWear := by
  unfold State.judgeWear
  split
  · exact changeWear s _
  · split
    · exact changeWear s _
    · exact refl s

theorem classify_faultHeld (m : Msu) (r : Nat) :
    (m.classify r).a.faultHeld = m.a.faultHeld ∧ (m.classify r).b.faultHeld = m.b.faultHeld := by
  unfold Msu.classify
  repeat' split
  all_goals exact ⟨rfl, rfl⟩

theorem wearRead (r : WearResult) : ReaderStep s (s.wearRead r) := by
  cases r with
  | failed =>
    have ended := (modMsu s (fun m => { m with wearBusy := false, wearFails := m.wearFails + 1 }) rfl rfl).trans
      (bump _ .wearReadFailures (by decide))
    unfold State.wearRead
    dsimp only
    split
    · exact ended.trans (changeWear _ _)
    · exact ended
  | succeeded r =>
    exact (modMsu s _ (classify_faultHeld s.msu r).1 (classify_faultHeld s.msu r).2).trans (judgeWear _)

theorem wearStops : ReaderStep s s.wearStops := by
  have stopped := modMsu s (fun m =>
    { m with wornCount := 0, removedCount := 0, wearFails := 0, wearReading := none, wearBusy := false }) rfl rfl
  unfold State.wearStops
  dsimp only
  split
  · exact stopped.trans (changeWear _ _)
  · exact stopped

/-! ### Scan-out and audio (R82, R131, R138) -/

theorem scanOff : ReaderStep s s.scanOff := by
  unfold State.scanOff
  split
  · exact refl s
  · exact (modSou s _).trans (judgeDark _)

theorem scanStart : ReaderStep s s.scanStart := by
  unfold State.scanStart
  split
  · exact modSou s _
  · exact refl s

theorem stopPlayback : ReaderStep s s.stopPlayback := (addCount s _ _ (by decide)).trans (modAud _ _)

theorem stopCapture : ReaderStep s s.stopCapture := by
  unfold State.stopCapture
  dsimp only
  split
  · exact (modAud s _).trans (raise _ _ (by decide) rfl)
  · exact modAud s _

/-! ### What the readers of a rail do (R29, R46, R82, R118, R131, R138) -/

theorem railReached (x : Rail) : ReaderStep s (s.railReached x) := by
  cases x with
  | sensor => exact startImus s
  | audio => exact refl s
  | panelL | panelR => exact scanStart s
  | illum => exact judgeDark s

theorem railLeft (x : Rail) (b : Bool) : ReaderStep s (s.railLeft x b) := by
  cases x with
  | sensor => exact (imusOff s).trans (wearStops _)
  | audio =>
    cases b
    · exact stopPlayback s
    · exact (stopPlayback s).trans (stopCapture _)
  | panelL | panelR => exact scanOff s
  | illum => exact judgeDark s

end ReaderStep

/-! ### Rails and the sequencer (R157 to R160) -/

namespace RailStep

theorem railFault_set (x : Rail) : (railFault x).set ≠ .link := by cases x <;> decide

theorem get_set_self (r : Rails) (x : Rail) (st : RailState) : (r.set x st).get x = st := by cases x <;> rfl

theorem get_set_ne (r : Rails) {x y : Rail} (h : y ≠ x) (st : RailState) : (r.set x st).get y = r.get y := by
  cases x <;> cases y <;> first | rfl | exact absurd rfl h

/-- Steps made one after another. -/
theorem foldl (s : State) {α : Type} (f : State → α → State) (h : ∀ s a, RailStep s (f s a)) (xs : List α) :
    RailStep s (xs.foldl f s) := by
  induction xs generalizing s with
  | nil => exact refl s
  | cons x xs ih => exact (h s x).trans (ih _)

variable (s : State)

theorem tiedHolds_railFault (t : State) (x : Rail) : t.tiedHolds (railFault x) ↔ t.pmg.rails.get x = .fault := by
  cases x <;> rfl

theorem tiedHolds_setRails (x : Rail) (st : RailState) (d : Condition) (h : d ≠ railFault x) :
    (s.modPmg fun p => { p with rails := p.rails.set x st }).tiedHolds d ↔ s.tiedHolds d := by
  cases x <;> cases d <;> first | exact Iff.rfl | exact absurd rfl h

/-- R158: a rail takes a state, and its condition follows. -/
theorem followRail (x : Rail) (st : RailState) :
    RailStep s ((s.modPmg fun p => { p with rails := p.rails.set x st }).followRail x (s.pmg.rails.get x) st) := by
  have moved := ReaderFrame.setRails s x st
  have others := tiedHolds_setRails s x st
  generalize hu : (s.modPmg fun p => { p with rails := p.rails.set x st }) = u at moved others
  have hp : u.ntu.pending = s.ntu.pending := by rw [← hu]; rfl
  have hr : u.tiedHolds (railFault x) ↔ st = .fault := by
    rw [tiedHolds_railFault, ← hu, State.modPmg_pmg, get_set_self]
  unfold State.followRail
  split
  case isTrue h =>
    refine ⟨moved.trans (.raise _ _ (railFault_set x)), liveSound_of_change (railFault x) ?_ fun d _ hd => ⟨?_, ?_⟩⟩
    · rw [raise_pending, Masks.has_put, (sbn_raise _ _).tiedHolds, hr]
      simp [h]
    · rw [raise_pending, has_put_of_ne hd, hp]
    · exact ((sbn_raise _ _).tiedHolds d).trans (others d hd)
  case isFalse h =>
    split
    case isTrue hold =>
      refine ⟨moved.trans (.lower _ _ (railFault_set x)), liveSound_of_change (railFault x) ?_ fun d _ hd => ⟨?_, ?_⟩⟩
      · rw [lower_pending, Masks.has_drop, (sbn_lower _ _).tiedHolds, hr]
        simp [h]
      · rw [lower_pending, has_drop_of_ne hd, hp]
      · exact ((sbn_lower _ _).tiedHolds d).trans (others d hd)
    case isFalse hold =>
      refine ⟨moved, fun live => liveSound_of_change (railFault x) ?_ (fun d _ hd => ⟨by rw [hp], others d hd⟩) live⟩
      rw [hp, hr, (liveSound_iff s).1 live _ (railFault_tied x), tiedHolds_railFault]
      simp [h, hold]

theorem setRail (x : Rail) (st : RailState) : RailStep s (s.setRail x st) := by
  have taken := followRail s x st
  unfold State.setRail
  dsimp only
  split
  · exact taken.trans (ReaderStep.railLeft _ x _).toRailStep
  · split
    · exact taken.trans (ReaderStep.railReached _ x).toRailStep
    · exact taken

theorem setRail_rails (x : Rail) (st : RailState) : (s.setRail x st).pmg.rails = s.pmg.rails.set x st := by
  have followed : ((s.modPmg fun p => { p with rails := p.rails.set x st }).followRail x (s.pmg.rails.get x) st).pmg.rails =
      s.pmg.rails.set x st := by
    unfold State.followRail
    split
    · rw [(sbn_raise _ _).pmg]
      rfl
    · split
      · rw [(sbn_lower _ _).pmg]
        rfl
      · rfl
  unfold State.setRail
  dsimp only
  split
  · rw [(ReaderStep.railLeft _ x _).rails, followed]
  · split
    · rw [(ReaderStep.railReached _ x).rails, followed]
    · exact followed

/-- R157: a change of one rail leaves the others. -/
theorem setRail_get_ne {x y : Rail} (h : y ≠ x) (st : RailState) :
    (s.setRail x st).pmg.rails.get y = s.pmg.rails.get y := by
  rw [setRail_rails, get_set_ne _ h]

theorem sequence : RailStep s s.sequence := by
  refine foldl s _ (fun s x => ?_) _
  split
  · exact setRail s x _
  · exact refl s

theorem takeDown (xs : List Rail) : RailStep s (s.takeDown xs) := by
  refine foldl s _ (fun s x => ?_) _
  split
  · exact refl s
  · exact setRail s x _

theorem railFails (x : Rail) : RailStep s (s.railFails x) :=
  (((setRail s x _).trans (ReaderStep.bump _ _ (by decide)).toRailStep).trans (takeDown _ _)).trans (sequence _)

end RailStep
end Sys2Proof.Machine
end

section
/-!
What every command keeps (R16, R206, and the invariants of R1 and R184), as a relation that operations compose: `SoundStep` for
time, straps, the waiting commands, `State.linkSound` and `State.liveSound`, and `Keeps` for the loaded values too. One lemma for
each operation that is no `ReaderStep`.
-/

namespace Sys2Proof.Machine

/-- R16, R206, R1, R184: `t` is a later state of the same part: time, straps and the waiting commands stand, and what held of the
link and of the live conditions holds. -/
structure SoundStep (s t : State) : Prop where
  lt : t.lt = s.lt
  straps : t.straps = s.straps
  pending : t.pending = s.pending
  link : s.linkSound → t.linkSound
  live : s.liveSound → t.liveSound

/-- A `SoundStep` that is no part of the store load: the loaded values and the store state stand too (R182, R207). -/
structure Keeps (s t : State) : Prop extends SoundStep s t where
  loaded : t.loaded = s.loaded
  storeState : t.cmu.storeState = s.cmu.storeState

theorem SoundStep.trans {s t u : State} (h : SoundStep s t) (g : SoundStep t u) : SoundStep s u :=
  ⟨g.lt.trans h.lt, g.straps.trans h.straps, g.pending.trans h.pending, g.link ∘ h.link, g.live ∘ h.live⟩

/-- R1, R208: the link stays sound where it stands and nothing begins to be sent out of ACTIVE. -/
theorem linkSound_congr {s t : State} (hl : t.tlc.link = s.tlc.link)
    (hr : t.pmg.reachedNormal = s.pmg.reachedNormal)
    (ht : s.linkActive = false → s.tlc.tx = none → s.tlc.beat = none → s.tlc.sleepPending = false →
      t.tlc.tx = none ∧ t.tlc.beat = none ∧ t.tlc.sleepPending = false)
    (h : s.linkSound) : t.linkSound := by
  obtain ⟨hout, hdown⟩ := h
  refine ⟨fun a => ?_, by rw [hr, hl]; exact hdown⟩
  have a' : s.linkActive = false := by rw [← a, State.linkActive, State.linkActive, hl]
  obtain ⟨htx, hbeat, hsleep⟩ := hout a'
  exact ht a' htx hbeat hsleep

/-- R6, R208: a link that is in use belongs to a part that has reached NORMAL. -/
theorem State.linkSound.reached {s : State} (h : s.linkSound) (hl : s.tlc.link ≠ .down none) :
    s.pmg.reachedNormal = true := by
  by_contra hr
  exact hl (h.2 (Bool.eq_false_iff.2 hr))

namespace RailStep
variable {s t : State}

theorem linkSound (h : RailStep s t) : s.linkSound → t.linkSound :=
  linkSound_congr h.link h.reachedNormal fun a htx hbeat hsleep =>
    ⟨h.still a htx, h.beat hbeat, h.sleepPending.trans hsleep⟩

theorem keeps (h : RailStep s t) : Keeps s t := ⟨⟨h.lt, h.straps, h.pending, h.linkSound, h.live⟩, h.loaded, h.storeState⟩

end RailStep

theorem ReaderStep.keeps {s t : State} (h : ReaderStep s t) : Keeps s t := h.toRailStep.keeps

namespace Keeps

theorem refl (s : State) : Keeps s s := (ReaderStep.refl s).keeps

theorem trans {s t u : State} (h : Keeps s t) (g : Keeps t u) : Keeps s u :=
  ⟨h.toSoundStep.trans g.toSoundStep, g.loaded.trans h.loaded, g.storeState.trans h.storeState⟩

variable (s : State)

/-! ### Single blocks -/

theorem modFst (f : Fst → Fst) : Keeps s (s.modFst f) := ⟨⟨rfl, rfl, rfl, id, id⟩, rfl, rfl⟩

theorem modCmu (f : Cmu → Cmu) (h : (f s.cmu).storeState = s.cmu.storeState) : Keeps s (s.modCmu f) :=
  ⟨⟨rfl, rfl, rfl, id, id⟩, rfl, h⟩

/-- A change of the PMG that leaves the rails; NORMAL may have been reached by it. -/
theorem modPmg (f : Pmg → Pmg) (hr : (f s.pmg).rails = s.pmg.rails)
    (hn : (f s.pmg).reachedNormal = false → s.pmg.reachedNormal = false) : Keeps s (s.modPmg f) where
  lt := rfl
  straps := rfl
  pending := rfl
  link h := ⟨h.1, fun a => h.2 (hn a)⟩
  live := liveSound_congr (fun _ _ => rfl) (State.tiedHolds_congr rfl rfl rfl hr)
  loaded := rfl
  storeState := rfl

theorem modNtu (f : Ntu → Ntu) (h : ∀ c : Condition, c.tied = true → (f s.ntu).pending.has c = s.ntu.pending.has c) :
    Keeps s (s.modNtu f) :=
  ⟨⟨rfl, rfl, rfl, id, liveSound_congr h (State.tiedHolds_congr rfl rfl rfl rfl)⟩, rfl, rfl⟩

/-- A change of the TLC that keeps the link sound. -/
theorem modTlc (f : Tlc → Tlc) (hb : (f s.tlc).basis = s.tlc.basis) (hl : s.linkSound → (s.modTlc f).linkSound) :
    Keeps s (s.modTlc f) :=
  ⟨⟨rfl, rfl, rfl, hl, liveSound_congr (fun _ _ => rfl) (State.tiedHolds_congr hb rfl rfl rfl)⟩, rfl, rfl⟩

/-- A change of the TLC that leaves the link and all that is held only in ACTIVE. -/
theorem modTlc_aside (f : Tlc → Tlc) (hb : (f s.tlc).basis = s.tlc.basis) (hl : (f s.tlc).link = s.tlc.link)
    (htx : (f s.tlc).tx = s.tlc.tx) (hbeat : (f s.tlc).beat = s.tlc.beat)
    (hsleep : (f s.tlc).sleepPending = s.tlc.sleepPending) : Keeps s (s.modTlc f) :=
  modTlc s f hb (linkSound_congr hl rfl fun _ a b c => ⟨htx.trans a, hbeat.trans b, hsleep.trans c⟩)

/-- A change of the TLC in ACTIVE, with which the link stays ACTIVE. -/
theorem modTlc_active (f : Tlc → Tlc) (h : s.linkActive = true) (hb : (f s.tlc).basis = s.tlc.basis)
    (hl : (f s.tlc).link = s.tlc.link) : Keeps s (s.modTlc f) :=
  modTlc s f hb (linkSound_congr hl rfl fun a => by simp [h] at a)

theorem setCount (c : Counter) (n : Nat) : Keeps s (s.setCount c n) := ⟨⟨rfl, rfl, rfl, id, id⟩, rfl, rfl⟩

theorem addCount (c : Counter) (n : Nat) : Keeps s (s.addCount c n) := setCount s c _

theorem bump (c : Counter) : Keeps s (s.bump c) := addCount s c 1

theorem clearCounts (cs : List Counter) : Keeps s (s.clearCounts cs) := by
  unfold State.clearCounts
  induction cs generalizing s with
  | nil => exact refl s
  | cons c cs ih => exact (setCount s c 0).trans (ih _)

/-! ### Reports and messages -/

/-- A report under which no live condition moves. -/
theorem of_report {s t : State} (h : SameButNotices s t) (still : s.mayStart = false → t.tlc = s.tlc)
    (live : ∀ c : Condition, c.tied = true → t.ntu.pending.has c = s.ntu.pending.has c) : Keeps s t where
  lt := h.lt
  straps := h.straps
  pending := h.pending
  link := linkSound_congr h.link (by rw [h.pmg]) fun a htx hbeat hsleep => by
    rw [still (by simp [State.mayStart, a])]
    exact ⟨htx, hbeat, hsleep⟩
  live := liveSound_congr live h.tiedHolds
  loaded := h.loaded
  storeState := h.storeState

theorem raise (c : Condition) (h : c.tied = false) : Keeps s (s.raise c) :=
  of_report (sbn_raise s c) (raise_tlc_of_not_mayStart · c)
    fun d hd => by rw [raise_pending, has_put_of_ne (ne_of_tied h hd)]

theorem follow (c : Condition) (b : Bool) (h : c.tied = false) : Keeps s (s.follow c b) :=
  of_report (sbn_follow s c b)
    (fun a => by
      unfold State.follow
      split
      · exact raise_tlc_of_not_mayStart a c
      · exact lower_tlc s c)
    fun d hd => by
      unfold State.follow
      split
      · rw [raise_pending, has_put_of_ne (ne_of_tied h hd)]
      · rw [lower_pending, has_drop_of_ne (ne_of_tied h hd)]

theorem noticeDue : Keeps s s.noticeDue :=
  of_report (sbn_noticeDue s) noticeDue_tlc_of_not_mayStart fun _ _ => by rw [noticeDue_pending]

theorem issue : Keeps s s.issue :=
  of_report (sbn_issue s) issue_tlc_of_not_mayStart fun _ _ => by rw [issue_pending]

theorem attend : Keeps s s.attend := of_report (sbn_attend s) (fun _ => attend_tlc s) fun _ _ => by rw [attend_pending]

theorem place (p : Port) (r : MessageRole) (b : List Byte) : Keeps s (s.place p r b) :=
  of_report (sbn_place s p r b) (place_tlc_of_not_mayStart · p r b) fun _ _ => by rw [place_ntu]

theorem uartStart : Keeps s s.uartStart :=
  of_report (sbn_uartStart s) (fun _ => uartStart_tlc s) fun _ _ => by rw [uartStart_ntu]

theorem opportunity : Keeps s s.opportunity := (ReaderStep.opportunity s).keeps

theorem setOut (p : Port) (q : List Message) : Keeps s (s.modCmu fun c => c.setOut p q) := modCmu s _ (by cases p <;> rfl)

/-! ### Requests (R199 to R203) -/

theorem reply (k : Byte) (p : Port) (tag : Byte) (x : Status) (v : List Byte) (r : MessageRole) :
    Keeps s (s.reply k p tag x v r) := by
  unfold State.reply
  exact (modCmu s _ rfl).trans (place _ p r _)

/-- R199: a request keeps what the rule that owns it keeps. -/
theorem request (k : ReqKind) (p : Port) (tag : Byte) (q : List Byte) (own : State → Answer)
    (h : Keeps s (own s).state) : Keeps s (s.request k p tag q own) := by
  unfold State.request
  split
  · split
    · exact reply s _ _ _ _ _ _
    · exact h.trans (reply _ _ _ _ _ _ _)
  · exact refl s

theorem withoutArgs (q : List Byte) (own : State → Answer) (h : Keeps s (own s).state) :
    Keeps s (withoutArgs q own s).state := by
  unfold Machine.withoutArgs
  split
  · exact h
  · exact refl s

theorem release (p : Port) : Keeps s (s.release p) := by
  have kept := modCmu s (fun c => { c with queue := c.queue.filter (fun e => e.port != p || e.complete) }) rfl
  unfold State.release
  exact (((kept.trans (modCmu _ _ (by cases p <;> rfl))).trans (modNtu _ _ fun _ _ => rfl)).trans (modCmu _ _ rfl)).trans (attend _)

theorem roleTaken : Keeps s s.roleTaken := by
  have raised := raise s .controllerChange rfl
  unfold State.roleTaken
  dsimp only
  split
  · exact (raised.trans (noticeDue _)).trans (attend _)
  · exact raised.trans (attend _)

theorem attachTo (p : Port) : Keeps s (attachTo p s).state := by
  unfold Machine.attachTo
  split
  · exact modCmu s (fun c => { c with role := some p }) rfl
  · split <;> exact refl s

theorem arrive (p : Port) (b : List Byte) : Keeps s (s.arrive p b) := by
  unfold State.arrive
  split
  · exact (bump s _).trans (raise _ _ rfl)
  · exact modCmu s _ rfl

theorem hunt (late : Bool) (n : Nat) (rx : List Byte) : Keeps s (s.hunt late n rx) := by
  induction n generalizing s rx with
  | zero => exact modCmu s _ rfl
  | succ n ih =>
    cases rx with
    | nil => exact modCmu s _ rfl
    | cons b bs =>
      unfold State.hunt
      split
      · exact ih s bs
      · split
        · exact (arrive s _ _).trans (ih _ _)
        · exact (bump s _).trans (ih _ _)
        · split
          · exact (bump s _).trans (ih _ _)
          · exact modCmu s _ rfl

theorem timeOutBytes : Keeps s s.timeOutBytes := by
  unfold State.timeOutBytes
  split
  · exact hunt s _ _ _
  · exact refl s

theorem hearBytes (b : List Byte) : Keeps s (s.hearBytes b) := (modCmu s _ rfl).trans (hunt _ _ _ _)

/-! ### Frames (R74 to R88) -/

theorem abandon : Keeps s s.abandon := by
  unfold State.abandon
  split
  · exact ((modFst s _).trans (bump _ _)).trans (raise _ _ rfl)
  · exact refl s

theorem frameBegin (b : Option FrameBegin) : Keeps s (s.frameBegin b) := by
  unfold State.frameBegin
  split
  · exact (bump s _).trans (raise _ _ rfl)
  · split
    · exact (bump s _).trans (raise _ _ rfl)
    · exact ((abandon s).trans (modFst _ _)).trans (bump _ _)

theorem lines (b : Option LinesBlock) : Keeps s (s.lines b) := by
  unfold State.lines
  split
  · exact bump s _
  · split
    · split
      · exact bump s _
      · exact modFst s _
    · exact bump s _

theorem frameEnd (b : Option FrameNo) : Keeps s (s.frameEnd b) := by
  unfold State.frameEnd
  split
  · exact bump s _
  · split
    · exact bump s _
    · split
      · exact (modFst s _).trans (bump _ _)
      · exact abandon s

theorem dropFrames (n : Nat) : Keeps s (s.dropFrames n) := by
  unfold State.dropFrames
  split
  · exact refl s
  · exact (addCount s _ _).trans (raise _ _ rfl)

theorem countZeroed (b : ShiftBasis) : Keeps s (s.countZeroed b) := by
  unfold State.countZeroed
  split
  · exact bump s _
  · exact bump s _
  · exact refl s

theorem lateShift : Keeps s s.lateShift := by
  unfold State.lateShift
  split
  · exact refl s
  next t _ =>
    have counted := (((countZeroed s (s.shiftBasis t)).trans (ReaderStep.modSou _ fun x =>
      { x with left := s.eyeShift .left t, right := s.eyeShift .right t }).keeps).trans
      (addCount _ .leadsClamped (howMany (s.eyeShift .left t).leadClamped (s.eyeShift .right t).leadClamped))).trans
      (addCount _ .shiftsClamped (howMany (s.eyeShift .left t).clamped (s.eyeShift .right t).clamped))
    dsimp only
    split
    · exact (counted.trans (modFst _ _)).trans (raise _ _ rfl)
    · exact counted

theorem selectFrame : Keeps s s.selectFrame := by
  unfold State.selectFrame
  split
  · exact ((((modFst s _).trans (bump _ _)).trans (dropFrames _ _)).trans (ReaderStep.modSou _ _).keeps).trans (lateShift _)
  · split
    · exact ((((modFst s _).trans (bump _ _)).trans (raise _ _ rfl)).trans (ReaderStep.modSou _ _).keeps).trans
        (lateShift _)
    · exact (ReaderStep.modSou s _).keeps

theorem takeBlank : Keeps s s.takeBlank := (bump s _).trans (ReaderStep.modSou _ _).keeps

theorem copyAtBlank : Keeps s s.copyAtBlank := by
  unfold State.copyAtBlank
  exact (addCount s _ _).trans (ReaderStep.modIlg _ _).keeps

theorem outputAtBlank : Keeps s s.outputAtBlank := by
  unfold State.outputAtBlank
  split
  · exact (ReaderStep.modIlg s _).keeps
  · exact ((ReaderStep.judgeDark s).trans (.modIlg _ _)).keeps

theorem restartScan : Keeps s s.restartScan := by
  unfold State.restartScan
  split
  · exact refl s
  · exact ((ReaderStep.modSou s _).trans (.modSou _ _)).keeps

theorem freeShown : Keeps s s.freeShown := (modFst s _).trans (dropFrames _ _)

/-! ### Audio (R126 to R142) -/

theorem appendFrames (f : List Stereo) : Keeps s (s.appendFrames f) := by
  have kept := (ReaderStep.modAud s (fun a =>
    { a with buffer := a.buffer ++ f.take (Config.playbackMax - s.aud.buffer.length) })).keeps
  unfold State.appendFrames
  dsimp only
  split
  · exact kept
  · exact (kept.trans (addCount _ _ _)).trans (raise _ _ rfl)

theorem takeSound (b : Option (Seq × List Stereo)) : Keeps s (s.takeSound b) := by
  unfold State.takeSound
  split
  · exact bump s _
  · split
    · exact bump s _
    · split
      · exact bump s _
      · exact (((addCount s _ _).trans (bump _ _)).trans (ReaderStep.modAud _ _).keeps).trans (appendFrames _ _)

theorem adjusted (d : Adjust) : Keeps s (s.adjusted d) := by
  have run (c : Counter) := (bump s c).trans (ReaderStep.modAud _ (fun a => a.runOn d)).keeps
  unfold State.adjusted
  cases d
  all_goals
    dsimp only
    split
    · exact (((run _).trans (ReaderStep.modAud _ _).keeps).trans (bump _ _)).trans (raise _ _ rfl)
    · exact run _

theorem underrun : Keeps s s.underrun := ((ReaderStep.modAud s _).keeps.trans (bump _ _)).trans (raise _ _ rfl)

theorem playInstant : Keeps s s.playInstant := by
  unfold State.playInstant
  split
  · exact (ReaderStep.modAud s _).keeps
  · split
    · exact underrun s
    · exact ((ReaderStep.modAud s _).keeps.trans (adjusted _ _)).trans (ReaderStep.modAud _ _).keeps
    · exact ((ReaderStep.modAud s _).keeps.trans (adjusted _ _)).trans (ReaderStep.modAud _ _).keeps
    · exact (ReaderStep.modAud s _).keeps

theorem tryPlay (f : Aud → Aud) : Keeps s (s.tryPlay f) := by
  unfold State.tryPlay
  split
  · exact (ReaderStep.modAud s _).keeps.trans (playInstant _)
  · exact (ReaderStep.modAud s _).keeps

theorem playback : Keeps s s.playback := by
  unfold State.playback
  split
  · exact (ReaderStep.modAud s _).keeps
  · exact tryPlay s _
  · exact playInstant s
  · split
    · exact (ReaderStep.modAud s _).keeps
    · exact tryPlay s _

theorem enqueueCapture (b : CaptureBlock) : Keeps s (s.enqueueCapture b) := by
  unfold State.enqueueCapture
  split
  · exact ((ReaderStep.modAud s _).trans (.opportunity _)).keeps
  · split
    · exact refl s
    · exact ((((ReaderStep.modAud s _).trans (.cutIf _ _)).keeps.trans (bump _ _)).trans (raise _ _ rfl)).trans (opportunity _)

theorem queueBlock (b : CaptureBlock) (o : Bool) : Keeps s (s.queueBlock b o) :=
  ((ReaderStep.modAud s _).trans (.takeMark _ (fun t => { t with stepCapture := false }) rfl)).keeps.trans
    (enqueueCapture _ _)

theorem gateBlock : Keeps s s.gateBlock := (ReaderStep.modAud s _).keeps.trans (bump _ _)

theorem gate (b : CaptureBlock) : Keeps s (s.gate b) := by
  have aud (f : Aud → Aud) : Keeps s (s.modAud f) := (ReaderStep.modAud s f).keeps
  unfold State.gate
  dsimp only
  split
  · exact queueBlock s b false
  · split
    · split
      · exact (((aud _).trans (queueBlock _ b true)).trans (raise _ _ rfl)).trans (bump _ _)
      · exact (aud _).trans (gateBlock _)
    · exact (aud _).trans (gateBlock _)
  · split
    · exact (aud _).trans (queueBlock _ b false)
    · split
      · exact (aud _).trans (queueBlock _ b false)
      · exact ((queueBlock s b false).trans (ReaderStep.modAud _ _).keeps).trans (raise _ _ rfl)

theorem completeBlock (g : Forming) : Keeps s (s.completeBlock g) := by
  have aud (f : Aud → Aud) : Keeps s (s.modAud f) := (ReaderStep.modAud s f).keeps
  unfold State.completeBlock
  dsimp only
  split
  · exact ((aud _).trans (bump _ _)).trans (gate _ _)
  · exact (aud _).trans (gate _ _)

theorem capture (m1 m2 : Int) : Keeps s (s.capture m1 m2) := by
  unfold State.capture
  split
  · dsimp only
    split
    · exact refl s
    · split
      · exact completeBlock s _
      · exact (ReaderStep.modAud s _).keeps
  · exact refl s

theorem setGate (b : Bool) : Keeps s (s.setGate b) := by
  have aud (f : Aud → Aud) : Keeps s (s.modAud f) := (ReaderStep.modAud s f).keeps
  unfold State.setGate
  split
  · exact aud _
  · exact (aud _).trans (raise _ _ rfl)
  · exact aud _
  · exact refl s

theorem takeCapture (c : CaptureArgs) : Keeps s (s.takeCapture c) := by
  have taken := (ReaderStep.modAud s (fun a =>
    { a with captureEnabled := c.capture, openThreshold := c.threshold, hangover := c.hangover })).keeps
  unfold State.takeCapture
  dsimp only
  split
  · exact (taken.trans (ReaderStep.stopCapture _).keeps).trans (setGate _ _)
  · exact taken.trans (setGate _ _)

/-! ### Power (R146 to R165) -/

theorem formBudget : Keeps s s.formBudget := modPmg s _ rfl id

theorem formTarget : Keeps s s.formTarget := by
  unfold State.formTarget
  exact (modPmg s _ rfl id).trans ((RailStep.takeDown _ _).trans (.sequence _)).keeps

theorem setLevel (l : Level) : Keeps s (s.setLevel l) :=
  (modPmg s _ rfl id).trans (((ReaderStep.judgeDark _).trans (.modAud _ _)).trans (.reformSync _ _)).keeps

theorem changeLevel (l : Level) : Keeps s (s.changeLevel l) := by
  unfold State.changeLevel
  split
  · exact refl s
  · exact ((setLevel s l).trans (raise _ _ rfl)).trans (bump _ _)

theorem judgePower (m : Measurement) : Keeps s (s.judgePower m) := (follow s _ _ rfl).trans (follow _ _ _ rfl)

theorem jump : Keeps s s.jump := by
  unfold State.jump
  split
  · exact modPmg s _ rfl id
  · exact (changeLevel s _).trans (bump _ _)

theorem riseTest (m : Measurement) : Keeps s (s.riseTest m) := by
  have counted := modPmg s (fun p => { p with rise := if callsRise p m then min 3 (p.rise + 1) else 0 }) rfl id
  unfold State.riseTest
  dsimp only
  split
  · split
    · exact (counted.trans (changeLevel _ _)).trans (bump _ _)
    · exact counted
  · exact counted

theorem fallTest (m : Measurement) : Keeps s (s.fallTest m) := by
  have counted := modPmg s (fun p => { p with fall := if callsFall p m then min 200 (p.fall + 1) else 0 }) rfl id
  unfold State.fallTest
  dsimp only
  split
  · split
    · exact (counted.trans (changeLevel _ _)).trans (bump _ _)
    · exact counted
  · exact counted

theorem shed (m : Measurement) : Keeps s (s.shed m) := by
  unfold State.shed
  split
  · exact refl s
  · split
    · exact jump s
    · exact (riseTest s m).trans (fallTest _ m)

/-- R208: the link step is taken with NORMAL reached. -/
theorem linkStep : Keeps s s.linkStep := by
  unfold State.linkStep
  split
  next h =>
    obtain ⟨hreached, _, hdown⟩ := h
    refine modTlc s _ rfl fun sound => ⟨fun _ => sound.1 ?_, fun a => ?_⟩
    · rw [State.linkActive, hdown]
      rfl
    · rw [State.modTlc_pmg, hreached] at a
      exact absurd a (by decide)
  · exact refl s

theorem enterNormal : Keeps s s.enterNormal :=
  ((modPmg s _ rfl (fun h => absurd h Bool.noConfusion)).trans (formTarget _)).trans (linkStep _)

theorem leaveStart (m : Measurement) : Keeps s (s.leaveStart m) := by
  unfold State.leaveStart
  split
  · exact enterNormal s
  · exact refl s

theorem enterBrownout : Keeps s s.enterBrownout := by
  unfold State.enterBrownout
  exact ((((modPmg s _ rfl id).trans (formTarget _)).trans (raise _ _ rfl)).trans (bump _ _)).trans (modPmg _ _ rfl id)

theorem brownoutTest (m : Measurement) : Keeps s (s.brownoutTest m) := by
  have counted := modPmg s (fun p => { p with cut := if m.vin < p.limits.vCut then p.cut + 1 else 0 }) rfl id
  unfold State.brownoutTest
  dsimp only
  split
  · exact counted.trans (enterBrownout _)
  · exact counted

theorem recover : Keeps s s.recover :=
  (((changeLevel s _).trans (modPmg _ _ rfl id)).trans (enterNormal _)).trans (opportunity _)

theorem recoveryTest (m : Measurement) : Keeps s (s.recoveryTest m) := by
  have counted := modPmg s (fun p =>
    { p with recovery := if p.limits.vWarn ≤ m.vin then min 500 (p.recovery + 1) else 0 }) rfl id
  unfold State.recoveryTest
  dsimp only
  split
  · exact counted.trans (recover _)
  · exact counted

theorem supplyTests (m : Measurement) : Keeps s (s.supplyTests m) := by
  unfold State.supplyTests
  split
  · exact recoveryTest s m
  · exact (leaveStart s m).trans (brownoutTest _ m)
  · exact (leaveStart s m).trans (brownoutTest _ m)

theorem load (b : Bool) : Keeps s (s.load b) := modPmg s _ rfl id

theorem endProc (r : ProcResult) (v : List ProcValue) : Keeps s (s.endProc r v) := (ReaderStep.endProc s r v).keeps

theorem work (w : Work) : Keeps s (s.work w) := (ReaderStep.modPrr s _).keeps

theorem cableEnd (v1 i1 v2 i2 v3 i3 : Nat) : Keeps s (s.cableEnd v1 i1 v2 i2 v3 i3) := by
  unfold State.cableEnd
  dsimp only
  split
  · exact endProc s _ _
  · exact (modPmg s _ rfl id).trans (endProc _ _ _)

theorem cableStep (m : Measurement) : Keeps s (s.cableStep m) := by
  unfold State.cableStep
  split
  · split
    · exact (load s false).trans (endProc _ _ _)
    · dsimp only
      split
      · exact (work s _).trans (load _ _)
      · split
        · exact (work s _).trans (load _ _)
        · split
          · exact cableEnd s _ _ _ _ _ _
          · exact work s _
  · exact refl s

theorem measure (m : Measurement) : Keeps s (s.measure m) :=
  ((((modPmg s _ rfl id).trans (judgePower _ m)).trans (shed _ m)).trans (supplyTests _ m)).trans (cableStep _ m)

/-! ### The reset of a RESTART (R209) -/

/-- R184, R209: a condition that follows is pending exactly as told, and no other moves. -/
theorem has_follow (c d : Condition) (b : Bool) :
    (s.follow c b).ntu.pending.has d = if d = c then b else s.ntu.pending.has d := by
  unfold State.follow
  by_cases hd : d = c <;> cases b <;> simp [hd]

theorem reformSync_ntu (n : Nat) : (s.reformSync n).ntu = s.ntu := by
  unfold State.reformSync
  split <;> rfl

/-- R187: with no controller and ATTN inactive a raise makes its condition pending and does nothing else. -/
theorem raise_of_no_role {s : State} (hr : s.cmu.role = none) (ha : s.ntu.attn = false) (c : Condition) :
    s.raise c = s.modNtu fun n => { n with pending := n.pending.put c } := by
  unfold State.raise
  split
  next h => simp only [State.modNtu, Masks.put_of_has _ _ h]
  next h => simp [State.noticeDue, State.attend, State.attnWanted, hr, ha]

/-- R183: with no controller and ATTN inactive a clear does nothing but clear. -/
theorem lower_of_no_role {s : State} (hr : s.cmu.role = none) (ha : s.ntu.attn = false) (c : Condition) :
    s.lower c = s.modNtu fun n => { n with pending := n.pending.drop c } := by
  simp [State.lower, State.attend, State.attnWanted, hr, ha]

theorem follow_of_no_role {s : State} (hr : s.cmu.role = none) (ha : s.ntu.attn = false) (c : Condition) (b : Bool) :
    ∃ m, s.follow c b = s.modNtu fun n => { n with pending := m } := by
  unfold State.follow
  split
  · exact ⟨_, raise_of_no_role hr ha c⟩
  · exact ⟨_, lower_of_no_role hr ha c⟩

/-- R184, R210: after a reset, which leaves no controller, the live conditions are reported and nothing else moves. -/
theorem reportLive_eq {s : State} (hr : s.cmu.role = none) (ha : s.ntu.attn = false) :
    ∃ m, s.reportLive = s.modNtu fun n => { n with pending := m } := by
  have again (c : Condition) (b : Bool) (t : State) (h : ∃ m, t = s.modNtu fun n => { n with pending := m }) :
      ∃ m, t.follow c b = s.modNtu fun n => { n with pending := m } := by
    obtain ⟨m, rfl⟩ := h
    exact follow_of_no_role (s := s.modNtu fun n => { n with pending := m }) hr ha c b
  exact again _ _ _ (again _ _ _ (again _ _ _ (again _ _ _ (again _ _ _ (again _ _ _ (follow_of_no_role hr ha _ _))))))

/-- R184, R196: after the live conditions are reported, each of them is pending exactly while its state holds. -/
theorem reportLive_liveSound (ha : s.msu.a.faultHeld = false) (hb : s.msu.b.faultHeld = false)
    (hp : s.ntu.pending = Masks.none) : s.reportLive.liveSound := by
  rw [liveSound_iff]
  intro c hc
  have clear : Masks.none.has .imuFaultA = false ∧ Masks.none.has .imuFaultB = false := by decide
  cases c <;> simp only [Condition.tied, Bool.false_eq_true] at hc
  all_goals
    simp [State.reportLive, railOrder, has_follow, State.followStale, State.tiedHolds, railFault, Rails.get, hp, ha, hb,
      clear]

/-- R209: a reset keeps the link and its times, and what is held only in ACTIVE stays so. -/
theorem doRestart : Keeps s s.doRestart := by
  have formed := ReaderStep.reformSync s.blocksRestart s.period
  have hntu := reformSync_ntu s.blocksRestart s.period
  have hheld : (s.blocksRestart.reformSync s.period).msu.a.faultHeld = false ∧
      (s.blocksRestart.reformSync s.period).msu.b.faultHeld = false := by
    unfold State.reformSync
    split <;> exact ⟨rfl, rfl⟩
  unfold State.doRestart
  generalize hu : s.blocksRestart.reformSync s.period = u at formed hntu hheld
  obtain ⟨m, hm⟩ := reportLive_eq (s := u) formed.role (by rw [hntu]; rfl)
  have reported : Keeps s u.reportLive := by
    have live := reportLive_liveSound u hheld.1 hheld.2 (by rw [hntu]; rfl)
    rw [hm] at live ⊢
    refine ⟨⟨formed.lt, formed.straps, formed.pending, fun sound => formed.linkSound ?_, fun _ => live⟩, formed.loaded,
      formed.storeState⟩
    refine linkSound_congr (s := s) rfl rfl (fun _ htx _ _ => ⟨?_, rfl, rfl⟩) sound
    exact (by unfold State.detachedTx; rw [htx] : s.detachedTx = none)
  exact reported.trans ((ReaderStep.startImus _).trans (.scanStart _)).keeps

/-! ### Changes of link state (R1 to R15) -/

theorem restartOnLeave : Keeps s s.restartOnLeave := by
  unfold State.restartOnLeave
  split
  · exact doRestart s
  · exact refl s

/-- R14, R22, R24: leaving ACTIVE leaves nothing in transmission, no waiting beat and no sleep pending. -/
theorem leaveActive_out : s.leaveActive.tlc.tx = none ∧ s.leaveActive.tlc.beat = none ∧
    s.leaveActive.tlc.sleepPending = false := ⟨rfl, rfl, rfl⟩

/-- R1, R10, R13: the link leaves ACTIVE: `t` is the part with its new link state, reports made, just before what ACTIVE held is
given up. -/
theorem leaveActive {s t : State} (h : s.linkSound → s.linkActive = true) (hlt : t.lt = s.lt) (hst : t.straps = s.straps)
    (hpe : t.pending = s.pending) (hr : t.pmg.reachedNormal = s.pmg.reachedNormal) (hlive : s.liveSound → t.liveSound)
    (hlo : t.loaded = s.loaded) (hss : t.cmu.storeState = s.cmu.storeState) : Keeps s t.leaveActive where
  lt := hlt
  straps := hst
  pending := hpe
  link sound := by
    have reached : s.pmg.reachedNormal = true := sound.reached (by
      intro e
      have a := h sound
      rw [State.linkActive, e] at a
      exact absurd a (by decide))
    refine ⟨fun _ => leaveActive_out t, fun a => ?_⟩
    rw [show t.leaveActive.pmg = t.pmg from rfl, hr, reached] at a
    exact absurd a (by decide)
  live a := liveSound_congr (s := t) (fun _ _ => rfl) (State.tiedHolds_congr rfl rfl rfl rfl) (hlive a)
  loaded := hlo
  storeState := hss

theorem enterRetrain (c : Channel) (h : s.linkActive = true) : Keeps s (s.enterRetrain c) := by
  have raised := sbn_raise (s.modTlc fun t => { t with link := .retrain c 1 s.lt, retrainAt := some s.lt }) .retrain
  have live (a : s.liveSound) := raise_liveSound (c := .retrain) rfl
    (liveSound_congr (t := s.modTlc fun t => { t with link := .retrain c 1 s.lt, retrainAt := some s.lt })
      (fun _ _ => rfl) (State.tiedHolds_congr rfl rfl rfl rfl) a)
  have reached := congrArg Pmg.reachedNormal raised.pmg
  unfold State.enterRetrain
  dsimp only at raised live reached ⊢
  generalize (s.modTlc fun t => { t with link := .retrain c 1 s.lt, retrainAt := some s.lt }).raise .retrain = t at *
  exact ((leaveActive (t := t.bump .retrainEntries) (fun _ => h) raised.lt raised.straps raised.pending reached live
    raised.loaded raised.storeState).trans (abandon _)).trans (restartOnLeave _)

theorem tellPmg (b : Bool) : Keeps s (s.tellPmg b) :=
  ((modPmg s _ rfl id).trans (formBudget _)).trans (formTarget _)

theorem enterSleep (h : s.linkSound → s.linkActive = true) : Keeps s s.enterSleep := by
  have left := leaveActive (t := (s.modTlc fun t => { t with link := .sleep }).bump .sleepEntries) h rfl rfl rfl rfl id rfl rfl
  unfold State.enterSleep
  exact (((left.trans (tellPmg _ true)).trans (ReaderStep.imusOff _).keeps).trans
    (ReaderStep.scanOff _).keeps).trans (restartOnLeave _)

/-- R1: a change of link state among the states out of ACTIVE. -/
theorem moveLink (l : Link) (f : Tlc → Tlc) (hf : f s.tlc = { s.tlc with link := l }) (h : s.linkActive = false)
    (hd : s.tlc.link ≠ .down none) : Keeps s (s.modTlc f) := by
  refine modTlc s f (by rw [hf]) fun sound => ⟨fun _ => ?_, fun a => ?_⟩
  · rw [State.modTlc_tlc, hf]
    exact sound.1 h
  · rw [State.modTlc_pmg, sound.reached hd] at a
    exact absurd a (by decide)

theorem enterDown (h : s.linkActive = false) (hd : s.tlc.link ≠ .down none) : Keeps s s.enterDown := by
  have down := (((moveLink s (.down (some (s.lt + Config.retryInterval)))
    (fun t => { t with link := .down (some (s.lt + Config.retryInterval)) }) rfl h hd).trans
    (raise _ .linkDown rfl)).trans (bump _ .linkDownEntries)).trans (abandon _)
  unfold State.enterDown
  dsimp only
  split
  · exact (down.trans (release _ _)).trans (formBudget _)
  · exact down.trans (formBudget _)

theorem trainingFails : Keeps s s.trainingFails := by
  unfold State.trainingFails
  split
  next n b a hl =>
    have hd : (s.bump .trainingFailures).tlc.link ≠ .down none := by rw [State.bump_tlc, hl]; exact Link.noConfusion
    have ha : (s.bump .trainingFailures).linkActive = false := by rw [State.linkActive, State.bump_tlc, hl]; rfl
    dsimp only
    split
    · exact (bump s _).trans (moveLink _ _ _ rfl ha hd)
    · exact (bump s _).trans (enterDown _ ha hd)
  · exact refl s

theorem retrainFails : Keeps s s.retrainFails := by
  unfold State.retrainFails
  split
  next c n b hl =>
    have hd : (s.bump .trainingFailures).tlc.link ≠ .down none := by rw [State.bump_tlc, hl]; exact Link.noConfusion
    have ha : (s.bump .trainingFailures).linkActive = false := by rw [State.linkActive, State.bump_tlc, hl]; rfl
    dsimp only
    split
    · exact (bump s _).trans (moveLink _ _ _ rfl ha hd)
    · split
      · exact (((bump s _).trans (moveLink _ _ _ rfl ha hd)).trans (raise _ _ rfl)).trans (bump _ _)
      · exact (bump s _).trans (enterDown _ ha hd)
  · exact refl s

/-- R7, R11: an entry into ACTIVE. -/
theorem enterActive (c : Channel) (n : Nat) (hd : s.tlc.link ≠ .down none) : Keeps s (s.enterActive c n) :=
  modTlc s _ rfl fun sound => ⟨fun a => absurd a (by rw [State.linkActive]; exact Bool.noConfusion), fun a => by
    rw [State.modTlc_pmg, sound.reached hd] at a
    exact absurd a (by decide)⟩

theorem wake (h : s.asleep = true) : Keeps s s.wake := by
  have hl : s.tlc.link = .sleep := by simpa [State.asleep] using h
  exact ((moveLink s _ _ rfl (by rw [State.linkActive, hl]; rfl) (by rw [hl]; exact Link.noConfusion)).trans
    (ReaderStep.startImus _).keeps).trans (ReaderStep.scanStart _).keeps

theorem wearWakes (w : Wear) : Keeps s (s.wearWakes w) := by
  unfold State.wearWakes
  split
  next h =>
    have asleep : s.asleep = true := by
      simp only [Bool.and_eq_true] at h
      obtain ⟨⟨⟨asleep, _⟩, _⟩, _⟩ := h
      exact asleep
    exact (modTlc_aside s _ rfl rfl rfl rfl rfl).trans (wake _ asleep)
  · exact refl s

theorem crcError : Keeps s s.crcError := by
  have counted := (bump s .linkCrcErrors).trans
    (modTlc_aside _ (fun t => { t with crcCount := t.crcCount + 1 }) rfl rfl rfl rfl rfl)
  unfold State.crcError
  dsimp only
  split
  next c hl =>
    split
    · exact counted.trans (enterRetrain _ c (by rw [State.linkActive, hl]; rfl))
    · exact counted
  · exact counted

theorem discard (d : Discard) : Keeps s (s.discard d) := by
  cases d with
  | crc => exact crcError s
  | stream | linkKind | pictureKind => exact bump s _

/-! ### Time (R17 to R20) -/

theorem moveOffset (e : Int) : Keeps s (s.moveOffset e) := by
  unfold State.moveOffset
  split
  · exact refl s
  · split
    · exact modTlc_aside s _ rfl rfl rfl rfl rfl
    · exact ((modTlc_aside s _ rfl rfl rfl rfl rfl).trans (raise _ _ rfl)).trans (bump _ _)

/-- R20, R184: the time basis moves together with TIME_FREE. -/
theorem moveBasis {s t : State} (b : Basis) (f : Tlc → Tlc) (hf : f s.tlc = { s.tlc with basis := b })
    (h : SameButNotices (s.modTlc f) t) (still : s.mayStart = false → t.tlc = f s.tlc)
    (hp : t.ntu.pending = s.ntu.pending.put .timeFree ∧ b = .free ∨
      t.ntu.pending = s.ntu.pending.drop .timeFree ∧ b ≠ .free) : Keeps s t where
  lt := h.lt
  straps := h.straps
  pending := h.pending
  link := linkSound_congr (by rw [h.link, State.modTlc_tlc, hf]) (by rw [h.pmg]; rfl) fun a htx hbeat hsleep => by
    rw [still (by simp [State.mayStart, a]), hf]
    exact ⟨htx, hbeat, hsleep⟩
  live := by
    have basis : t.tlc.basis = b := by rw [h.basis, State.modTlc_tlc, hf]
    have others (d : Condition) (hd : d ≠ .timeFree) : t.tiedHolds d ↔ s.tiedHolds d := by
      rw [h.tiedHolds]
      cases d <;> first | exact Iff.rfl | exact absurd rfl hd
    refine liveSound_of_change .timeFree ?_ fun d _ hd => ⟨?_, others d hd⟩
    · show _ ↔ t.tlc.basis = .free
      rw [basis]
      obtain ⟨hp, hb⟩ | ⟨hp, hb⟩ := hp <;> rw [hp] <;> simp [hb]
    · obtain ⟨hp, _⟩ | ⟨hp, _⟩ := hp
      · rw [hp, has_put_of_ne hd]
      · rw [hp, has_drop_of_ne hd]
  loaded := h.loaded
  storeState := h.storeState

theorem lockBasis : Keeps s s.lockBasis :=
  moveBasis (.locked s.lt) (fun t => { t with basis := .locked s.lt }) rfl (sbn_lower _ _) (fun _ => lower_tlc _ _)
    (.inr ⟨lower_pending _ _, Basis.noConfusion⟩)

/-! ### Messages and beats that leave (R22, R24, R201) -/

theorem takeBeat (h : s.linkActive = true) : Keeps s s.takeBeat := by
  unfold State.takeBeat
  dsimp only
  split
  · exact ((bump s _).trans (modTlc_active _ _ h rfl rfl)).trans (opportunity _)
  · exact (modTlc_active s _ h rfl rfl).trans (opportunity _)

theorem replyLeft (p : Port) : Keeps s (s.replyLeft p) := modCmu s _ rfl

/-- R14: a sleep is pending only in ACTIVE, so a sleep reply that leaves with the mark set finds the link there. -/
theorem messageLeft (p : Port) (r : MessageRole) : Keeps s (s.messageLeft p r) := by
  cases r with
  | notice => exact refl s
  | reply => exact replyLeft s p
  | restartReply => exact (replyLeft s p).trans (doRestart _)
  | sleepReply =>
    unfold State.messageLeft
    dsimp only
    split
    next h =>
      refine (replyLeft s p).trans (enterSleep _ fun sound => ?_)
      by_contra out
      have calm := (sound.1 (Bool.eq_false_iff.2 out)).2.2
      rw [show (s.replyLeft p).tlc = s.tlc from rfl, h] at calm
      exact absurd calm (by decide)
    · exact replyLeft s p

theorem blockSent (x : Transmission) : Keeps s (s.blockSent x) := by
  have sent := modTlc s (fun t => { t with tx := none }) rfl (linkSound_congr rfl rfl fun _ _ b c => ⟨rfl, b, c⟩)
  unfold State.blockSent
  dsimp only
  split
  · exact sent
  · exact sent
  · exact sent.trans (ReaderStep.modMsu _ _ rfl rfl).keeps
  · exact sent.trans (ReaderStep.modAud _ _).keeps
  · split
    · exact sent
    · exact (sent.trans (modCmu _ _ rfl)).trans (messageLeft _ _ _)

theorem frameSent : Keeps s s.frameSent := by
  have sent := modCmu s (fun c => { c with serviceTx := .idle }) rfl
  unfold State.frameSent
  dsimp only
  split
  · exact (sent.trans (modCmu _ _ rfl)).trans (messageLeft _ _ _)
  · exact sent

/-! ### Notices and procedures (R169 to R194) -/

theorem has_of_get {m n : Masks} {c : Condition} (h : (m.get c.set).getLsbD c.place.2 = (n.get c.set).getLsbD c.place.2) :
    m.has c = n.has c := by rw [has_eq, has_eq, h]

/-- R184, R193: a live condition is not among the latched ones of its set. -/
theorem latched_of_tied {c : Condition} (h : c.tied = true) : c.set.latched.getLsbD c.place.2 = false := by
  revert h
  cases c <;> decide

theorem clearable_of_tied {c : Condition} (h : c.tied = true) (m : BitVec 16) :
    (clearable c.set m).getLsbD c.place.2 = false := by
  unfold clearable
  split <;> simp [latched_of_tied h]

theorem clearSet (c : CondSet) (m : BitVec 16) : Keeps s (s.clearSet c m) := by
  refine (modNtu s _ fun d hd => has_of_get ?_).trans (attend _)
  dsimp only
  rw [Masks.get_set]
  split
  next e =>
    subst e
    rw [BitVec.getLsbD_and, BitVec.getLsbD_not, clearable_of_tied hd]
    simp [place_lt]
  · rfl

theorem dueFor (cs : List Condition) : Keeps s (s.dueFor cs) := by
  unfold State.dueFor
  induction cs generalizing s with
  | nil => exact refl s
  | cons c cs ih => exact (noticeDue s).trans (ih _)

theorem holdoffExpires : Keeps s s.holdoffExpires := by
  have ended := modNtu s (fun n => { n with timer := none, due := false }) fun _ _ => rfl
  unfold State.holdoffExpires
  dsimp only
  split
  · exact ended.trans (issue _)
  · exact ended

theorem accept (a : StartArgs) : Keeps s (s.accept a) := (ReaderStep.modPrr s _).keeps.trans (bump _ _)

/-- Holds put on or taken off the targets of a SENSOR_SYNC. -/
theorem modTargets (t : Targets) (f : Imu → Imu) (h : ∀ i, (f i).faultHeld = i.faultHeld) :
    Keeps s (t.list.foldl (fun s x => s.modImu x f) s) :=
  (ReaderStep.foldl s _ (fun s x => .modImu s x f (h _)) _).keeps

theorem startCheck (a : StartArgs) : Keeps s (s.startCheck a) := by
  unfold State.startCheck
  dsimp only
  cases a with
  | biasCal t d n =>
    dsimp only
    split
    · exact refl s
    · exact endProc s _ _
  | cableMeasure =>
    dsimp only
    split
    · exact refl s
    · exact endProc s _ _
  | sensorSync t =>
    dsimp only
    split
    · exact modTargets s t _ fun _ => rfl
    · exact endProc s _ _
  | writeStore =>
    dsimp only
    split
    · exact modCmu s _ rfl
    · exact endProc s _ _

theorem stopWork (w : Work) : Keeps s (s.stopWork w) := by
  cases w with
  | biasCal _ _ _ _ _ => exact refl s
  | store _ _ => exact refl s
  | cable _ _ _ _ _ _ _ => exact load s false
  | sync t _ => exact modTargets s t _ fun _ => rfl

theorem judgeBias (t : Targets) (n : Nat) (a b : Collection) : Keeps s (s.judgeBias t n a b) := by
  unfold State.judgeBias
  dsimp only
  split
  · exact endProc s _ _
  · split
    · exact endProc s _ _
    · exact (ReaderStep.foldl s _ (fun s x => .modOin s _) _).keeps.trans (endProc _ _ _)

end Keeps
end Sys2Proof.Machine
end

section
/-!
Every command but POWER_ON and STORE_LOAD_COMPLETE keeps what `Keeps` says, command by command; what those two keep; and the
invariants that follow for a step (O4, O10, O11).
-/

namespace Sys2Proof.Machine

/-- A command ends, in a state that is related to the one it was taken in. -/
def Lands (R : State → State → Prop) (i : Instr) (s : State) : Prop := ∃ t, exec i s = .next t ∧ R s t

theorem Lands.of_exec {R : State → State → Prop} {i : Instr} {s t : State} (h : Lands R i s) (e : exec i s = .next t) :
    R s t := by
  obtain ⟨u, hu, hr⟩ := h
  rw [e] at hu
  cases hu
  exact hr

namespace Keeps
variable (s : State)

/-! ### Power rows -/

theorem inputMeasurement (v i : Nat) : Lands Keeps (.inputMeasurement v i) s := ⟨_, rfl, by
  split
  · exact refl s
  · exact (modPmg s _ rfl id).trans (measure _ _)⟩

theorem railPowerGood (x : Rail) : Lands Keeps (.railPowerGood x) s := ⟨_, rfl, by
  split
  · exact ((RailStep.setRail s x _).trans (.sequence _)).keeps
  · exact refl s⟩

theorem railRampTimeout (x : Rail) : Lands Keeps (.railRampTimeout x) s := ⟨_, rfl, by
  split
  · split
    · exact (RailStep.railFails s x).keeps
    · exact refl s
  · exact refl s⟩

theorem powerGoodWithdrawn (x : Rail) : Lands Keeps (.powerGoodWithdrawn x) s := ⟨_, rfl, by
  split
  · exact (RailStep.railFails s x).keeps
  · exact refl s⟩

/-! ### Link rows -/

theorem trainingRecordReceived (r : BaseRecord) (l : BitVec 4) : Lands Keeps (.trainingRecordReceived r l) s := ⟨_, rfl, by
  split
  next n b hl =>
    split
    · exact moveLink s _ _ rfl (by rw [State.linkActive, hl]; rfl) (by rw [hl]; exact Link.noConfusion)
    · exact trainingFails s
  · exact refl s⟩

theorem trainingAttemptSucceeds (n : Nat) : Lands Keeps (.trainingAttemptSucceeds n) s := ⟨_, rfl, by
  split
  next k b a hl =>
    split
    · exact ((((enterActive s a.channel n (by rw [hl]; exact Link.noConfusion)).trans
        (modTlc_aside _ _ rfl rfl rfl rfl rfl)).trans (raise _ _ rfl)).trans (tellPmg _ false)).trans (opportunity _)
    · exact refl s
  · exact refl s⟩

theorem trainingAttemptTimeout : Lands Keeps .trainingAttemptTimeout s := ⟨_, rfl, by
  split
  · split
    · exact trainingFails s
    · exact refl s
  · exact refl s⟩

theorem symbolLockLost (l : Fin 4) : Lands Keeps (.symbolLockLost l) s := ⟨_, rfl, by
  split
  next c hl =>
    split
    · exact enterRetrain s c (by rw [State.linkActive, hl]; rfl)
    · exact refl s
  · split
    · exact retrainFails s
    · exact refl s
  · split
    · exact trainingFails s
    · exact refl s
  · exact refl s⟩

theorem retrainAttemptSucceeds (n : Nat) : Lands Keeps (.retrainAttemptSucceeds n) s := ⟨_, rfl, by
  split
  next c k b hl =>
    split
    · exact ((enterActive s c n (by rw [hl]; exact Link.noConfusion)).trans (tellPmg _ false)).trans (opportunity _)
    · exact refl s
  · exact refl s⟩

theorem retrainAttemptTimeout : Lands Keeps .retrainAttemptTimeout s := ⟨_, rfl, by
  split
  · split
    · exact retrainFails s
    · exact refl s
  · exact refl s⟩

theorem retryTimerExpiry : Lands Keeps .retryTimerExpiry s := ⟨_, rfl, by
  split
  next e hl =>
    split
    · exact moveLink s _ _ rfl (by rw [State.linkActive, hl]; rfl) (by rw [hl]; exact fun h => nomatch h)
    · exact refl s
  · exact refl s⟩

theorem lineEnergyDetected : Lands Keeps .lineEnergyDetected s := ⟨_, rfl, by
  split
  next h => exact wake s h
  · exact refl s⟩

theorem linkBlockDiscarded (b : List Byte) : Lands Keeps (.linkBlockDiscarded b) s := ⟨_, rfl, by
  split
  · split
    · exact discard s _
    · exact refl s
  · split
    · exact bump s _
    · exact refl s⟩

theorem crcWindowBoundary : Lands Keeps .crcWindowBoundary s := ⟨_, rfl, by
  split
  · exact modTlc_aside s _ rfl rfl rfl rfl rfl
  · exact refl s⟩

theorem timeMark (q : List Byte) : Lands Keeps (.timeMark q) s := ⟨_, rfl, by
  split
  · split
    · exact bump s _
    · exact (moveOffset s _).trans (lockBasis _)
  · exact refl s⟩

theorem timeBasisFree : Lands Keeps .timeBasisFree s := ⟨_, rfl, by
  split
  · split
    · exact moveBasis .free (fun t => { t with basis := .free }) rfl (sbn_raise _ _)
        (fun h => raise_tlc_of_not_mayStart (s := s.modTlc fun t => { t with basis := .free }) h _)
        (.inl ⟨raise_pending _ _, rfl⟩)
    · exact refl s
  · exact refl s⟩

theorem sleepMark (q : List Byte) : Lands Keeps (.sleepMark q) s := ⟨_, rfl, by
  split
  next h =>
    split
    · exact enterSleep s fun _ => h
    · exact bump s _
  · exact refl s⟩

theorem statusBeatDue : Lands Keeps .statusBeatDue s := ⟨_, rfl, by
  split
  next h =>
    simp only [State.beatDue, Bool.and_eq_true] at h
    exact takeBeat s h.1.1
  · exact refl s⟩

theorem upstreamBlockSent : Lands Keeps .upstreamBlockSent s := ⟨_, rfl, by
  split
  · split
    · exact (blockSent s _).trans (opportunity _)
    · exact refl s
  · exact refl s⟩

/-! ### Downstream blocks and arrivals -/

/-- R1: a row that acts in ACTIVE alone. -/
theorem inActive {t : State} (h : Keeps s t) : Keeps s (if s.linkActive then t else s) := by
  split
  · exact h
  · exact refl s

theorem frameBegin_row (q : List Byte) : Lands Keeps (.frameBegin q) s := ⟨_, rfl, inActive s (frameBegin s _)⟩

theorem lines_row (q : List Byte) : Lands Keeps (.lines q) s := ⟨_, rfl, inActive s (lines s _)⟩

theorem frameEnd_row (q : List Byte) : Lands Keeps (.frameEnd q) s := ⟨_, rfl, inActive s (frameEnd s _)⟩

theorem sound (q : List Byte) : Lands Keeps (.sound q) s := ⟨_, rfl, inActive s (takeSound s _)⟩

theorem controlBlockReceived (q : List Byte) : Lands Keeps (.controlBlockReceived q) s := ⟨_, rfl, inActive s (by
  split
  · exact bump s _
  · exact arrive s _ _)⟩

theorem serviceFrameReceived (b : List Byte) : Lands Keeps (.serviceFrameReceived b) s := ⟨_, rfl, by
  split
  · exact (timeOutBytes s).trans (hearBytes _ _)
  · exact refl s⟩

theorem serviceByteTimeout : Lands Keeps .serviceByteTimeout s := ⟨_, rfl, timeOutBytes s⟩

theorem serviceFrameSent : Lands Keeps .serviceFrameSent s := ⟨_, rfl, by
  split
  · exact refl s
  · exact (frameSent s).trans (uartStart _)⟩

/-! ### Requests -/

/-- The answer OK leaves the state that its rule left. -/
theorem ok {t : State} (h : Keeps s t) (v : List Byte) : Keeps s (Answer.ok t v).state := h

section
variable (p : Port) (tag : Byte) (q : List Byte)

theorem unknownKind (k : Byte) : Lands Keeps (.unknownKind p tag k q) s := ⟨_, rfl, by
  split
  · exact reply s _ _ _ _ _ _
  · exact refl s⟩

theorem attach : Lands Keeps (.attach p tag q) s := ⟨_, rfl, by
  have asked := request s .attach p tag q _ (withoutArgs s q _ (attachTo s p))
  split
  · exact asked.trans (roleTaken _)
  · exact asked⟩

theorem detach : Lands Keeps (.detach p tag q) s := ⟨_, rfl, by
  have asked := request s .detach p tag q _ (withoutArgs s q (fun s => .ok s []) (refl s))
  split
  · exact asked.trans (release _ _)
  · exact asked⟩

theorem getInfo : Lands Keeps (.getInfo p tag q) s :=
  ⟨_, rfl, request s .getInfo p tag q _ (withoutArgs s q (fun s => .ok s (s.infoBytes p)) (refl s))⟩

theorem getStatus : Lands Keeps (.getStatus p tag q) s := ⟨_, rfl, request s .getStatus p tag q _ (by
  unfold statusOf
  split <;> exact refl s)⟩

theorem restart : Lands Keeps (.restart p tag q) s := ⟨_, rfl, by
  have asked := request s .restart p tag q _ (withoutArgs s q (restartBy p)
    (modCmu s (fun c => { c with restart := some p }) rfl))
  split
  · exact asked.trans (doRestart _)
  · exact asked⟩

theorem linkSleepBy : Keeps s (linkSleepBy s).state := by
  unfold Machine.linkSleepBy
  split
  · exact refl s
  next h =>
    split
    · exact refl s
    · simp only [Bool.or_eq_true, not_or, Bool.not_eq_true', Bool.not_eq_false] at h
      exact modTlc_active s (fun t => { t with sleepPending := true }) h.1 rfl rfl

theorem linkSleep : Lands Keeps (.linkSleep p tag q) s :=
  ⟨_, rfl, request s .linkSleep p tag q _ (withoutArgs s q _ (linkSleepBy s))⟩

theorem setSensorRate : Lands Keeps (.setSensorRate p tag q) s := ⟨_, rfl, request s .setSensorRate p tag q _ (by
  unfold setRate
  split
  · exact refl s
  · exact ok s ((ReaderStep.modMsu s _ rfl rfl).trans (.reformSync _ _)).keeps _)⟩

theorem setWear_row : Lands Keeps (.setWear p tag q) s := ⟨_, rfl, request s .setWear p tag q _ (by
  unfold setWear
  split
  · exact refl s
  · exact ok s ((ReaderStep.modMsu s _ rfl rfl).trans (.awayExpires _)).keeps _)⟩

theorem setAxisMap : Lands Keeps (.setAxisMap p tag q) s := ⟨_, rfl, request s .setAxisMap p tag q _ (by
  unfold mapAxes
  split
  · exact refl s
  · exact ok s ((ReaderStep.modOin s _).trans (.followStale _)).keeps _)⟩

theorem selectPrimary : Lands Keeps (.selectPrimary p tag q) s := ⟨_, rfl, request s .selectPrimary p tag q _ (by
  unfold select
  split
  · exact refl s
  · split
    · exact refl s
    · split
      · exact ok s (ReaderStep.modOin s _).keeps _
      · exact ok s (ReaderStep.bind s _).keeps _)⟩

theorem anchor : Lands Keeps (.anchor p tag q) s := ⟨_, rfl, request s .anchor p tag q _ (by
  unfold anchorBy
  split
  · exact refl s
  · split
    · exact refl s
    · dsimp only
      split
      · exact bump s _
      · exact ok s ((ReaderStep.modOin s _).keeps.trans (bump _ _)) _)⟩

theorem setPoseOverride : Lands Keeps (.setPoseOverride p tag q) s := ⟨_, rfl, request s .setPoseOverride p tag q _ (by
  unfold setPose
  split
  · exact refl s
  · exact ok s (ReaderStep.modOin s _).keeps _)⟩

theorem clearPoseOverride : Lands Keeps (.clearPoseOverride p tag q) s :=
  ⟨_, rfl, request s .clearPoseOverride p tag q _ (withoutArgs s q _ (ok s (ReaderStep.modOin s _).keeps _))⟩

theorem setProfile_row : Lands Keeps (.setProfile p tag q) s := ⟨_, rfl, request s .setProfile p tag q _ (by
  unfold setProfile
  split
  · exact refl s
  · exact ok s (((((modFst s _).trans (abandon _)).trans (freeShown _)).trans (restartScan _)).trans
      (ReaderStep.judgeDark _).keeps) _)⟩

theorem stagePulses : Lands Keeps (.stagePulses p tag q) s := ⟨_, rfl, request s .stagePulses p tag q _ (by
  unfold stage
  split
  · exact refl s
  · exact ok s (ReaderStep.modIlg s _).keeps _)⟩

theorem setVolume_row : Lands Keeps (.setVolume p tag q) s := ⟨_, rfl, request s .setVolume p tag q _ (by
  unfold setVolume
  split
  · exact refl s
  · dsimp only
    split
    · exact ok s ((ReaderStep.modAud s _).trans (.stopPlayback _)).keeps _
    · exact ok s (ReaderStep.modAud s _).keeps _)⟩

theorem setCapture_row : Lands Keeps (.setCapture p tag q) s := ⟨_, rfl, request s .setCapture p tag q _ (by
  unfold setCapture
  split
  · exact refl s
  · exact ok s (takeCapture s _) _)⟩

theorem setPowerLimits : Lands Keeps (.setPowerLimits p tag q) s := ⟨_, rfl, request s .setPowerLimits p tag q _ (by
  unfold setLimits
  split
  · exact refl s
  · exact ok s (((modPmg s _ rfl id).trans (formBudget _)).trans (modPmg _ _ rfl id)) _)⟩

theorem setCableResistance : Lands Keeps (.setCableResistance p tag q) s :=
  ⟨_, rfl, request s .setCableResistance p tag q _ (by
    unfold setResistance
    split
    · exact refl s
    · exact ok s (modPmg s _ rfl id) _)⟩

theorem railRestart : Lands Keeps (.railRestart p tag q) s :=
  ⟨_, rfl, request s .railRestart p tag q _ (withoutArgs s q _ (by
    unfold restartRails
    dsimp only
    split
    · exact refl s
    · exact (((RailStep.takeDown s _).keeps.trans (bump _ _)).trans (RailStep.sequence _).keeps)))⟩

theorem startBy : Keeps s (startBy q s).state := by
  unfold Machine.startBy
  split
  · exact bump s _
  · split
    · exact refl s
    · exact accept s _

theorem startProcedure : Lands Keeps (.startProcedure p tag q) s := ⟨_, rfl, by
  have asked := request s .startProcedure p tag q _ (startBy s q)
  split
  · split
    · exact asked.trans (startCheck _ _)
    · exact asked
  · exact asked⟩

theorem abortProcedure : Lands Keeps (.abortProcedure p tag q) s :=
  ⟨_, rfl, request s .abortProcedure p tag q _ (withoutArgs s q _ (by
    unfold abortBy
    split
    · exact refl s
    · exact (stopWork s _).trans (endProc _ _ _)))⟩

theorem getProcedureResult : Lands Keeps (.getProcedureResult p tag q) s :=
  ⟨_, rfl, request s .getProcedureResult p tag q _ (withoutArgs s q (fun s => .ok s s.prr.bytes) (refl s))⟩

theorem readConditions : Lands Keeps (.readConditions p tag q) s :=
  ⟨_, rfl, request s .readConditions p tag q _ (withoutArgs s q (fun s => .ok s s.conditionBytes) (refl s))⟩

theorem readCounters : Lands Keeps (.readCounters p tag q) s := ⟨_, rfl, request s .readCounters p tag q _ (by
  unfold readCountersBy
  split
  · exact refl s
  · split
    · exact refl s
    next gs clear _ =>
      cases clear
      · exact refl s
      · exact clearCounts s _)⟩

theorem clearConditions : Lands Keeps (.clearConditions p tag q) s := ⟨_, rfl, request s .clearConditions p tag q _ (by
  unfold clearBy
  split
  · exact refl s
  · exact clearSet s _ _)⟩

theorem setNoticeMask : Lands Keeps (.setNoticeMask p tag q) s := ⟨_, rfl, request s .setNoticeMask p tag q _ (by
  unfold maskBy
  split
  · exact refl s
  · exact ((modNtu s _ fun _ _ => rfl).trans (dueFor _ _)).trans (attend _))⟩

end

/-! ### Procedures -/

theorem biasCalCollectionEnd : Lands Keeps .biasCalCollectionEnd s := ⟨_, rfl, by
  split
  · split
    · exact judgeBias s _ _ _ _
    · exact refl s
  · exact refl s⟩

theorem storeWriteComplete : Lands Keeps .storeWriteComplete s := ⟨_, rfl, by
  split
  · exact (work s _).trans (modCmu _ _ rfl)
  · exact refl s⟩

theorem storeReadbackComplete (b : List Byte) : Lands Keeps (.storeReadbackComplete b) s := ⟨_, rfl, by
  split
  · split <;> exact endProc s _ _
  · exact refl s⟩

/-! ### Sensors -/

theorem sampleTick : Lands Keeps .sampleTick s := ⟨_, rfl, by
  split
  · exact (ReaderStep.modMsu s _ rfl rfl).keeps
  · exact refl s⟩

theorem sampleReadEnd (x : Sensor) (r : ReadResult) : Lands Keeps (.sampleReadEnd x r) s := ⟨_, rfl, by
  split
  · split
    · exact ((ReaderStep.readFails s x).trans (.completeTicks _)).keeps
    · exact ((ReaderStep.readSucceeds s x _).trans (.completeTicks _)).keeps
  · exact refl s⟩

theorem imuStartupTransaction (x : Sensor) (r : StartupResult) : Lands Keeps (.imuStartupTransaction x r) s := ⟨_, rfl, by
  split
  · have failed := ReaderStep.modImu s x (fun i => { i with fails := i.fails + 1 }) rfl
    dsimp only
    split
    · exact (failed.trans (.enterFault _ x)).keeps
    · exact failed.keeps
  · exact (ReaderStep.startupGoesOn s x _ _ _).keeps
  · exact refl s⟩

theorem imuStartupTimeout (x : Sensor) : Lands Keeps (.imuStartupTimeout x) s := ⟨_, rfl, by
  split
  · split
    · exact (ReaderStep.enterFault s x).keeps
    · exact refl s
  · exact refl s⟩

theorem imuRetryExpiry (x : Sensor) : Lands Keeps (.imuRetryExpiry x) s := ⟨_, rfl, by
  split
  · split
    · exact (ReaderStep.enterStarting s x).keeps
    · exact refl s
  · exact refl s⟩

theorem silenceWatchExpiry : Lands Keeps .silenceWatchExpiry s := ⟨_, rfl, by
  split
  · exact ((ReaderStep.modOin s _).trans (.primaryFails _)).keeps
  · exact refl s⟩

theorem poseStale : Lands Keeps .poseStale s := ⟨_, rfl, (ReaderStep.followStale s).keeps⟩

theorem wearReadTick : Lands Keeps .wearReadTick s := ⟨_, rfl, by
  split
  · exact (ReaderStep.modMsu s _ rfl rfl).keeps
  · exact refl s⟩

theorem wearReadDone (r : WearResult) : Lands Keeps (.wearReadDone r) s := ⟨_, rfl, by
  split
  · exact (ReaderStep.wearRead s r).keeps.trans (wearWakes _ _)
  · exact refl s⟩

theorem awayTimerExpiry : Lands Keeps .awayTimerExpiry s := ⟨_, rfl, (ReaderStep.awayExpires s).keeps⟩

/-! ### Pictures, sound and notices -/

theorem blankStart : Lands Keeps .blankStart s := ⟨_, rfl, by
  split
  · exact (((takeBlank s).trans (copyAtBlank _)).trans (selectFrame _)).trans (outputAtBlank _)
  · exact refl s⟩

theorem illumPulseStart (x : Side) : Lands Keeps (.illumPulseStart x) s := ⟨_, rfl, by
  split
  · exact (ReaderStep.modIlg s _).keeps
  · exact refl s⟩

theorem illumPulseEnd (x : Side) : Lands Keeps (.illumPulseEnd x) s := ⟨_, rfl, by
  split
  · exact (bump s _).trans (ReaderStep.modIlg _ _).keeps
  · exact refl s⟩

theorem outputInstant (m1 m2 : Int) : Lands Keeps (.outputInstant m1 m2) s := ⟨_, rfl, by
  split
  · exact ((ReaderStep.modAud s _).keeps.trans (playback _)).trans (capture _ _ _)
  · exact refl s⟩

theorem attenuationRampStep : Lands Keeps .attenuationRampStep s := ⟨_, rfl, by
  split
  · exact (ReaderStep.modAud s _).keeps
  · exact refl s⟩

theorem holdoffExpiry : Lands Keeps .holdoffExpiry s := ⟨_, rfl, by
  split
  · exact holdoffExpires s
  · exact refl s⟩

theorem quietHoldEnd : Lands Keeps .quietHoldEnd s := ⟨_, rfl, by
  split
  · exact (modNtu s _ fun _ _ => rfl).trans (attend _)
  · exact refl s⟩

/-- R16, R206, R207, R182: what every command but POWER_ON and STORE_LOAD_COMPLETE keeps. -/
theorem exec (i : Instr) (hp : ∀ x, i ≠ .powerOn x) (hl : ∀ r, i ≠ .storeLoadComplete r) : Lands Keeps i s := by
  cases i with
  | powerOn x => exact absurd rfl (hp x)
  | storeLoadComplete r => exact absurd rfl (hl r)
  | inputMeasurement v i => exact inputMeasurement s v i
  | railPowerGood x => exact railPowerGood s x
  | railRampTimeout x => exact railRampTimeout s x
  | powerGoodWithdrawn x => exact powerGoodWithdrawn s x
  | trainingRecordReceived r l => exact trainingRecordReceived s r l
  | trainingAttemptSucceeds n => exact trainingAttemptSucceeds s n
  | trainingAttemptTimeout => exact trainingAttemptTimeout s
  | symbolLockLost l => exact symbolLockLost s l
  | retrainAttemptSucceeds n => exact retrainAttemptSucceeds s n
  | retrainAttemptTimeout => exact retrainAttemptTimeout s
  | retryTimerExpiry => exact retryTimerExpiry s
  | lineEnergyDetected => exact lineEnergyDetected s
  | linkBlockDiscarded b => exact linkBlockDiscarded s b
  | crcWindowBoundary => exact crcWindowBoundary s
  | timeMark q => exact timeMark s q
  | timeBasisFree => exact timeBasisFree s
  | sleepMark q => exact sleepMark s q
  | statusBeatDue => exact statusBeatDue s
  | upstreamBlockSent => exact upstreamBlockSent s
  | frameBegin q => exact frameBegin_row s q
  | lines q => exact lines_row s q
  | frameEnd q => exact frameEnd_row s q
  | sound q => exact sound s q
  | controlBlockReceived q => exact controlBlockReceived s q
  | serviceFrameReceived b => exact serviceFrameReceived s b
  | serviceByteTimeout => exact serviceByteTimeout s
  | serviceFrameSent => exact serviceFrameSent s
  | unknownKind p tag k q => exact unknownKind s p tag q k
  | attach p tag q => exact attach s p tag q
  | detach p tag q => exact detach s p tag q
  | getInfo p tag q => exact getInfo s p tag q
  | getStatus p tag q => exact getStatus s p tag q
  | restart p tag q => exact restart s p tag q
  | linkSleep p tag q => exact linkSleep s p tag q
  | setSensorRate p tag q => exact setSensorRate s p tag q
  | setWear p tag q => exact setWear_row s p tag q
  | setAxisMap p tag q => exact setAxisMap s p tag q
  | selectPrimary p tag q => exact selectPrimary s p tag q
  | anchor p tag q => exact anchor s p tag q
  | setPoseOverride p tag q => exact setPoseOverride s p tag q
  | clearPoseOverride p tag q => exact clearPoseOverride s p tag q
  | setProfile p tag q => exact setProfile_row s p tag q
  | stagePulses p tag q => exact stagePulses s p tag q
  | setVolume p tag q => exact setVolume_row s p tag q
  | setCapture p tag q => exact setCapture_row s p tag q
  | setPowerLimits p tag q => exact setPowerLimits s p tag q
  | setCableResistance p tag q => exact setCableResistance s p tag q
  | railRestart p tag q => exact railRestart s p tag q
  | startProcedure p tag q => exact startProcedure s p tag q
  | abortProcedure p tag q => exact abortProcedure s p tag q
  | getProcedureResult p tag q => exact getProcedureResult s p tag q
  | readConditions p tag q => exact readConditions s p tag q
  | readCounters p tag q => exact readCounters s p tag q
  | clearConditions p tag q => exact clearConditions s p tag q
  | setNoticeMask p tag q => exact setNoticeMask s p tag q
  | biasCalCollectionEnd => exact biasCalCollectionEnd s
  | storeWriteComplete => exact storeWriteComplete s
  | storeReadbackComplete b => exact storeReadbackComplete s b
  | sampleTick => exact sampleTick s
  | sampleReadEnd x r => exact sampleReadEnd s x r
  | imuStartupTransaction x r => exact imuStartupTransaction s x r
  | imuStartupTimeout x => exact imuStartupTimeout s x
  | imuRetryExpiry x => exact imuRetryExpiry s x
  | silenceWatchExpiry => exact silenceWatchExpiry s
  | poseStale => exact poseStale s
  | wearReadTick => exact wearReadTick s
  | wearReadDone r => exact wearReadDone s r
  | awayTimerExpiry => exact awayTimerExpiry s
  | blankStart => exact blankStart s
  | illumPulseStart x => exact illumPulseStart s x
  | illumPulseEnd x => exact illumPulseEnd s x
  | outputInstant m1 m2 => exact outputInstant s m1 m2
  | attenuationRampStep => exact attenuationRampStep s
  | holdoffExpiry => exact holdoffExpiry s
  | quietHoldEnd => exact quietHoldEnd s

end Keeps

/-! ### The store load and POWER_ON (R206 to R208) -/

namespace SoundStep
variable (s : State)

theorem refl : SoundStep s s := (Keeps.refl s).toSoundStep

theorem takeLoaded (v : Loaded) : SoundStep s (s.takeLoaded v) := ⟨rfl, rfl, rfl, id, id⟩

theorem endLoad (x : StoreState) (v : Loaded) : SoundStep s (s.endLoad x v) := by
  have settled (f : Cmu → Cmu) (t : State) : SoundStep t (t.modCmu f) := ⟨rfl, rfl, rfl, id, id⟩
  have taken := (((takeLoaded s v).trans ((ReaderStep.reformSync _ s.period).keeps.trans
    (Keeps.takeCapture _ v.capture)).toSoundStep).trans (settled (fun c => { c with storeState := x }) _)).trans
    ((ReaderStep.judgeDark _).keeps.trans (Keeps.attend _)).toSoundStep
  unfold State.endLoad
  dsimp only
  split
  · exact taken.trans (Keeps.linkStep _).toSoundStep
  · exact taken.trans ((Keeps.raise _ _ rfl).trans (Keeps.linkStep _)).toSoundStep

theorem storeLoadComplete (r : Option (List Byte)) : Lands SoundStep (.storeLoadComplete r) s := ⟨_, rfl, by
  split
  · split
    · split
      · exact endLoad s _ _
      · exact endLoad s _ _
    · exact endLoad s _ _
  · exact refl s⟩

/-- R16, R206: what every command but POWER_ON keeps. -/
theorem exec (i : Instr) (hp : ∀ x, i ≠ .powerOn x) : Lands SoundStep i s := by
  by_cases h : ∃ r, i = .storeLoadComplete r
  · obtain ⟨r, rfl⟩ := h
    exact storeLoadComplete s r
  · obtain ⟨t, he, hk⟩ := Keeps.exec s i hp fun r e => h ⟨r, e⟩
    exact ⟨t, he, hk.toSoundStep⟩

end SoundStep

theorem powerOn_linkSound (s : State) (x : Straps) : (s.powerOn x).linkSound :=
  ⟨fun _ => ⟨rfl, rfl, rfl⟩, fun _ => rfl⟩

theorem powerOn_liveSound (s : State) (x : Straps) : (s.powerOn x).liveSound := by
  have pending : (s.powerOn x).ntu.pending = State.reset.ntu.pending := rfl
  refine ⟨?_, ?_, ?_, fun r => ?_⟩
  · exact iff_of_true (by rw [pending]; decide) rfl
  · exact iff_of_false (by rw [pending]; decide) (by exact Bool.false_ne_true)
  · exact iff_of_false (by rw [pending]; decide) (by exact Bool.false_ne_true)
  · rw [pending]
    cases r <;> exact iff_of_false (by decide) RailState.noConfusion

/-- R206, R208: POWER_ON leaves a sound part, and the commands that wait still wait. -/
theorem powerOn_lands (x : Straps) (s : State) :
    Lands (fun s t => t.pending = s.pending ∧ t.linkSound ∧ t.liveSound) (.powerOn x) s := ⟨_, rfl, by
  split
  · exact ⟨rfl, powerOn_linkSound s x, powerOn_liveSound s x⟩
  · have loaded := SoundStep.endLoad (s.powerOn x) .defaultedAbsent .builtIn
    exact ⟨loaded.pending, loaded.link (powerOn_linkSound s x), loaded.live (powerOn_liveSound s x)⟩⟩

/-- R16, R206, R1, R184: a command leaves the waiting commands, a sound link and sound live conditions. -/
theorem exec_sound {i : Instr} {s t : State} (h : exec i s = .next t) :
    t.pending = s.pending ∧ (s.linkSound → t.linkSound) ∧ (s.liveSound → t.liveSound) := by
  by_cases hp : ∃ x, i = .powerOn x
  · obtain ⟨x, rfl⟩ := hp
    obtain ⟨pending, link, live⟩ := (powerOn_lands x s).of_exec h
    exact ⟨pending, fun _ => link, fun _ => live⟩
  · have kept := (SoundStep.exec s i fun x e => hp ⟨x, e⟩).of_exec h
    exact ⟨kept.pending, kept.link, kept.live⟩

/-- A step is a command on the state with the rest of the queue, or the passing of a microsecond. -/
theorem step_cases {s t : State} (h : step s = .next t) :
    (∃ c rest, s.pending = c :: rest ∧ exec c { s with pending := rest } = .next t) ∨
      s.pending = [] ∧ t = { s with lt := s.lt + 1 } := by
  unfold step at h
  split at h
  next c rest hp => exact .inl ⟨c, rest, hp, h⟩
  next hp =>
    cases h
    exact .inr ⟨hp, rfl⟩

/-- Settles O4: the frame of every command, from `Keeps` and `SoundStep`. -/
theorem onlyPowerOnChangesTimeAndStraps : Obligations.OnlyPowerOnChangesTimeAndStraps := by
  intro c s t h
  refine ⟨(exec_sound h).1, fun hp => ?_⟩
  have kept := (SoundStep.exec s c hp).of_exec h
  refine ⟨kept.lt, kept.straps, fun hl => ?_⟩
  have settled := (Keeps.exec s c hp hl).of_exec h
  exact ⟨settled.loaded, settled.storeState⟩

/-- Settles O10: a step keeps the link sound. -/
theorem linkStaysSound : Obligations.LinkStaysSound := by
  intro s t sound h
  obtain ⟨c, rest, _, he⟩ | ⟨_, rfl⟩ := step_cases h
  · exact (exec_sound he).2.1 sound
  · exact sound

/-- Settles O11: a step keeps the live conditions following their states. -/
theorem liveConditionsFollow : Obligations.LiveConditionsFollow := by
  intro s t sound h
  obtain ⟨c, rest, _, he⟩ | ⟨_, rfl⟩ := step_cases h
  · exact (exec_sound he).2.2 sound
  · exact sound

end Sys2Proof.Machine
end

section
/-!
What the operations of the tether link do (R1 to R15), said once each: the frames of `startImus`, `scanStart`, `abandon`, `release`
and `tellPmg`, the failing attempts, and the entries into DOWN, RETRAIN and SLEEP.
-/

namespace Sys2Proof.Machine

theorem linkActive_of {s : State} {c : Channel} (h : s.tlc.link = .active c) : s.linkActive = true := by
  rw [State.linkActive, h]
  rfl

theorem linkActive_of_not {s : State} (h : ∀ c, s.tlc.link ≠ .active c) : s.linkActive = false := by
  unfold State.linkActive Link.isActive
  split
  next c hl => exact absurd hl (h c)
  · rfl

theorem not_mayStart_of_inactive {s : State} (h : s.linkActive = false) : s.mayStart = false := by
  rw [State.mayStart, h, Bool.false_and]

/-! ### Frames -/

theorem startImu_rest (s : State) (x : Sensor) : s.startImu x = { s with msu := (s.startImu x).msu } := by
  unfold State.startImu
  split <;> rfl

theorem startImus_rest (s : State) : s.startImus = { s with msu := s.startImus.msu } := by
  unfold State.startImus
  rw [startImu_rest (s.startImu .a) .b, startImu_rest s .a]

theorem scanStart_rest (s : State) : s.scanStart = { s with sou := s.scanStart.sou } := by
  unfold State.scanStart
  split <;> rfl

/-- R29: an enabled IMU in OFF enters STARTING. -/
theorem startImus_starts {s : State} (h : s.imuEnabled = true) (x : Sensor) (hx : (s.msu.imu x).state = .off) :
    (s.startImus.msu.imu x).state = .starting .reset s.lt := by
  have on (t : State) (y : Sensor) (ht : t.imuEnabled = true) (hy : (t.msu.imu y).state = .off) :
      t.startImu y = t.enterStarting y := by simp [State.startImu, ht, hy]
  have other (t : State) (y : Sensor) : (t.startImu y).msu.imu (Machine.other y) = t.msu.imu (Machine.other y) := by
    unfold State.startImu
    split
    · cases y <;> rfl
    · rfl
  unfold State.startImus
  cases x with
  | a =>
    rw [show (((s.startImu .a).startImu .b).msu.imu .a) = _ from other _ .b, on s .a h hx]
    rfl
  | b =>
    have hb : ((s.startImu .a).msu.imu .b).state = .off := (congrArg Imu.state (other _ .a)).trans hx
    have enabled : (s.startImu .a).imuEnabled = true := by rw [startImu_rest]; exact h
    rw [on _ .b enabled hb]
    show ImuState.starting .reset (s.startImu .a).lt = _
    rw [startImu_rest]

section
variable (s : State)

@[simp] theorem abandon_lt : s.abandon.lt = s.lt := by unfold State.abandon; split <;> simp [State.modSlots]
@[simp] theorem abandon_msu : s.abandon.msu = s.msu := by unfold State.abandon; split <;> simp [State.modSlots]
@[simp] theorem abandon_oin : s.abandon.oin = s.oin := by unfold State.abandon; split <;> simp [State.modSlots]
@[simp] theorem abandon_sou : s.abandon.sou = s.sou := by unfold State.abandon; split <;> simp [State.modSlots]
@[simp] theorem abandon_aud : s.abandon.aud = s.aud := by unfold State.abandon; split <;> simp [State.modSlots]
@[simp] theorem abandon_pmg : s.abandon.pmg = s.pmg := by unfold State.abandon; split <;> simp [State.modSlots]
@[simp] theorem abandon_role : s.abandon.cmu.role = s.cmu.role := by unfold State.abandon; split <;> simp [State.modSlots]
@[simp] theorem abandon_queue : s.abandon.cmu.queue = s.cmu.queue := by
  unfold State.abandon; split <;> simp [State.modSlots]
@[simp] theorem abandon_restart : s.abandon.cmu.restart = s.cmu.restart := by
  unfold State.abandon; split <;> simp [State.modSlots]
@[simp] theorem abandon_link : s.abandon.tlc.link = s.tlc.link := by unfold State.abandon; split <;> simp [State.modSlots]

theorem abandon_pending {c : Condition} (h : c ≠ .frameDamaged) :
    s.abandon.ntu.pending.has c = s.ntu.pending.has c := by
  unfold State.abandon
  split
  · rw [raise_pending, has_put_of_ne h]
    rfl
  · rfl

theorem abandon_count {c : Counter} (h : c ≠ .framesDamaged) (hi : c ≠ .noticesIssued) (hc : c ≠ .noticesCoalesced) :
    s.abandon.count c = s.count c := by
  unfold State.abandon
  split
  · rw [State.raise_count _ _ _ hi hc, count_bump, if_neg h]
    rfl
  · rfl

theorem abandon_tlc (h : s.linkActive = false) : s.abandon.tlc = s.tlc := by
  unfold State.abandon
  split
  · exact raise_tlc_of_not_mayStart
      (s := (s.modSlots fun q => q.change .filling fun _ => .empty).bump .framesDamaged) (not_mayStart_of_inactive h) _
  · rfl

theorem count_change_filling (q : Slots) : (q.change .filling fun _ => .empty).count .filling = 0 := by
  have emptied (t : Slot) : ((if t.state = .filling then Slot.empty else t).state == SlotState.filling) = false := by
    split
    · rfl
    next h => exact beq_false_of_ne h
  simp only [Slots.count, Slots.change, Slots.map, Slots.toList, List.countP_cons, List.countP_nil, emptied]
  rfl

/-- R79: after an abandonment no slot is FILLING. -/
theorem abandon_filling : s.abandon.fst.slots.count .filling = 0 := by
  unfold State.abandon
  split
  · rw [State.raise_fst]
    exact count_change_filling s.fst.slots
  next h => exact Nat.eq_zero_of_not_pos h

end

/-- R12, R162: the PMG takes the standby mark, B and the target, and then the rails act. -/
theorem tellPmg_step (s : State) (b : Bool) :
    RailStep (s.modPmg fun p => { p with
      standby := b, budget := budgetOf s.tlc.link s.tlc.offer p.limits, target := railTarget p.supply b })
      (s.tellPmg b) := by
  unfold State.tellPmg State.formTarget
  exact (RailStep.takeDown _ _).trans (.sequence _)

/-! ### Attempts that fail (R3, R5, R11) -/

theorem trainingFails_next {s : State} {n b : Nat} {a : Option Agreement} (hl : s.tlc.link = .training n b a)
    (hn : n < 6) : s.trainingFails =
      (s.bump .trainingFailures).modTlc fun t => { t with link := .training (n + 1) s.lt none } := by
  unfold State.trainingFails
  rw [hl]
  exact if_pos hn

theorem trainingFails_down {s : State} {n b : Nat} {a : Option Agreement} (hl : s.tlc.link = .training n b a)
    (hn : 6 ≤ n) : s.trainingFails = (s.bump .trainingFailures).enterDown := by
  unfold State.trainingFails
  rw [hl]
  exact if_neg (Nat.not_lt.2 hn)

theorem retrainFails_next {s : State} {c : Channel} {n b : Nat} (hl : s.tlc.link = .retrain c n b) (hn : n < 3) :
    s.retrainFails = (s.bump .trainingFailures).modTlc fun t => { t with link := .retrain c (n + 1) s.lt } := by
  unfold State.retrainFails
  rw [hl]
  exact if_pos hn

theorem retrainFails_lower {s : State} {c : Channel} {n b : Nat} {g : Gear} (hl : s.tlc.link = .retrain c n b)
    (hn : 3 ≤ n) (hg : c.gear.below = some g) : s.retrainFails =
      (((s.bump .trainingFailures).modTlc fun t => { t with link := .retrain { c with gear := g } 1 s.lt }).raise
        .gearReduced).bump .gearReductions := by
  unfold State.retrainFails
  rw [hl]
  dsimp only
  rw [if_neg (Nat.not_lt.2 hn), hg]
  rfl

theorem retrainFails_down {s : State} {c : Channel} {n b : Nat} (hl : s.tlc.link = .retrain c n b)
    (hn : 3 ≤ n) (hg : c.gear = .g1) : s.retrainFails = (s.bump .trainingFailures).enterDown := by
  unfold State.retrainFails
  rw [hl]
  dsimp only
  rw [if_neg (Nat.not_lt.2 hn), hg]
  rfl

theorem SameButNotices.bump {u t : State} (h : SameButNotices u t) (c : Counter) :
    SameButNotices (u.bump c) (t.bump c) := by
  refine ⟨h.lt, h.straps, h.loaded, fun d hi hc => ?_, h.tlc, h.msu, h.oin, h.fst, h.sou, h.ilg, h.aud, h.pmg, h.prr,
    h.mask, h.cmu, h.pending⟩
  rw [count_bump, count_bump]
  split
  next e => rw [← e, h.counts d hi hc]
  · exact h.counts d hi hc

/-- R11: the last attempt of a group above G1 lowers the gear: GEAR_REDUCED is raised, and nothing else moves but notices. -/
theorem retrainFails_report {s : State} {c : Channel} {n b : Nat} {g : Gear} (hl : s.tlc.link = .retrain c n b)
    (hn : 3 ≤ n) (hg : c.gear.below = some g) :
    SameButNotices (((s.bump .trainingFailures).bump .gearReductions).modTlc fun t =>
      { t with link := .retrain ⟨g, c.lanes⟩ 1 s.lt }) s.retrainFails ∧
    s.retrainFails.ntu.pending = s.ntu.pending.put .gearReduced := by
  rw [retrainFails_lower hl hn hg]
  exact ⟨(sbn_raise ((s.bump .trainingFailures).modTlc fun t => { t with link := .retrain ⟨g, c.lanes⟩ 1 s.lt })
    .gearReduced).bump .gearReductions, raise_pending _ _⟩

/-! ### The entry into DOWN (R6, R12) -/

section
variable (s : State) (p : Port)

theorem release_role : (s.release p).cmu.role = none := by simp [State.release]

theorem release_link : (s.release p).tlc.link = s.tlc.link := by simp [State.release]

theorem release_fst : (s.release p).fst = s.fst := by simp [State.release]

theorem release_pmg : (s.release p).pmg = s.pmg := by simp [State.release]

theorem release_pending : (s.release p).ntu.pending = s.ntu.pending := by simp [State.release]

theorem release_count {c : Counter} (hi : c ≠ .noticesIssued) (hc : c ≠ .noticesCoalesced) :
    (s.release p).count c = s.count c := by simp [State.release, hi, hc]

end

/-- R6, R12: `t` is the part at its entry into DOWN from `s`. -/
structure WentDown (s t : State) : Prop where
  link : t.tlc.link = .down (some (s.lt + 500000))
  raised : t.ntu.pending.has .linkDown = true
  counted : t.count .linkDownEntries = oneMore (s.count .linkDownEntries)
  failures : t.count .trainingFailures = s.count .trainingFailures
  role : t.cmu.role ≠ some .tether
  budget : t.pmg.budget = s.pmg.limits.safe
  filling : t.fst.slots.count .filling = 0

theorem enterDown_went (s : State) : WentDown s s.enterDown := by
  have told : ∀ t : State, t.tlc.link = .down (some (s.lt + 500000)) → t.ntu.pending.has .linkDown = true →
      t.count .linkDownEntries = oneMore (s.count .linkDownEntries) →
      t.count .trainingFailures = s.count .trainingFailures → t.cmu.role ≠ some .tether →
      t.pmg.limits = s.pmg.limits → t.fst.slots.count .filling = 0 → WentDown s t.formBudget := by
    intro t hl hp hc hf hr hb hs
    refine ⟨hl, hp, hc, hf, hr, ?_, hs⟩
    show budgetOf t.tlc.link t.tlc.offer t.pmg.limits = _
    rw [hl, hb]
    rfl
  have abandoned := abandon_filling (((s.modTlc fun t => { t with link := .down (some (s.lt + Config.retryInterval)) }).raise
    .linkDown).bump .linkDownEntries)
  unfold State.enterDown
  dsimp only at abandoned ⊢
  split
  next hr =>
    refine told _ ?_ ?_ ?_ ?_ ?_ ?_ ?_
    · rw [release_link]
      simp [Config.retryInterval]
    · rw [release_pending, abandon_pending _ Condition.noConfusion]
      simp
    · rw [release_count, abandon_count] <;> simp [oneMore]
    · rw [release_count, abandon_count] <;> simp
    · simp [release_role]
    · rw [release_pmg]
      simp
    · rw [release_fst]
      exact abandoned
  next hr =>
    refine told _ ?_ ?_ ?_ ?_ hr ?_ abandoned
    · simp [Config.retryInterval]
    · rw [abandon_pending _ Condition.noConfusion]
      simp
    · rw [abandon_count] <;> simp [oneMore]
    · rw [abandon_count] <;> simp
    · simp

end Sys2Proof.Machine
end

section
/-!
The tether link's rows: training and retraining (O26 to O29), the rows that start training (O30), what is not taken out of ACTIVE
(O36), and the two statements about the machine (O1, O2).
-/

namespace Sys2Proof.Machine

/-- Settles O1: the two cases of a step. -/
theorem stepRunsFrontCommand : Obligations.StepRunsFrontCommand := by
  refine ⟨fun c rest s h => ?_, fun s h => ?_⟩ <;>
  · unfold step
    rw [h]

/-- Settles O2: each value by evaluation of the reset state, the counters together. -/
theorem resetValues : Obligations.ResetValues := by
  have counts (c : Counter) : State.reset.count c = 0 := by simp [State.count, State.reset]
  have rails (x : Rail) : State.reset.pmg.rails.get x = .off := by cases x <;> rfl
  exact ⟨rfl, rfl, rfl, rfl, rfl, rfl, rfl, rfl, rfl, rfl, rfl, rfl, rfl, rfl, rfl, rfl, rfl, rfl, rfl, rfl, rfl, rfl,
    rails, rfl, rfl, rfl, rfl, rfl, rfl, counts⟩

/-- Settles O30: the retry timer, line energy in SLEEP, and line energy elsewhere. -/
theorem retryAndLineEnergyStartTraining : Obligations.RetryAndLineEnergyStartTraining := by
  intro s
  refine ⟨fun e hl he => ?_, fun hl => ?_, fun hl => ?_⟩
  · simp [exec, execRetryTimerExpiry, hl, he, State.modTlc]
  · have asleep : s.asleep = true := by simp [State.asleep, hl]
    refine ⟨s.wake, by simp [exec, execLineEnergyDetected, asleep], ?_⟩
    unfold State.wake
    rw [scanStart_rest, startImus_rest]
    refine ⟨rfl, fun x hrail hoff => ?_, rfl, rfl, rfl, rfl, rfl, rfl⟩
    exact startImus_starts (s := s.modTlc fun t => { t with link := .training 1 s.lt none })
      (by simp [State.imuEnabled, State.asleep, hrail]) x hoff
  · have awake : s.asleep = false := by simp [State.asleep, hl]
    simp [exec, execLineEnergyDetected, awake]

/-- Settles O36: out of ACTIVE each of these rows answers the state it was taken in. -/
theorem nothingIsTakenOutOfActive : Obligations.NothingIsTakenOutOfActive := by
  intro s q h
  have inactive := linkActive_of_not h
  refine ⟨fun i hi => ?_, fun hr => ?_⟩
  · simp only [List.mem_cons, List.not_mem_nil, or_false] at hi
    rcases hi with rfl | rfl | rfl | rfl | rfl | rfl | rfl | rfl | rfl <;>
    simp [exec, execFrameBegin, execLines, execFrameEnd, execSound, execControlBlockReceived, execTimeMark, execSleepMark,
      execStatusBeatDue, execUpstreamBlockSent, State.beatDue, inactive]
  · have settled : s.retrainJustBegun = false := by
      unfold State.retrainJustBegun
      split
      next c n b hl =>
        by_contra e
        simp only [Bool.not_eq_false, Bool.and_eq_true, beq_iff_eq] at e
        obtain ⟨⟨rfl, rfl⟩, _⟩ := e
        exact hr c hl
      · rfl
    simp [exec, execLinkBlockDiscarded, inactive, settled]

/-! ### Training records (R2 to R4) -/

theorem gearOf_number (g : Gear) : gearOf g.number = some g := by cases g <;> rfl

theorem gearOf_none {n : Nat} (h : ¬ (1 ≤ n ∧ n ≤ 3)) : gearOf n = none := by
  unfold gearOf
  rw [if_neg (by omega), if_neg (by omega), if_neg (by omega)]

theorem gearOf_some {n : Nat} (h : 1 ≤ n ∧ n ≤ 3) : ∃ g : Gear, g.number = n ∧ gearOf n = some g := by
  obtain ⟨lo, hi⟩ := h
  interval_cases n
  · exact ⟨.g1, rfl, rfl⟩
  · exact ⟨.g2, rfl, rfl⟩
  · exact ⟨.g3, rfl, rfl⟩

/-- R4: the lower gear is G3 when both are, and G1 when one is. -/
theorem lower_eq (g h : Gear) : (g.lower h = .g3 ↔ g = .g3 ∧ h = .g3) ∧ (g.lower h = .g1 ↔ g = .g1 ∨ h = .g1) := by
  cases g <;> cases h <;> decide

theorem number_eq (g : Gear) : (g.number = 3 ↔ g = .g3) ∧ (g.number = 1 ↔ g = .g1) := by cases g <;> decide

/-- R4: there is a common lane set exactly when lane 0 is common. -/
theorem largestSet_eq (common : BitVec 4) :
    (common.getLsbD 0 = false → largestSet common = none) ∧
      (common.getLsbD 0 = true → ∃ l, largestSet common = some l ∧ (l = .four ↔ common = 15) ∧
        (l = .one ↔ common.getLsbD 1 = false)) := by
  have every : ∀ common : BitVec 4,
      (common.getLsbD 0 = false → largestSet common = none) ∧
        (common.getLsbD 0 = true → ((largestSet common).isSome = true ∧ (largestSet common = some .four ↔ common = 15) ∧
          (largestSet common = some .one ↔ common.getLsbD 1 = false))) := by decide
  refine ⟨(every common).1, fun h => ?_⟩
  obtain ⟨some, four, one⟩ := (every common).2 h
  obtain ⟨l, hl⟩ := Option.isSome_iff_exists.1 some
  rw [hl, Option.some_inj] at four one
  exact ⟨l, hl, four, one⟩

theorem ownGear_eq (x : Straps) (n : Nat) :
    (ownGear x n = .g3 ↔ n ≤ 3) ∧ (ownGear x n = .g1 ↔ 3 < n ∧ x.fallback = .g1) := by
  unfold ownGear
  by_cases h : n ≤ 3
  · simp [h]
  · have late : 3 < n := by omega
    cases hf : x.fallback <;> simp [h, late]

/-- R2: the features that both records hold, the part's own being SLEEP and WAKE_BEACON. -/
theorem commonFeatures_eq (own base : BaseRecord) (ho : own.features = 3) (hb : base.features < 4) :
    ((commonFeatures own base).sleep = true ↔ base.features = 1 ∨ base.features = 3) ∧
      ((commonFeatures own base).wakeBeacon = true ↔ base.features = 2 ∨ base.features = 3) := by
  obtain ⟨_, _, _, f⟩ := base
  simp only [commonFeatures, ho] at hb ⊢
  interval_cases f <;> decide

/-- Settles O26: what the records of an attempt agree (R4), and a failed attempt where they agree nothing (R3). -/
theorem trainingRecordsAgree : Obligations.TrainingRecordsAgree := by
  intro s n began r locked hl own common good
  have lanes : ownLanes s.straps n locked = own := rfl
  have offered : BitVec.ofNat 4 (ownRecord s.straps n locked).lanes &&& BitVec.ofNat 4 r.lanes = common := by
    show BitVec.ofNat 4 (ownLanes s.straps n locked).toNat &&& _ = own &&& _
    rw [lanes, BitVec.ofNat_toNat, BitVec.setWidth_eq]
  have gear : gearOf (ownRecord s.straps n locked).gear = some (ownGear s.straps n) := gearOf_number _
  refine ⟨?_, fun hgood => ?_, fun hbad hn => ?_⟩
  · unfold ownRecord ownGear
    rw [lanes]
    by_cases h : n ≤ 3
    · simp [h, Gear.number]
    · cases hf : s.straps.fallback <;> simp [h, Gear.number]
  · obtain ⟨hgear, hlanes, hfeatures, hcommon⟩ := hgood
    obtain ⟨g, hnumber, hg⟩ := gearOf_some hgear
    obtain ⟨l, hset, hfour, hone⟩ := (largestSet_eq common).2 hcommon
    have features := commonFeatures_eq (ownRecord s.straps n locked) r rfl hfeatures
    have lower := lower_eq (ownGear s.straps n) g
    have agreed : agree s.straps n locked r = some ⟨⟨(ownGear s.straps n).lower g, l⟩,
        commonFeatures (ownRecord s.straps n locked) r, min r.offer 30000⟩ := by
      unfold agree agreeRecords
      rw [if_neg (by omega), gear, hg, offered, hset]
    refine ⟨⟨⟨(ownGear s.straps n).lower g, l⟩, commonFeatures (ownRecord s.straps n locked) r, min r.offer 30000⟩,
      ?_, ?_, ?_, hfour, hone, features.1, features.2, rfl⟩
    · simp only [exec, execTrainingRecordReceived, hl, agreed]
      rfl
    · rw [lower.1, (ownGear_eq _ _).1, ← (number_eq g).1, hnumber]
    · rw [lower.2, (ownGear_eq _ _).2, ← (number_eq g).2, hnumber, or_comm]
  · have disagreed : agree s.straps n locked r = none := by
      unfold agree agreeRecords
      split
      · rfl
      next hrange =>
        rw [gear, offered]
        by_cases hgear : 1 ≤ r.gear ∧ r.gear ≤ 3
        · have hcommon : common.getLsbD 0 = false := by
            rw [← Bool.not_eq_true]
            exact fun h => hbad ⟨hgear, by omega, by omega, h⟩
          rw [(largestSet_eq common).1 hcommon]
          split <;> simp_all
        · rw [gearOf_none hgear]
    simp only [exec, execTrainingRecordReceived, hl, disagreed]
    rw [trainingFails_next hl hn]

/-! ### Attempts that succeed (R7, R11) -/

/-- R3: half the round-trip time in whole µs, halves away from zero. -/
theorem lineDelayOf_eq (n : Nat) : lineDelayOf n = (n + 1000) / 2000 := by
  unfold lineDelayOf roundDiv
  rw [if_pos (Int.natCast_nonneg n)]
  omega

/-- Settles O27: the PMG is told in a state with the new link, and what it and the rails do leaves the link alone. -/
theorem successfulAttemptsEnterActive : Obligations.SuccessfulAttemptsEnterActive := by
  refine ⟨fun s n began rt a hl ht => ?_, fun s c n began rt hl ht => ?_⟩
  · have run : exec (.trainingAttemptSucceeds rt) s = .next (((((s.enterActive a.channel rt).modTlc fun t =>
        { t with features := some a.features, offer := some a.offer }).raise .trained).tellPmg false).opportunity) := by
      simp only [exec, execTrainingAttemptSucceeds, hl]
      exact congrArg _ (if_pos ht)
    have raised := sbn_raise ((s.enterActive a.channel rt).modTlc fun t =>
      { t with features := some a.features, offer := some a.offer }) .trained
    have trained := raise_pending ((s.enterActive a.channel rt).modTlc fun t =>
      { t with features := some a.features, offer := some a.offer }) .trained
    generalize ((s.enterActive a.channel rt).modTlc fun t =>
      { t with features := some a.features, offer := some a.offer }).raise .trained = u at run raised trained
    have told := (tellPmg_step u false).trans (ReaderStep.opportunity _).toRailStep
    have pmg : u.pmg = s.pmg := raised.pmg
    refine ⟨_, run, told.link.trans raised.link, told.features.trans raised.features, told.offer.trans raised.offer,
      (told.lineDelay.trans raised.lineDelay).trans (lineDelayOf_eq rt), told.crcCount.trans raised.crcCount, ?_,
      told.standby, ?_, ?_, told.offset.trans raised.offset, told.basis.trans raised.basis,
      congrArg Fst.slots (told.fst.trans raised.fst), told.queue.trans raised.queue⟩
    · rw [told.linkHas _ rfl, State.modPmg_ntu, trained, Masks.has_put]
      rfl
    · rw [told.budget, State.modPmg_pmg, raised.link, raised.offer, pmg]
      rfl
    · rw [told.target, State.modPmg_pmg, pmg]
      cases s.pmg.supply <;> rfl
  · have run : exec (.retrainAttemptSucceeds rt) s = .next ((s.enterActive c rt).tellPmg false).opportunity := by
      simp only [exec, execRetrainAttemptSucceeds, hl]
      exact congrArg _ (if_pos ht)
    have told := (tellPmg_step (s.enterActive c rt) false).trans (ReaderStep.opportunity _).toRailStep
    exact ⟨_, run, told.link, told.lineDelay.trans (lineDelayOf_eq rt), told.crcCount, told.features, told.offer,
      told.linkHas _ rfl, told.standby, told.offset, congrArg Fst.slots told.fst, told.queue⟩

/-! ### Attempts that fail (R3, R5, R11) -/

theorem exec_trainingAttemptTimeout {s : State} {n b : Nat} {a : Option Agreement} (hl : s.tlc.link = .training n b a)
    (ht : b + 20000 ≤ s.lt) : exec .trainingAttemptTimeout s = .next s.trainingFails := by
  simp only [exec, execTrainingAttemptTimeout, hl]
  exact congrArg _ (if_pos ht)

theorem exec_retrainAttemptTimeout {s : State} {c : Channel} {n b : Nat} (hl : s.tlc.link = .retrain c n b)
    (ht : b + 20000 ≤ s.lt) : exec .retrainAttemptTimeout s = .next s.retrainFails := by
  simp only [exec, execRetrainAttemptTimeout, hl]
  exact congrArg _ (if_pos ht)

/-- R10: lock lost on a current lane in RETRAIN fails the attempt, unless it comes together with the entry. -/
theorem exec_symbolLockLost_retrain {s : State} {c : Channel} {n b : Nat} {l : Fin 4}
    (hl : s.tlc.link = .retrain c n b) (hh : c.lanes.has l = true)
    (hb : n ≠ 1 ∨ b ≠ s.lt ∨ s.tlc.retrainAt ≠ some s.lt) :
    exec (.symbolLockLost l) s = .next s.retrainFails := by
  have settled : s.retrainJustBegun = false := by
    unfold State.retrainJustBegun
    rw [hl]
    by_contra e
    simp only [Bool.not_eq_false, Bool.and_eq_true, beq_iff_eq] at e
    obtain ⟨⟨hn, hbegan⟩, hat⟩ := e
    obtain h | h | h := hb
    · exact h hn
    · exact h hbegan
    · exact h hat
  simp [exec, execSymbolLockLost, hl, hh, settled]

/-- Settles O28: each failed attempt by its number and gear. -/
theorem failedAttemptsFollowTheirOrder : Obligations.FailedAttemptsFollowTheirOrder := by
  refine ⟨fun s n began lane => ⟨fun a hl hh hn => ?_, fun c hl hh hb => ⟨fun hn => ?_, fun g hg hn => ?_⟩⟩,
    fun s n began ht => ⟨fun a hl => ⟨fun hn => ?_, fun hn => ?_⟩,
      fun c hl => ⟨fun hn => ?_, fun hn hg => ?_, fun g hg hn => ?_⟩⟩⟩
  · simp only [exec, execSymbolLockLost, hl, hh, if_true]
    rw [trainingFails_next hl hn]
  · rw [exec_symbolLockLost_retrain hl hh hb, retrainFails_next hl hn]
  · obtain ⟨report, raised⟩ := retrainFails_report hl hn hg
    exact ⟨_, exec_symbolLockLost_retrain hl hh hb, report, raised⟩
  · rw [exec_trainingAttemptTimeout hl ht, trainingFails_next hl hn]
  · have down := enterDown_went (s.bump .trainingFailures)
    rw [exec_trainingAttemptTimeout hl ht, trainingFails_down hl hn]
    refine ⟨_, rfl, down.link, down.raised, ?_, ?_, down.role, down.budget, down.filling⟩
    · rw [down.counted, count_bump, if_neg Counter.noConfusion]
    · rw [down.failures, count_bump, if_pos rfl]
      rfl
  · rw [exec_retrainAttemptTimeout hl ht, retrainFails_next hl hn]
  · have down := enterDown_went (s.bump .trainingFailures)
    rw [exec_retrainAttemptTimeout hl ht, retrainFails_down hl hn hg]
    exact ⟨_, rfl, down.link, down.raised, down.role, down.budget⟩
  · obtain ⟨report, raised⟩ := retrainFails_report hl hn hg
    exact ⟨_, exec_retrainAttemptTimeout hl ht, report, raised⟩

end Sys2Proof.Machine
end

section
/-!
The entry into RETRAIN and the rows that reach it (O29), the downstream blocks (O31) and the time marks (O32).
-/

namespace Sys2Proof.Machine

/-! ### The entry into RETRAIN (R10, R12, R14, R22) -/

/-- R10: the TLC at the entry into RETRAIN at a channel. -/
def Tlc.toRetrain (t : Tlc) (c : Channel) (now : Nat) : Tlc :=
  { Tlc.abandonTx { t with link := .retrain c 1 now, retrainAt := some now } with sleepPending := false }

/-- R10, R12: `t` is the part at its entry into RETRAIN from `s`. -/
structure WentRetrain (s : State) (c : Channel) (t : State) : Prop where
  lt : t.lt = s.lt
  tlc : t.tlc = s.tlc.toRetrain c s.lt
  raised : t.ntu.pending.has .retrain = true
  counted : t.count .retrainEntries = oneMore (s.count .retrainEntries)
  crcErrors : t.count .linkCrcErrors = s.count .linkCrcErrors
  filling : t.fst.slots.count .filling = 0
  pmg : t.pmg = s.pmg
  msu : t.msu = s.msu
  aud : t.aud = s.aud
  sou : t.sou = s.sou
  oin : t.oin = s.oin
  queue : t.cmu.queue = s.cmu.queue

/-- R14, R22: a state that leaves ACTIVE keeps all but the outgoing queues and what the TLC abandons. -/
theorem leaveActive_tlc (s : State) : s.leaveActive.tlc = { s.tlc.abandonTx with sleepPending := false } := rfl

theorem leaveActive_linkActive (s : State) : s.leaveActive.linkActive = s.linkActive := rfl

/-- R10: with no RESTART of the TETHER port pending the entry into RETRAIN ends with the FST's part. -/
theorem enterRetrain_went {s : State} (c : Channel) (h : s.cmu.restart ≠ some .tether) :
    WentRetrain s c (s.enterRetrain c) := by
  have inactive : (s.modTlc fun t => { t with link := .retrain c 1 s.lt, retrainAt := some s.lt }).linkActive = false := rfl
  have raised := raise_tlc_of_not_mayStart (not_mayStart_of_inactive inactive) .retrain
  have kept : s.enterRetrain c = (((s.modTlc fun t => { t with link := .retrain c 1 s.lt, retrainAt := some s.lt }).raise
      .retrain).bump .retrainEntries).leaveActive.abandon := by
    refine if_neg ?_
    rw [abandon_restart]
    simpa [State.leaveActive, State.forgetSleep] using h
  have stopped : (((s.modTlc fun t => { t with link := .retrain c 1 s.lt, retrainAt := some s.lt }).raise
      .retrain).bump .retrainEntries).leaveActive.linkActive = false := by
    simp [State.linkActive, leaveActive_tlc, Tlc.abandonTx, Link.isActive]
  rw [kept]
  refine ⟨?_, ?_, ?_, ?_, ?_, abandon_filling _, ?_, ?_, ?_, ?_, ?_, ?_⟩
  · simp [State.leaveActive, State.forgetSleep]
  · rw [abandon_tlc _ stopped, leaveActive_tlc, State.bump_tlc, raised]
    rfl
  · rw [abandon_pending _ Condition.noConfusion]
    simp [State.leaveActive, State.forgetSleep]
  all_goals simp [abandon_count, State.leaveActive, State.forgetSleep, oneMore]

namespace WentRetrain

section
variable {s t : State} {c : Channel} (h : WentRetrain s c t)
include h

theorem link : t.tlc.link = .retrain c 1 s.lt := by rw [h.tlc]; rfl

theorem linkActive : t.linkActive = false := by simp [State.linkActive, h.link, Link.isActive]

/-- R10: what would come together with the entry comes second. -/
theorem justBegun : t.retrainJustBegun = true := by
  have entered : t.tlc.retrainAt = some s.lt := by rw [h.tlc]; rfl
  simp [State.retrainJustBegun, h.link, entered, h.lt]

theorem symbolLockLost (l : Fin 4) : exec (.symbolLockLost l) t = .next t := by
  simp [exec, execSymbolLockLost, h.link, h.justBegun]

theorem linkBlockDiscarded {b : List Byte} (hb : b.length < 8) :
    exec (.linkBlockDiscarded b) t = .next (t.bump .linkCrcErrors) := by
  have bad : judgeBlock b = some .crc := by simp [judgeBlock, readBlock, hb]
  simp [exec, execLinkBlockDiscarded, h.linkActive, h.justBegun, bad]

end
end WentRetrain

/-- Settles O29: a lane of the channel enters RETRAIN, any other leaves the state. -/
theorem lockLossEntersRetrain : Obligations.LockLossEntersRetrain := by
  intro s c lane hl
  refine ⟨fun hh => by simp [exec, execSymbolLockLost, hl, hh], fun hh hr => ?_⟩
  have went := enterRetrain_went c hr
  refine ⟨s.enterRetrain c, by simp [exec, execSymbolLockLost, hl, hh], went.link, ?_, ?_, ?_, went.raised, went.counted,
    went.filling, ?_, ?_, ?_, went.pmg, went.msu, went.aud, went.sou, went.oin, went.queue, went.symbolLockLost,
    fun b hb => went.linkBlockDiscarded hb⟩ <;>
  · rw [went.tlc]
    rfl

/-! ### Downstream blocks (R8, R9, R21, R212, R213, R217) -/

theorem length_leBytes (n : Nat) (v : Int) : (leBytes n v).length = n := by
  induction n generalizing v with
  | zero => rfl
  | succ n ih => simp [leBytes, ih]

/-- R211: a number in its bytes is read back. -/
theorem leNat_leBytes (n v : Nat) : leNat (leBytes n (v : Int)) = v % 256 ^ n := by
  induction n generalizing v with
  | zero => simp [leBytes, leNat, Nat.mod_one]
  | succ n ih =>
    have tail : ((v : Int) / 256) = ((v / 256 : Nat) : Int) := by simp
    have head : (BitVec.ofInt 8 (v : Int)).toNat = v % 256 := by simp
    rw [leBytes, leNat, head, tail, ih, Nat.pow_succ', Nat.mod_mul]

theorem crc32Bits_lt (n : Nat) {c : Nat} (h : c < 2 ^ 32) : crc32Bits n c < 2 ^ 32 := by
  induction n generalizing c with
  | zero => exact h
  | succ n ih =>
    have half : c / 2 < 2 ^ 32 := by omega
    refine ih ?_
    split
    · exact Nat.xor_lt_two_pow half (by decide)
    · exact half

theorem crc32From_lt (bs : List Byte) {c : Nat} (h : c < 2 ^ 32) : crc32From c bs < 2 ^ 32 := by
  induction bs generalizing c with
  | nil => exact h
  | cons b bs ih =>
    have byte : b.toNat < 2 ^ 32 := by have := b.isLt; omega
    exact ih (crc32Bits_lt 8 (Nat.xor_lt_two_pow h byte))

/-- R212: the CRC fits its four bytes. -/
theorem crc32_lt (bs : List Byte) : crc32 bs < 2 ^ 32 := Nat.xor_lt_two_pow (crc32From_lt bs (by decide)) (by decide)

/-- R212: the head of a block, its stream, kind and length before the payload. -/
def blockHead (stream kind : Byte) (p : List Byte) : List Byte := [stream, kind] ++ leBytes 2 (p.length : Int) ++ p

theorem length_blockHead (stream kind : Byte) (p : List Byte) : (blockHead stream kind p).length = p.length + 4 := by
  simp [blockHead, length_leBytes]
  omega

/-- R212: a block that is built whole passes its checks, and is then the row of its codes. -/
theorem readBlock_whole (stream kind : Byte) {p : List Byte} (hp : p.length ≤ 65535) :
    readBlock (blockHead stream kind p ++ leBytes 4 (crc32 (blockHead stream kind p) : Int)) =
      rowOfCodes stream.toNat kind.toNat p := by
  have head := length_blockHead stream kind p
  have crc := crc32_lt (blockHead stream kind p)
  generalize hc : crc32 (blockHead stream kind p) = sum at crc
  have tail := length_leBytes 4 (sum : Int)
  have whole : (blockHead stream kind p ++ leBytes 4 (sum : Int)).length = p.length + 8 := by
    rw [List.length_append, head, tail]
  have size : natAt (blockHead stream kind p ++ leBytes 4 (sum : Int)) 2 2 = p.length := by
    have bytes : slice (blockHead stream kind p ++ leBytes 4 (sum : Int)) 2 2 = leBytes 2 (p.length : Int) := by
      simpa [slice, blockHead, List.append_assoc] using List.take_left' (length_leBytes 2 (p.length : Int))
    rw [natAt, bytes, leNat_leBytes]
    exact Nat.mod_eq_of_lt (by omega)
  have check : natAt (blockHead stream kind p ++ leBytes 4 (sum : Int)) (p.length + 4) 4 = sum := by
    have bytes : slice (blockHead stream kind p ++ leBytes 4 (sum : Int)) (p.length + 4) 4 = leBytes 4 (sum : Int) := by
      rw [slice, ← head, List.drop_left, List.take_of_length_le (by rw [tail])]
    rw [natAt, bytes, leNat_leBytes]
    exact Nat.mod_eq_of_lt (by omega)
  have front : (blockHead stream kind p ++ leBytes 4 (sum : Int)).take (p.length + 4) = blockHead stream kind p :=
    List.take_left' head
  have payload : slice (blockHead stream kind p ++ leBytes 4 (sum : Int)) 4 p.length = p := by
    have start : (blockHead stream kind p ++ leBytes 4 (sum : Int)).drop 4 = p ++ leBytes 4 (sum : Int) := by
      rw [blockHead, List.append_assoc]
      exact List.drop_left' (by simp [length_leBytes])
    rw [slice, start]
    exact List.take_left' rfl
  rw [readBlock, whole, size, Nat.add_sub_cancel, show p.length + 8 - 4 = p.length + 4 from rfl, front, check, hc,
    if_neg (by omega), payload]
  simp [natAt, slice, blockHead, leNat]

theorem rowOfCodes_picture {k : Nat} (p : List Byte) (h : k = 0 ∨ 3 < k) : rowOfCodes 1 k p = .error .pictureKind := by
  unfold rowOfCodes
  split <;> simp_all

theorem rowOfCodes_link {k : Nat} (p : List Byte) (h : k ≠ 1) (g : k ≠ 2) : rowOfCodes 4 k p = .error .linkKind := by
  unfold rowOfCodes
  split <;> simp_all

theorem rowOfCodes_stream {n : Nat} (k : Nat) (p : List Byte) (h : n = 0 ∨ 4 < n) :
    rowOfCodes n k p = .error .stream := by
  unfold rowOfCodes
  split <;> simp_all

theorem commandOfBlock_discarded {b : List Byte} {d : Discard} (h : readBlock b = .error d) :
    commandOfBlock b = .linkBlockDiscarded b := by
  rw [commandOfBlock, h]

theorem commandOfBlock_delivered {b : List Byte} {i : Instr} (h : readBlock b = .ok i) : commandOfBlock b = i := by
  rw [commandOfBlock, h]

/-- R8: in ACTIVE a discarded block has the effect of its cause. -/
theorem exec_linkBlockDiscarded {s : State} {c : Channel} {b : List Byte} {d : Discard} (hl : s.tlc.link = .active c)
    (h : readBlock b = .error d) : exec (.linkBlockDiscarded b) s = .next (s.discard d) := by
  have cause : judgeBlock b = some d := by rw [judgeBlock, h]
  simp [exec, execLinkBlockDiscarded, linkActive_of hl, cause]

/-- Settles O31: the effect of each cause in ACTIVE, and the row that a built block is. -/
theorem blocksAreDeliveredOrDiscarded : Obligations.BlocksAreDeliveredOrDiscarded := by
  refine ⟨?_, ?_, fun b hb => ?_, fun s hs => ?_⟩
  · intro s c b hl bad
    have failed (h : bad) : readBlock b = .error .crc := if_pos h
    have passed (h : ¬ bad) : readBlock b = rowOfCodes (natAt b 0 1) (natAt b 1 1) (slice b 4 (b.length - 8)) := if_neg h
    refine ⟨fun hb hn => ?_, fun hb hn hr => ?_, fun hb hn => ?_, fun hb hn h1 h2 => ?_, fun hb hn hk => ?_⟩
    · rw [exec_linkBlockDiscarded hl (failed hb)]
      simp [State.discard, State.crcError, hl, Nat.not_le.2 hn]
    · have went := enterRetrain_went (s := (s.bump .linkCrcErrors).modTlc fun t => { t with crcCount := t.crcCount + 1 })
        c hr
      rw [exec_linkBlockDiscarded hl (failed hb)]
      refine ⟨_, rfl, ?_⟩
      have entered : s.discard .crc =
          ((s.bump .linkCrcErrors).modTlc fun t => { t with crcCount := t.crcCount + 1 }).enterRetrain c := by
        simp [State.discard, State.crcError, hl, hn]
      rw [entered]
      refine ⟨went.link, went.crcErrors.trans ?_, went.counted.trans ?_, went.raised⟩
      · simp [oneMore]
      · simp
    · rw [exec_linkBlockDiscarded hl ((passed hb).trans (rowOfCodes_stream _ _ hn))]
      rfl
    · rw [exec_linkBlockDiscarded hl ((passed hb).trans (by rw [hn]; exact rowOfCodes_link _ h1 h2))]
      rfl
    · rw [exec_linkBlockDiscarded hl ((passed hb).trans (by rw [hn]; exact rowOfCodes_picture _ hk))]
      rfl
  · intro p stream kind hp head block
    have whole : readBlock block = rowOfCodes stream.toNat kind.toNat p := readBlock_whole stream kind hp
    refine ⟨?_, ?_, ?_, ?_, ?_, ?_, ?_, fun h => ?_⟩
    · rintro rfl rfl; exact commandOfBlock_delivered whole
    · rintro rfl rfl; exact commandOfBlock_delivered whole
    · rintro rfl rfl; exact commandOfBlock_delivered whole
    · rintro rfl; exact commandOfBlock_delivered whole
    · rintro rfl; exact commandOfBlock_delivered whole
    · rintro rfl rfl; exact commandOfBlock_delivered whole
    · rintro rfl rfl; exact commandOfBlock_delivered whole
    · obtain rfl | h | ⟨rfl, h⟩ | ⟨rfl, h1, h2⟩ := h
      · exact commandOfBlock_discarded (whole.trans (rowOfCodes_stream _ _ (.inl rfl)))
      · exact commandOfBlock_discarded (whole.trans (rowOfCodes_stream _ _ (.inr h)))
      · exact commandOfBlock_discarded (whole.trans (rowOfCodes_picture _ (h.imp (congrArg BitVec.toNat) id)))
      · exact commandOfBlock_discarded (whole.trans
          (rowOfCodes_link _ (fun e => h1 (BitVec.eq_of_toNat_eq e)) fun e => h2 (BitVec.eq_of_toNat_eq e)))
  · exact commandOfBlock_discarded (if_pos hb)
  · simp [exec, execCrcWindowBoundary, hs, State.modTlc]

/-! ### Time marks (R17 to R20) -/

/-- R20: the basis is locked alike in states that agree but for notices. -/
theorem SameButNotices.modBasis {u t : State} (h : SameButNotices u t) (b : Basis) :
    SameButNotices (u.modTlc fun x => { x with basis := b }) (t.modTlc fun x => { x with basis := b }) := by
  refine ⟨h.lt, h.straps, h.loaded, h.counts, ?_, h.msu, h.oin, h.fst, h.sou, h.ilg, h.aud, h.pmg, h.prr, h.mask, h.cmu,
    h.pending⟩
  rw [State.modTlc_tlc, State.modTlc_tlc, h.tlc]

/-- R20: a locked basis is a new basis and TIME_FREE clear. -/
theorem lockBasis_same {u v t : State} (h : SameButNotices u t)
    (hv : v = u.modTlc fun x => { x with basis := .locked u.lt }) : SameButNotices v t.lockBasis := by
  have locked := h.modBasis (.locked u.lt)
  rw [hv]
  rw [← h.lt] at locked ⊢
  exact locked.trans (sbn_lower _ .timeFree)

theorem lockBasis_pending (s : State) : s.lockBasis.ntu.pending = s.ntu.pending.drop .timeFree := lower_pending _ _

/-- R17: a mark of eight bytes in ACTIVE moves the offset by its error and locks the basis. -/
theorem exec_timeMark {s : State} {c : Channel} {q : List Byte} (hl : s.tlc.link = .active c) (hq : 8 ≤ q.length) :
    exec (.timeMark q) s =
      .next (s.moveOffset ((natAt q 0 8 : Int) + s.tlc.lineDelay - (s.lt + s.tlc.offset))).lockBasis := by
  simp [exec, execTimeMark, linkActive_of hl, parseTimeMark, Nat.not_lt.2 hq, State.markError, State.linkTime]

/-- Settles O32: the three sizes of an error, and the end of the basis. -/
theorem timeMarksMoveOffsetAndBasis : Obligations.TimeMarksMoveOffsetAndBasis := by
  refine ⟨?_, fun s since hb => ⟨fun ht => ?_, fun ht => ?_⟩⟩
  · intro s c q hl hq e
    have run := exec_timeMark hl hq
    refine ⟨fun he => ⟨_, run, ?_⟩, fun he hs => ⟨_, run, ?_⟩, fun he => ⟨_, run, ?_⟩⟩
    · have held : s.moveOffset e = s := if_pos he
      rw [held]
      exact ⟨lockBasis_same (.refl s) rfl, lockBasis_pending s⟩
    · have slewed : s.moveOffset e = s.modTlc fun t => { t with offset := t.offset + (if 0 < e then 1 else -1) } := by
        rw [State.moveOffset, if_neg (by omega), if_pos hs]
      rw [slewed]
      exact ⟨lockBasis_same (.refl _) rfl, lockBasis_pending _⟩
    · have stepped : s.moveOffset e = ((s.modTlc fun t =>
          { t with offset := t.offset + e, stepMotion := true, stepCapture := true, stepBeat := true }).raise
            .timeStep).bump .timeSteps := by
        rw [State.moveOffset, if_neg (by omega), if_neg (by omega)]
      rw [stepped]
      refine ⟨lockBasis_same ((sbn_raise _ .timeStep).bump .timeSteps) rfl, (lockBasis_pending _).trans ?_⟩
      rw [State.bump_ntu, raise_pending]
      rfl
  · refine ⟨(s.modTlc fun t => { t with basis := .free }).raise .timeFree, ?_, sbn_raise _ _, raise_pending _ _⟩
    simp only [exec, execTimeBasisFree, hb]
    exact congrArg _ (if_pos ht)
  · simp only [exec, execTimeBasisFree, hb]
    exact congrArg _ (if_neg (Nat.not_le.2 ht))

end Sys2Proof.Machine
end

section
/-! What the link sends: the status beat (O34) and the arbiter's order (O35). -/

namespace Sys2Proof.Machine

/-! ### The opportunity of R22 -/

theorem opportunity_beat_goes {s : State} {b : Beat} (ha : s.linkActive = true) (ht : s.tlc.tx = none)
    (hb : s.tlc.beat = some b) : s.opportunity = s.modTlc fun t => { t with beat := none, tx := some (.beat b) } := by
  simp [State.opportunity, ha, ht, hb]

theorem opportunity_arbiter {s : State} (ha : s.linkActive = true) (ht : s.tlc.tx = none) (hb : s.tlc.beat = none) :
    s.opportunity = s.modTlc fun t => { t with tx := s.arbiter } := by
  simp [State.opportunity, ha, ht, hb]

theorem opportunity_busy {s : State} (ht : s.tlc.tx ≠ none) : s.opportunity = s :=
  opportunity_of_not_mayStart (by simp [State.mayStart, Option.isNone_eq_false_iff, Option.isSome_iff_ne_none, ht])

/-- R23, R52: the motion records that may be sent. -/
def State.drained (s : State) : List MotionRecord := if s.pmg.supply = .brownout then [] else s.msu.queue

theorem drained_isEmpty (s : State) : (s.motionDrains && !s.msu.queue.isEmpty) = !s.drained.isEmpty := by
  unfold State.motionDrains State.drained
  by_cases h : s.pmg.supply = .brownout <;> simp [h, bne_iff_ne]

/-- R23: a motion record that may be sent goes first. -/
theorem arbiter_motion {s : State} (h : s.drained ≠ []) : s.arbiter = some .motion := by
  rw [State.arbiter, drained_isEmpty]
  simp [h]

/-- R23: then a message that has waited 2,000 µs. -/
theorem arbiter_late {s : State} {m : Message} {ms : List Message} (h : s.drained = []) (ho : s.cmu.outTether = m :: ms)
    (hm : m.entered + 2000 ≤ s.lt) : s.arbiter = some .control := by
  rw [State.arbiter, drained_isEmpty, h, ho]
  exact if_pos hm

/-- R23: then a capture block. -/
theorem arbiter_capture {s : State} (h : s.drained = []) (hq : s.aud.queue ≠ [])
    (ho : ∀ m ∈ s.cmu.outTether.head?, s.lt < m.entered + 2000) : s.arbiter = some .capture := by
  rw [State.arbiter, drained_isEmpty, h]
  cases hm : s.cmu.outTether with
  | nil => simp [hq]
  | cons m ms =>
    rw [hm] at ho
    have early : ¬ m.entered + Config.replyGuard ≤ s.lt := Nat.not_le.2 (ho m rfl)
    simp [early, hq]

/-- R23: then a message. -/
theorem arbiter_message {s : State} (h : s.drained = []) (hq : s.aud.queue = []) (ho : s.cmu.outTether ≠ []) :
    s.arbiter = some .control := by
  rw [State.arbiter, drained_isEmpty, h, hq]
  cases hm : s.cmu.outTether with
  | nil => exact absurd hm ho
  | cons m ms => simp

theorem arbiter_none {s : State} (h : s.drained = []) (hq : s.aud.queue = []) (ho : s.cmu.outTether = []) :
    s.arbiter = none := by
  rw [State.arbiter, drained_isEmpty, h, hq, ho]
  rfl

/-! ### The status beat (R24, R25) -/

/-- R25: the one slot that is SHOWING is found. -/
theorem find_of_count_one {l : List Slot} {x : SlotState} {u : Slot} (hc : l.countP (fun t => t.state == x) = 1)
    (hu : u ∈ l) (hx : u.state = x) : l.find? (fun t => t.state == x) = some u := by
  induction l with
  | nil => simp at hu
  | cons v l ih =>
    rw [List.countP_cons] at hc
    by_cases hv : v.state = x
    · have rest : l.countP (fun t => t.state == x) = 0 := by simpa [hv] using hc
      obtain rfl | hl := List.mem_cons.1 hu
      · simp [hx]
      · exact absurd hx (by simpa using List.countP_eq_zero.1 rest u hl)
    · have away : u ≠ v := by rintro rfl; exact hv hx
      rw [List.find?_cons_of_neg (by simpa using hv)]
      exact ih (by simpa [hv] using hc) ((List.mem_cons.1 hu).resolve_left away)

/-- R24: the state before a beat built at `s` takes an opportunity. -/
def State.withBeat (s : State) (b : Beat) : State :=
  (if s.tlc.beat.isSome then s.bump .beatsReplaced else s).modTlc fun t =>
    { t with beat := some b, stepBeat := false, beatTakenAt := some s.lt }

theorem withBeat_rest (s : State) (b : Beat) : s.withBeat b = { s with
    tlc := { s.tlc with beat := some b, stepBeat := false, beatTakenAt := some s.lt }
    counters := (if s.tlc.beat.isSome then s.bump .beatsReplaced else s).counters } := by
  unfold State.withBeat
  split <;> rfl

theorem withBeat_count (s : State) (b : Beat) : (s.withBeat b).count .beatsReplaced =
    if s.tlc.beat = none then s.count .beatsReplaced else oneMore (s.count .beatsReplaced) := by
  unfold State.withBeat
  cases s.tlc.beat <;> simp [oneMore]

theorem takeBeat_eq (s : State) : s.takeBeat =
    (s.withBeat (s.buildBeat (s.tlc.stepBeat || s.tlc.beat.any (·.timeStep)))).opportunity := by
  unfold State.takeBeat State.withBeat
  cases s.tlc.beat <;> rfl

/-- Settles O34: the values of the beat, and then the opportunity by what is in transmission. -/
theorem statusBeatIsBuilt : Obligations.StatusBeatIsBuilt := by
  intro s c hl ht hn
  have due : s.beatDue = true := by simp [State.beatDue, linkActive_of hl, ht, hn]
  have run : exec .statusBeatDue s =
      .next (s.withBeat (s.buildBeat (s.tlc.stepBeat || s.tlc.beat.any (·.timeStep)))).opportunity := by
    simp only [exec, execStatusBeatDue, due, if_true, takeBeat_eq]
  generalize hb : s.buildBeat (s.tlc.stepBeat || s.tlc.beat.any (·.timeStep)) = b at run
  have rest := withBeat_rest s b
  have tlc : (s.withBeat b).tlc = { s.tlc with beat := some b, stepBeat := false, beatTakenAt := some s.lt } := by
    rw [rest]
  refine ⟨_, b, run, ?_, ?_, ?_, ?_, ?_, ?_, ?_, fun u hu hs hone => ?_, fun hzero => ?_, ?_, ?_, ?_, fun hx => ?_,
    fun hx => ?_, ?_, ?_, ?_, ?_, ?_, ?_⟩
  iterate 7 (rw [← hb]; rfl)
  · rw [← hb]
    exact congrArg (Option.map Slot.frame) (find_of_count_one hone hu hs)
  · have missing : s.fst.slots.find .showing = none :=
      List.find?_eq_none.2 fun u hu => List.countP_eq_zero.1 hzero u hu
    simp [← hb, State.buildBeat, missing]
  · simp [← hb, State.buildBeat]
  · simp [← hb, State.buildBeat, Option.any_eq_true]
  · simp [tlc]
  · have active : (s.withBeat b).linkActive = true := linkActive_of (c := c) (by rw [tlc]; exact hl)
    rw [opportunity_beat_goes active (by rw [tlc]; exact hx) (by rw [tlc])]
    exact ⟨rfl, rfl⟩
  · rw [opportunity_busy (by rw [tlc]; exact hx), tlc]
    exact ⟨rfl, rfl⟩
  · rw [State.opportunity_count _ _ Counter.noConfusion Counter.noConfusion, withBeat_count]
  · rw [State.opportunity_msu, rest]
  · rw [State.opportunity_aud, rest]
  · rw [opportunity_cmu, rest]
  · rw [State.opportunity_pmg, rest]
  · rw [opportunity_ntu, rest]

/-! ### Blocks that have been sent (R22, R23, R200) -/

theorem exec_upstreamBlockSent {s : State} {c : Channel} {x : Transmission} (hl : s.tlc.link = .active c)
    (hx : s.tlc.tx = some x) : exec .upstreamBlockSent s = .next (s.blockSent x).opportunity := by
  simp [exec, execUpstreamBlockSent, linkActive_of hl, hx]

theorem blockSent_control {s : State} {m : Message} {ms : List Message} (ho : s.cmu.outTether = m :: ms) :
    s.blockSent .control = ((s.modTlc fun t => { t with tx := none }).modCmu fun c =>
      { c with outTether := ms }).messageLeft .tether m.role := by
  simp [State.blockSent, ho]

/-- Settles O35: what a block sent leaves, and the order of the opportunity after it. -/
theorem arbiterChoosesInOrder : Obligations.ArbiterChoosesInOrder := by
  intro s c hl next
  have chooses (u : State) (hlt : u.lt = s.lt) (htlc : u.tlc = { s.tlc with tx := none }) (hpmg : u.pmg = s.pmg)
      (hntu : u.ntu = s.ntu) (hmsu : u.msu = { s.msu with queue := u.msu.queue })
      (haud : u.aud = { s.aud with queue := u.aud.queue }) :
      next u.msu.queue u.aud.queue u.cmu.outTether u.opportunity := by
    have active : u.linkActive = true := linkActive_of (c := c) (by rw [htlc]; exact hl)
    have idle : u.tlc.tx = none := by rw [htlc]
    have beat : u.tlc.beat = s.tlc.beat := by rw [htlc]
    have drained : (if s.pmg.supply = .brownout then [] else u.msu.queue) = u.drained := by rw [State.drained, hpmg]
    have chosen (hb : s.tlc.beat = none) : u.opportunity.tlc.tx = u.arbiter := by
      rw [opportunity_arbiter active idle (beat.trans hb)]
      rfl
    refine ⟨?_, ?_, ?_, ?_, ?_, ?_, fun b hb => ?_, fun hb hd => ?_, fun hb hd m ms ho hm => ?_,
      fun hb hd hq ho => ?_, fun hb hd hq ho => ?_, fun hb hd hq ho => ?_⟩
    · rw [State.opportunity_msu, ← hmsu]
    · rw [State.opportunity_aud, ← haud]
    · rw [opportunity_cmu]
    · rw [State.opportunity_tlc_link, htlc]
    · rw [State.opportunity_pmg, hpmg]
    · rw [opportunity_ntu, hntu]
    · rw [opportunity_beat_goes active idle (beat.trans hb)]
      exact ⟨rfl, rfl⟩
    · rw [chosen hb, arbiter_motion (drained ▸ hd)]
    · rw [chosen hb, arbiter_late (drained ▸ hd) ho (hlt ▸ hm)]
    · rw [chosen hb, arbiter_capture (drained ▸ hd) hq (hlt ▸ ho)]
    · rw [chosen hb, arbiter_message (drained ▸ hd) hq ho]
    · rw [chosen hb, arbiter_none (drained ▸ hd) hq ho]
  refine ⟨fun r q hx hq => ?_, fun b q hx hq => ?_, fun m ms hx ho hm => ?_, fun b hx => ?_⟩
  · have step := chooses (s.blockSent .motion) rfl rfl rfl rfl rfl rfl
    refine ⟨_, exec_upstreamBlockSent hl hx, by rw [opportunity_cmu]; rfl, ?_⟩
    rw [show q = (s.blockSent .motion).msu.queue by simp [State.blockSent, hq]]
    exact step
  · have step := chooses (s.blockSent .capture) rfl rfl rfl rfl rfl rfl
    refine ⟨_, exec_upstreamBlockSent hl hx, by rw [opportunity_cmu]; rfl, ?_⟩
    rw [show q = (s.blockSent .capture).aud.queue by simp [State.blockSent, hq]]
    exact step
  · refine ⟨_, exec_upstreamBlockSent hl hx, ?_⟩
    rw [blockSent_control ho]
    obtain h | h := hm <;> rw [h, opportunity_cmu]
    · exact ⟨rfl, chooses _ rfl rfl rfl rfl rfl rfl⟩
    · exact ⟨rfl, chooses _ rfl rfl rfl rfl rfl rfl⟩
  · exact ⟨_, exec_upstreamBlockSent hl hx, by rw [opportunity_cmu]; rfl,
      chooses (s.blockSent (.beat b)) rfl rfl rfl rfl rfl rfl⟩

end Sys2Proof.Machine
end

section
/-! The entry into SLEEP: the rails that it leaves, the IMUs and scan-out (O33). -/

namespace Sys2Proof.Machine

/-! ### Rails taken down and brought up (R157, R160, R162) -/

/-- R160: rails taken down are OFF, and every other keeps its state. -/
theorem takeDown_get (xs : List Rail) (s : State) (x : Rail) :
    (s.takeDown xs).pmg.rails.get x = if x ∈ xs then .off else s.pmg.rails.get x := by
  induction xs generalizing s with
  | nil => rfl
  | cons y xs ih =>
    have first : (if s.pmg.rails.get y = .off then s else s.setRail y .off).pmg.rails.get x =
        if x = y then .off else s.pmg.rails.get x := by
      by_cases e : x = y
      · rw [if_pos e, e]
        split
        next h => exact h
        · rw [RailStep.setRail_rails, RailStep.get_set_self]
      · rw [if_neg e]
        split
        · rfl
        · exact RailStep.setRail_get_ne s e _
    show ((if s.pmg.rails.get y = .off then s else s.setRail y .off).takeDown xs).pmg.rails.get x = _
    rw [ih, first]
    by_cases e : x = y <;> by_cases hx : x ∈ xs <;> simp [e, hx]

/-- R157: one step of the sequencer. -/
def State.rampUp (s : State) (x : Rail) : State :=
  if s.pmg.mayRamp x then s.setRail x (.ramping (s.lt + Config.rampLimit)) else s

theorem rampUp_step (s : State) (x : Rail) : RailStep s (s.rampUp x) := by
  unfold State.rampUp
  split
  · exact .setRail s x _
  · exact .refl s

/-- R157: a rail that is not OFF, or is outside the target, is left as it is by the sequencer. -/
theorem rampUp_foldl_get (xs : List Rail) {s : State} {x : Rail}
    (h : s.pmg.target.covers x = false ∨ s.pmg.rails.get x ≠ .off) :
    (xs.foldl State.rampUp s).pmg.rails.get x = s.pmg.rails.get x := by
  induction xs generalizing s with
  | nil => rfl
  | cons y xs ih =>
    have same : (s.rampUp y).pmg.rails.get x = s.pmg.rails.get x := by
      unfold State.rampUp
      split
      next may =>
        refine RailStep.setRail_get_ne s ?_ _
        rintro rfl
        simp only [Pmg.mayRamp, Bool.and_eq_true, beq_iff_eq] at may
        obtain ⟨⟨off, covered⟩, _⟩ := may
        obtain h | h := h
        · rw [h] at covered
          exact Bool.noConfusion covered
        · exact h off
      · rfl
    rw [List.foldl_cons, ih, same]
    rw [same, (rampUp_step s y).target]
    exact h

theorem sequence_get {s : State} {x : Rail} (h : s.pmg.target.covers x = false ∨ s.pmg.rails.get x ≠ .off) :
    s.sequence.pmg.rails.get x = s.pmg.rails.get x := rampUp_foldl_get railOrder h

/-- R157: SENSOR, OFF within the target, enters RAMPING. -/
theorem sequence_sensor {s : State} (h : s.pmg.rails.sensor = .off) (ht : s.pmg.target.covers .sensor = true) :
    s.sequence.pmg.rails.sensor = .ramping (s.lt + 5000) := by
  have may : s.pmg.mayRamp .sensor = true := by
    simp [Pmg.mayRamp, Rails.get, h, ht, railBefore]
  have first : (s.rampUp .sensor).pmg.rails.get .sensor = .ramping (s.lt + 5000) := by
    unfold State.rampUp
    rw [if_pos may, RailStep.setRail_rails, RailStep.get_set_self]
    rfl
  show ([Rail.audio, .panelL, .panelR, .illum].foldl State.rampUp (s.rampUp .sensor)).pmg.rails.get .sensor = _
  rw [rampUp_foldl_get _ (.inr (by rw [first]; exact RailState.noConfusion)), first]

/-- R160: a new target is taken, and rails outside it are taken down. -/
def State.takeTarget (s : State) : State :=
  (s.modPmg fun p => { p with target := railTarget p.supply p.standby }).takeDown
    (railOrder.reverse.filter fun x => !(railTarget s.pmg.supply s.pmg.standby).covers x)

theorem formTarget_eq (s : State) : s.formTarget = s.takeTarget.sequence := rfl

theorem takeTarget_step (s : State) :
    RailStep (s.modPmg fun p => { p with target := railTarget p.supply p.standby }) s.takeTarget := .takeDown _ _

theorem takeTarget_get (s : State) (x : Rail) : s.takeTarget.pmg.rails.get x =
    if (railTarget s.pmg.supply s.pmg.standby).covers x then s.pmg.rails.get x else .off := by
  have ordered : x ∈ railOrder := by cases x <;> decide
  unfold State.takeTarget
  rw [takeDown_get]
  cases h : (railTarget s.pmg.supply s.pmg.standby).covers x <;> simp [h, ordered]

/-- R160, R162: rails outside a new target are OFF. -/
theorem formTarget_get_outside {s : State} {x : Rail} (h : (railTarget s.pmg.supply s.pmg.standby).covers x = false) :
    s.formTarget.pmg.rails.get x = .off := by
  rw [formTarget_eq, sequence_get (.inl (by rw [(takeTarget_step s).target]; exact h)), takeTarget_get, h]
  rfl

/-- R160, R162: a rail within a new target that is not OFF keeps its state. -/
theorem formTarget_get_kept {s : State} {x : Rail} (h : (railTarget s.pmg.supply s.pmg.standby).covers x = true)
    (hx : s.pmg.rails.get x ≠ .off) : s.formTarget.pmg.rails.get x = s.pmg.rails.get x := by
  have kept : s.takeTarget.pmg.rails.get x = s.pmg.rails.get x := by rw [takeTarget_get, if_pos h]
  rw [formTarget_eq, sequence_get (.inr (by rw [kept]; exact hx)), kept]

/-- R157, R162: SENSOR, OFF within a new target, enters RAMPING. -/
theorem formTarget_sensor {s : State} (h : s.pmg.rails.sensor = .off)
    (ht : (railTarget s.pmg.supply s.pmg.standby).covers .sensor = true) :
    s.formTarget.pmg.rails.sensor = .ramping (s.lt + 5000) := by
  have kept : s.takeTarget.pmg.rails.sensor = .off := (takeTarget_get s .sensor).trans ((if_pos ht).trans h)
  rw [formTarget_eq, sequence_sensor kept (by rw [(takeTarget_step s).target]; exact ht), (takeTarget_step s).lt]
  rfl

/-! ### The IMUs and scan-out OFF (R29, R82) -/

theorem endProc_msu (s : State) (r : ProcResult) (v : List ProcValue) : (s.endProc r v).msu = s.msu := by
  unfold State.endProc
  split
  · rfl
  · exact State.raise_msu _ _

theorem reportOff_msu (s : State) (x : Sensor) : (s.reportOff x).msu = s.msu := by
  unfold State.reportOff State.primaryLeft
  split <;> rfl

theorem targetLeft_msu (s : State) (x : Sensor) : (s.targetLeft x).msu = s.msu := by
  unfold State.targetLeft
  split
  · exact endProc_msu _ _ _
  · rfl

/-- R29: an IMU enters OFF, and the other is left as it is. -/
theorem enterOff_msu (s : State) (x : Sensor) :
    (s.enterOff x).msu = if (s.msu.imu x).state = .off then s.msu else (s.modImu x Imu.toOff).msu := by
  unfold State.enterOff
  split
  · rfl
  · dsimp only
    split <;> simp [targetLeft_msu, reportOff_msu]

theorem imusOff_states (s : State) : s.imusOff.msu.a.state = .off ∧ s.imusOff.msu.b.state = .off := by
  unfold State.imusOff
  dsimp only
  generalize (s.modMsu fun m => { m with ticks := m.ticks.map fun t => (t.endRead .a .discarded).endRead .b .discarded }
    ).completeTicks = u
  have ended (v : State) (x : Sensor) : ((v.enterOff x).msu.imu x).state = .off := by
    rw [enterOff_msu]
    split
    next h => exact h
    · rw [ReaderStep.imu_modImu]
      rfl
  have other : ((u.enterOff .a).enterOff .b).msu.a = (u.enterOff .a).msu.a := by
    rw [enterOff_msu]
    split <;> rfl
  exact ⟨(congrArg Imu.state other).trans (ended u .a), ended _ .b⟩

theorem judgeDark_msu (s : State) : s.judgeDark.msu = s.msu := by
  unfold State.judgeDark
  split
  · split <;> rfl
  · split <;> rfl

theorem judgeDark_sou (s : State) : s.judgeDark.sou = s.sou := by
  unfold State.judgeDark
  split
  · split <;> rfl
  · split <;> rfl

theorem scanOff_msu (s : State) : s.scanOff.msu = s.msu := by
  unfold State.scanOff
  split
  · rfl
  · exact judgeDark_msu _

theorem scanOff_off (s : State) : s.scanOff.sou.scanOut = .off := by
  unfold State.scanOff
  split
  next h => exact h
  · rw [judgeDark_sou]
    rfl

/-! ### The entry into SLEEP (R12, R13) -/

/-- R13: the part at its entry into SLEEP before the PMG forms the target. -/
def State.falling (s : State) : State :=
  ((((s.modTlc fun t => { t with link := .sleep }).bump .sleepEntries).leaveActive.modPmg fun p =>
    { p with standby := true }).formBudget)

/-- R12, R13: what the readers of the rails and of the link leave of `s` at its entry into SLEEP. -/
theorem enterSleep_step {s : State} (h : s.cmu.restart ≠ some .tether) :
    RailStep (s.falling.modPmg fun p => { p with target := railTarget p.supply p.standby }) s.enterSleep ∧
      s.enterSleep = s.falling.formTarget.imusOff.scanOff := by
  have step : RailStep (s.falling.modPmg fun p => { p with target := railTarget p.supply p.standby })
      s.falling.formTarget.imusOff.scanOff :=
    (((takeTarget_step s.falling).trans (.sequence _)).trans (ReaderStep.imusOff _).toRailStep).trans
      (ReaderStep.scanOff _).toRailStep
  have kept : s.enterSleep = s.falling.formTarget.imusOff.scanOff := by
    refine if_neg ?_
    have restart : s.falling.formTarget.imusOff.scanOff.cmu.restart = s.cmu.restart := step.restart
    exact fun e => h (restart.symm.trans e)
  rw [kept]
  exact ⟨step, rfl⟩

/-- R162: the rails at the entry into SLEEP are those of the new target. -/
theorem enterSleep_rails {s : State} (h : s.cmu.restart ≠ some .tether) :
    s.enterSleep.pmg.rails = s.falling.formTarget.pmg.rails := by
  rw [(enterSleep_step h).2, (ReaderStep.scanOff _).rails, (ReaderStep.imusOff _).rails]

/-- R13: the rows that put the link to sleep. -/
theorem exec_sleepMark {s : State} {c : Channel} (q : List Byte) (hl : s.tlc.link = .active c) :
    exec (.sleepMark q) s = .next (if s.tlc.mayWait then s.enterSleep else s.bump .linkMarksIgnored) := by
  simp [exec, execSleepMark, linkActive_of hl]

/-- Settles O33: what the TLC leaves at the entry, what the readers keep of it, and the rails of the target of SLEEP. -/
theorem sleepMarkPutsLinkToSleep : Obligations.SleepMarkPutsLinkToSleep := by
  intro s c q hl
  refine ⟨fun f hf hs hr => ?_, fun hf => ?_⟩
  · have may : s.tlc.mayWait = true := by simp [Tlc.mayWait, hf, hs]
    obtain ⟨step, made⟩ := enterSleep_step hr
    have states := imusOff_states s.falling.formTarget
    have target (hn : s.pmg.supply = .normal) :
        railTarget s.falling.pmg.supply s.falling.pmg.standby = .sensorOnly := by
      show railTarget s.pmg.supply true = _
      rw [hn]
      rfl
    have outside (hn : s.pmg.supply = .normal) (x : Rail) (hx : RailTarget.sensorOnly.covers x = false) :
        s.enterSleep.pmg.rails.get x = .off := by
      rw [enterSleep_rails hr, formTarget_get_outside (by rw [target hn]; exact hx)]
    refine ⟨s.enterSleep, by rw [exec_sleepMark q hl, if_pos may], step.link, step.still rfl rfl, step.beat rfl,
      step.sleepPending, step.offset, step.lineDelay, step.standby, step.budget,
      fun hn => ⟨step.target.trans (target hn), outside hn .audio rfl, outside hn .panelL rfl, outside hn .panelR rfl,
        outside hn .illum rfl, fun ho => ?_⟩,
      ?_, ?_, ?_, ?_, congrArg Fst.slots step.fst, step.role, step.queue⟩
    · rw [enterSleep_rails hr]
      exact formTarget_get_kept (x := .sensor) (by rw [target hn]; rfl) ho
    · rw [made, scanOff_msu]
      exact states.1
    · rw [made, scanOff_msu]
      exact states.2
    · rw [made]
      exact scanOff_off _
    · rw [step.linkCounts _ (by decide)]
      simp [State.falling, State.formBudget, State.leaveActive, State.forgetSleep, oneMore]
  · have may : s.tlc.mayWait = false := by
      cases h : s.tlc.features with
      | none => simp [Tlc.mayWait, h]
      | some f => simp [Tlc.mayWait, h, hf f h]
    rw [exec_sleepMark q hl, may]
    rfl

end Sys2Proof.Machine
end

section
/-! The reset of a RESTART and the rows that lead to it, and LINK_SLEEP (O39). -/

namespace Sys2Proof.Machine

/-! ### The reset (R209, R210) -/

theorem startImus_msu (s : State) : s.startImus.msu = { s.msu with a := s.startImus.msu.a, b := s.startImus.msu.b } := by
  have one (u : State) (x : Sensor) : (u.startImu x).msu =
      { u.msu with a := (u.startImu x).msu.a, b := (u.startImu x).msu.b } := by
    unfold State.startImu
    split
    · cases x <;> rfl
    · rfl
  unfold State.startImus
  rw [one (s.startImu .a) .b, one s .a]

/-- R34: with no procedure running a new rate moves the MSU alone. -/
theorem reformSync_rest {s : State} (n : Nat) (h : s.prr.running = none) :
    s.reformSync n = { s with msu := { s.msu with
      a := (s.reformSync n).msu.a
      b := (s.reformSync n).msu.b
      barred := if s.period = n ∨ s.lt % n = 0 then s.msu.barred else some s.lt } } := by
  obtain ⟨_, _, _, _, _, _, _, _, _, _, _, _, ⟨_, _, _⟩, _, _, _⟩ := s
  subst h
  unfold State.reformSync
  split
  next hp => simp only [hp, true_or, if_true]
  next hp =>
    simp only [hp, false_or]
    rfl

/-- R209: a reset leaves the RESTART values of the blocks, but for the IMUs that start, scan-out, and the live conditions. -/
theorem doRestart_rest (s : State) : s.doRestart = { s.blocksRestart with
    msu := { s.msuRestart with
      a := s.doRestart.msu.a
      b := s.doRestart.msu.b
      barred := if s.blocksRestart.period = s.period ∨ s.lt % s.period = 0 then s.msu.barred else some s.lt }
    sou := s.doRestart.sou
    ntu := { s.ntuRestart with pending := s.doRestart.ntu.pending } } := by
  have formed := reformSync_rest (s := s.blocksRestart) s.period rfl
  unfold State.doRestart
  generalize s.blocksRestart.reformSync s.period = u at formed
  obtain ⟨m, reported⟩ := Keeps.reportLive_eq (s := u) (by rw [formed]; rfl) (by rw [formed]; rfl)
  rw [scanStart_rest, startImus_rest, startImus_msu, reported, formed]
  rfl

/-- R209, R210, R34: a reset leaves `ResetDone`. -/
theorem doRestart_done (s : State) : ResetDone s s.doRestart := by
  have rest := doRestart_rest s
  have period : s.doRestart.period = s.blocksRestart.period := by rw [rest]; rfl
  refine ⟨?_, ?_, fun c => ?_, ?_, ?_, ?_, ?_, ?_, ?_, ?_, ?_⟩
  case refine_9 => rw [period, rest]
  all_goals rw [rest]
  · exact ⟨rfl, rfl, rfl, rfl, rfl⟩
  · exact ⟨rfl, rfl, rfl, rfl, rfl, rfl, rfl⟩
  · simp [State.count, State.blocksRestart]
  · exact ⟨rfl, rfl, rfl, rfl, rfl, rfl⟩
  · refine ⟨rfl, rfl, rfl, rfl, rfl, rfl, ?_, rfl, rfl⟩
    show restartLevel s.pmg.supply = _
    cases s.pmg.supply <;> rfl
  · rfl
  · exact ⟨rfl, rfl, rfl, rfl, rfl⟩
  · exact ⟨rfl, rfl, rfl, rfl, rfl, rfl, rfl⟩
  · exact ⟨rfl, rfl, rfl, rfl⟩
  · exact ⟨rfl, rfl, rfl, rfl, rfl, rfl⟩

/-- What a reset leaves is said of the blocks and settings that a message in transmission does not move. -/
theorem ResetDone.of_agree {s v t : State} (h : ResetDone v t) (lt : v.lt = s.lt) (straps : v.straps = s.straps)
    (loaded : v.loaded = s.loaded) (pending : v.pending = s.pending) (store : v.cmu.storeState = s.cmu.storeState)
    (link : v.tlc.link = s.tlc.link ∧ v.tlc.features = s.tlc.features ∧ v.tlc.offset = s.tlc.offset ∧
      v.tlc.basis = s.tlc.basis) (msu : v.msu = s.msu) (pmg : v.pmg = s.pmg) : ResetDone s t := by
  obtain ⟨hlink, hfeatures, hoffset, hbasis⟩ := link
  have period : v.period = s.period := by rw [State.period, State.effectiveRate, msu, pmg]; rfl
  refine ⟨?_, ?_, h.counters, h.cmu, ?_, h.procedures, ?_, ?_, ?_, ?_, ?_⟩
  · rw [← lt, ← straps, ← loaded, ← store, ← pending]
    exact h.kept
  · rw [← hlink, ← hfeatures, ← hoffset, ← hbasis]
    exact h.link
  · rw [← pmg, ← loaded]
    exact h.power
  · rw [← loaded]
    exact h.picture
  · rw [← loaded]
    exact h.motion
  · rw [← period, ← lt, ← msu]
    exact h.rate
  · rw [← loaded]
    exact h.audio
  · rw [← loaded]
    exact h.notices

/-! ### RESTART and LINK_SLEEP (R14, R209) -/

theorem carried_of_directed {s : State} {k : ReqKind} {p : Port} {tag : Byte} {q : List Byte}
    (h : s.directed k p tag q) : s.carried k p tag q = true := by
  obtain ⟨turn, role⟩ := h
  simp [State.carried, turn, role]

/-- R209: the state in which a RESTART is replied. -/
def State.restartPending (s : State) (p : Port) : State := s.modCmu fun c => { c with restart := some p }

theorem exec_restart {s : State} {p : Port} {tag : Byte} (h : s.directed .restart p tag []) :
    exec (.restart p tag []) s = .next (if (p == .tether && !s.linkActive) = true then
      ((s.restartPending p).reply ReqKind.restart.code p tag .ok [] .restartReply).doRestart
      else (s.restartPending p).reply ReqKind.restart.code p tag .ok [] .restartReply) := by
  simp only [exec, execRestart, carried_of_directed h, request_directed s .restart p tag [] _ h]
  rfl

/-- R209: after the reset that follows a reply the UART has nothing to begin. -/
theorem uartStart_of_resetDone {s t : State} (h : ResetDone s t) : t.uartStart = t := by
  obtain ⟨_, _, _, out, _⟩ := h.cmu
  simp [State.uartStart, out]

theorem exec_linkSleep {s : State} {p : Port} {tag : Byte} (h : s.directed .linkSleep p tag []) :
    exec (.linkSleep p tag []) s = .next ((linkSleepBy s).state.reply ReqKind.linkSleep.code p tag (linkSleepBy s).status
      (linkSleepBy s).values (linkSleepBy s).role) :=
  congrArg Host.Outcome.next (request_directed s .linkSleep p tag [] _ h)

/-- R14: LINK_SLEEP in ACTIVE with SLEEP agreed is replied OK, and the mark is set. -/
theorem linkSleepBy_asleep {s : State} (ha : s.linkActive = true) (hw : s.tlc.mayWait = true) :
    ∃ role, role ≠ MessageRole.notice ∧
      linkSleepBy s = ⟨s.modTlc fun t => { t with sleepPending := true }, .ok, [], role⟩ := by
  cases hp : s.tlc.sleepPending with
  | false => exact ⟨.sleepReply, MessageRole.noConfusion, by simp [linkSleepBy, ha, hw, hp]⟩
  | true =>
    have set : s = s.modTlc fun t => { t with sleepPending := true } := by
      show s = { s with tlc := { s.tlc with sleepPending := true } }
      rw [← hp]
    refine ⟨.reply, MessageRole.noConfusion, ?_⟩
    rw [← set]
    simp [linkSleepBy, ha, hw, hp, Answer.ok]

/-- Settles O39: the reset at once, after its reply, and the sleep after its reply. -/
theorem restartAndSleepFollowTheirReplies : Obligations.RestartAndSleepFollowTheirReplies := by
  intro s p tag
  refine ⟨fun h => ⟨fun hp hl => ?_, fun hp => ?_⟩, fun m ms hx ho hm => ?_,
    fun h => ⟨fun c f hl hf hs => ?_, fun hf => ?_⟩,
    fun c m ms hl hx ho hm hs hr => ?_⟩
  · have out : (p == .tether && !s.linkActive) = true := by simp [hp, linkActive_of_not hl]
    have replied := reply_replied (s.restartPending p) .restart p tag .ok [] .restartReply MessageRole.noConfusion
    refine ⟨_, (exec_restart h).trans (congrArg _ (if_pos out)), ?_⟩
    refine (doRestart_done _).of_agree ?_ ?_ ?_ ?_ ?_ ⟨?_, ?_, ?_, ?_⟩ ?_ ?_
    all_goals rw [replied.rest]
    iterate 4 rfl
    · rw [replied.cmu]
      rfl
    iterate 4 (rw [replied.tlc]; rfl)
    iterate 2 rfl
  · have stays : ¬ (p == .tether && !s.linkActive) = true := by
      obtain rfl | ⟨c, hc⟩ := hp
      · exact Bool.noConfusion
      · simp [linkActive_of hc]
    exact ⟨_, (exec_restart h).trans (congrArg _ (if_neg stays)),
      reply_replied (s.restartPending p) .restart p tag .ok [] .restartReply MessageRole.noConfusion⟩
  · have sent : s.frameSent = ((((s.modCmu fun c => { c with serviceTx := .idle }).modCmu fun c =>
        { c with outService := ms }).replyLeft .service).doRestart) := by
      simp [State.frameSent, hx, ho, hm, State.messageLeft]
    have done := (doRestart_done (((s.modCmu fun c => { c with serviceTx := .idle }).modCmu fun c =>
        { c with outService := ms }).replyLeft .service)).of_agree (s := s) rfl rfl rfl rfl rfl ⟨rfl, rfl, rfl, rfl⟩ rfl rfl
    refine ⟨_, ?_, done⟩
    simp only [exec, execServiceFrameSent, hx, reduceCtorEq, if_false, sent, uartStart_of_resetDone done]
  · obtain ⟨role, notNotice, own⟩ := linkSleepBy_asleep (linkActive_of hl) (by simp [Tlc.mayWait, hf, hs])
    refine ⟨_, exec_linkSleep h, ?_⟩
    rw [own]
    exact reply_replied _ .linkSleep p tag .ok [] role notNotice
  · have own : linkSleepBy s = .plain s .wrongState := by
      refine if_pos ?_
      rw [Bool.or_eq_true, Bool.not_eq_true', Bool.not_eq_true']
      by_cases hl : ∃ c, s.tlc.link = .active c
      · obtain ⟨c, hl⟩ := hl
        refine .inr ?_
        cases e : s.tlc.features with
        | none => simp [Tlc.mayWait, e]
        | some f => simp [Tlc.mayWait, e, hf c f hl e]
      · exact .inl (linkActive_of_not fun c hc => hl ⟨c, hc⟩)
    refine ⟨_, exec_linkSleep h, ?_⟩
    rw [own]
    exact reply_replied s .linkSleep p tag .wrongState [] .reply MessageRole.noConfusion
  · have sent : s.blockSent .control = (((s.modTlc fun t => { t with tx := none }).modCmu fun c =>
        { c with outTether := ms }).replyLeft .tether).enterSleep := by
      rw [blockSent_control ho, hm]
      exact if_pos hs
    obtain ⟨step, _⟩ := enterSleep_step (s := (((s.modTlc fun t => { t with tx := none }).modCmu fun c =>
        { c with outTether := ms }).replyLeft .tether)) hr
    refine ⟨_, exec_upstreamBlockSent hl hx, ?_, ?_⟩
    · rw [sent, State.opportunity_tlc_link, step.link]
      rfl
    · rw [sent, State.opportunity_pmg, step.standby]
      rfl

end Sys2Proof.Machine
end

section
/-! The wear state, the wake by the wear sensor, and POSE_STALE (O47). -/

namespace Sys2Proof.Machine

/-! ### Changes of the wear state (R43, R118) -/

theorem judgeDark_ntu (s : State) : s.judgeDark.ntu = s.ntu := by
  unfold State.judgeDark
  split <;> split <;> rfl

theorem judgeDark_count (s : State) {c : Counter} (hp : c ≠ .illumPulsesCut) (he : c ≠ .illumDarkEntries) :
    s.judgeDark.count c = s.count c := by
  have entered : s.enterDark.count c = s.count c := by simp [State.enterDark, hp, he]
  unfold State.judgeDark
  split <;> split
  · rfl
  · rfl
  · rfl
  · exact entered

/-- R118: while a dark cause holds the output is dark. -/
theorem judgeDark_dark {s : State} {x : DarkCause} (h : s.causeHolds x = true) : s.judgeDark.ilg.output = .dark := by
  have holds : s.darkCauses.isEmpty = false := by
    rw [Bool.eq_false_iff, ne_eq, List.isEmpty_iff]
    exact List.ne_nil_of_mem (List.mem_filter.2 ⟨by cases x <;> decide, h⟩)
  unfold State.judgeDark
  rw [holds]
  simp only [Bool.false_eq_true, if_false]
  split
  next dark => exact dark
  · rfl

section
variable (s : State) (w : Wear)

theorem changeWear_msu : (s.changeWear w).msu = { s.msu with wear := w, wornCount := 0, removedCount := 0 } := by
  rw [State.changeWear, judgeDark_msu, State.raise_msu]
  rfl

theorem changeWear_pending : (s.changeWear w).ntu.pending.has .wearChange = true := by
  rw [State.changeWear, judgeDark_ntu, raise_pending, Masks.has_put]
  rfl

theorem changeWear_wearChanges : (s.changeWear w).count .wearChanges = oneMore (s.count .wearChanges) := by
  rw [State.changeWear, judgeDark_count _ Counter.noConfusion Counter.noConfusion,
    State.raise_count _ _ _ Counter.noConfusion Counter.noConfusion, count_bump, if_pos rfl]
  rfl

theorem changeWear_wearReadFailures : (s.changeWear w).count .wearReadFailures = s.count .wearReadFailures := by
  rw [State.changeWear, judgeDark_count _ Counter.noConfusion Counter.noConfusion,
    State.raise_count _ _ _ Counter.noConfusion Counter.noConfusion, count_bump, if_neg Counter.noConfusion]
  rfl

theorem changeWear_link : (s.changeWear w).tlc.link = s.tlc.link := (ReaderStep.changeWear s w).link

end

/-! ### The end of a wear read (R42, R43, R47) -/

/-- R42: the MSU after a reading, before its counts are judged. -/
def Msu.taken (m : Msu) (r : Nat) : Msu :=
  { m.classify r with wearBusy := false, wearFails := 0, wearReading := some r }

theorem wearRead_succeeded (s : State) (r : Nat) :
    s.wearRead (.succeeded r) = (s.modMsu fun m => m.taken r).judgeWear := rfl

theorem taken_worn {m : Msu} {r : Nat} (h : m.readWorn ≤ r) : m.taken r = { m with
    wornCount := min 10 (m.wornCount + 1), removedCount := 0, wearBusy := false, wearFails := 0
    wearReading := some r } := by
  rw [Msu.taken, Msu.classify, if_pos h]

theorem taken_removed {m : Msu} {r : Nat} (h : r < m.readRemoved) (hw : r < m.readWorn) : m.taken r = { m with
    wornCount := 0, removedCount := min 10 (m.removedCount + 1), wearBusy := false, wearFails := 0
    wearReading := some r } := by
  rw [Msu.taken, Msu.classify, if_neg (Nat.not_le.2 hw), if_pos h]

theorem exec_wearReadDone {s : State} (r : WearResult) (h : s.msu.wearBusy = true) :
    exec (.wearReadDone r) s = .next ((s.wearRead r).wearWakes s.msu.wear) := by
  simp [exec, execWearReadDone, h]

/-- R15: only a change into WORN wakes the link. -/
theorem wearWakes_of_not_worn {s : State} (old : Wear) (h : s.msu.wear ≠ .worn ∨ old = .worn) : s.wearWakes old = s := by
  unfold State.wearWakes
  refine if_neg ?_
  obtain h | h := h <;> simp [h]

theorem wake_rest (s : State) : s.wake = { s with
    tlc := { s.tlc with link := .training 1 s.lt none }
    msu := { s.msu with a := s.wake.msu.a, b := s.wake.msu.b }
    sou := s.wake.sou } := by
  unfold State.wake
  rw [scanStart_rest, startImus_rest, startImus_msu]
  rfl

/-- R15: a wake moves the link, the IMUs, scan-out and the count of beacons. -/
theorem wearWakes_rest (s : State) (old : Wear) : s.wearWakes old = { s with
    tlc := { s.tlc with link := (s.wearWakes old).tlc.link, beacons := (s.wearWakes old).tlc.beacons }
    msu := { s.msu with a := (s.wearWakes old).msu.a, b := (s.wearWakes old).msu.b }
    sou := (s.wearWakes old).sou } := by
  unfold State.wearWakes
  split
  · rw [wake_rest]
    rfl
  · rfl

theorem wearWakes_link_of_awake {s : State} (old : Wear) (h : s.tlc.link ≠ .sleep) :
    (s.wearWakes old).tlc.link = s.tlc.link := by
  unfold State.wearWakes
  rw [if_neg (by simp [State.asleep, h])]

/-- R15: with WAKE_BEACON agreed a change into WORN takes a sleeping link to TRAINING, and else it sleeps on. -/
theorem wearWakes_asleep {s : State} {old : Wear} {f : Features} (hl : s.tlc.link = .sleep) (hw : s.msu.wear = .worn)
    (ho : old ≠ .worn) (hf : s.tlc.features = some f) :
    (f.wakeBeacon = true → (s.wearWakes old).tlc.link = .training 1 s.lt none ∧
      (s.wearWakes old).tlc.beacons = s.tlc.beacons + 1) ∧ (f.wakeBeacon = false → (s.wearWakes old).tlc.link = .sleep) := by
  unfold State.wearWakes
  refine ⟨fun hb => ?_, fun hb => ?_⟩
  · rw [if_pos (by simp [State.asleep, hl, hw, ho, hf, hb]), wake_rest]
    exact ⟨rfl, rfl⟩
  · rw [if_neg (by simp [hf, hb]), hl]

/-! ### POSE_STALE (R63) -/

theorem poseStale_raises {s : State} (h : s.poseIsStale = true) :
    Completes .poseStale s s (s.ntu.pending.put .poseStale) := by
  have followed : s.followStale = s.raise .poseStale := by rw [State.followStale, h]; rfl
  exact ⟨s.raise .poseStale, congrArg _ followed, sbn_raise _ _, raise_pending _ _⟩

theorem poseStale_clears {s : State} (h : s.poseIsStale = false) :
    Completes .poseStale s s (s.ntu.pending.drop .poseStale) := by
  have followed : s.followStale = s.lower .poseStale := by rw [State.followStale, h]; rfl
  exact ⟨s.lower .poseStale, congrArg _ followed, sbn_lower _ _, lower_pending _ _⟩

/-- Settles O47: each reading by the judgment of its counts, and the two conditions that time moves. -/
theorem wearAndStalenessFollowTheirRules : Obligations.WearAndStalenessFollowTheirRules := by
  intro s
  refine ⟨fun hrail ht hn hb => ?_, fun r hb hr => ⟨fun hc hw => ?_, fun hc hw => ?_⟩, fun r hb hr hw hc hu => ?_,
    fun hb hf hu => ?_, fun since hw ht => ?_, fun e he => ⟨fun ht => ?_, fun ht => ?_⟩, fun he => ?_⟩
  · have due : s.wearTickDue = true := by simp [State.wearTickDue, hrail, ht, hn, hb]
    simp only [exec, execWearReadTick, due, if_true]
    rfl
  · have read : s.wearRead (.succeeded r) = (s.modMsu fun m => m.taken r).changeWear .worn := by
      rw [wearRead_succeeded, State.judgeWear, if_pos]
      rw [State.modMsu_msu, taken_worn hr]
      exact ⟨by simp [hc], hw⟩
    have raised := changeWear_pending (s.modMsu fun m => m.taken r) .worn
    have counted := changeWear_wearChanges (s.modMsu fun m => m.taken r) .worn
    have msu := changeWear_msu (s.modMsu fun m => m.taken r) .worn
    have step := ReaderStep.changeWear (s.modMsu fun m => m.taken r) .worn
    generalize (s.modMsu fun m => m.taken r).changeWear .worn = u at read raised counted msu step
    have rest := wearWakes_rest u s.msu.wear
    refine ⟨_, by rw [exec_wearReadDone _ hb, read], ?_, ?_, ?_, ?_, fun hl => ?_, fun f hl hf => ?_⟩
    · rw [rest, msu]
    · rw [rest, msu]
    · rw [rest]
      exact raised
    · rw [rest]
      exact counted
    · rw [wearWakes_link_of_awake _ (by rw [step.link]; exact hl), step.link]
      rfl
    · have woken := wearWakes_asleep (step.link.trans hl) (by rw [msu]) hw (step.features.trans hf)
      rw [step.lt, step.beacons] at woken
      exact woken
  · have read : s.wearRead (.succeeded r) = s.modMsu fun m => m.taken r := by
      rw [wearRead_succeeded, State.judgeWear, State.modMsu_msu, taken_worn hr]
      simp only
      rw [if_neg (by omega), if_neg (by omega)]
    rw [exec_wearReadDone _ hb, read, wearWakes_of_not_worn _ (.inl (by rw [State.modMsu_msu, taken_worn hr]; exact hw))]
    rw [State.modMsu, taken_worn hr, Nat.min_eq_right (by omega)]
  · have read : s.wearRead (.succeeded r) = (s.modMsu fun m => m.taken r).changeWear (.removed s.lt) := by
      rw [wearRead_succeeded, State.judgeWear, State.modMsu_msu, taken_removed hr hw]
      simp only
      rw [if_neg (by omega), if_pos ⟨by omega, hu⟩]
      rfl
    have run : exec (.wearReadDone (.succeeded r)) s =
        .next ((s.modMsu fun m => m.taken r).changeWear (.removed s.lt)) := by
      rw [exec_wearReadDone _ hb, read, wearWakes_of_not_worn _ (.inl (by rw [changeWear_msu]; exact Wear.noConfusion))]
    refine ⟨_, run, ?_, ?_, changeWear_pending _ _, changeWear_link _ _⟩
    · rw [changeWear_msu]
    · rw [changeWear_msu]
  · have read : s.wearRead .failed = ((s.modMsu fun m =>
        { m with wearBusy := false, wearFails := m.wearFails + 1 }).bump .wearReadFailures).changeWear .unknown :=
      if_pos ⟨congrArg (· + 1) hf, hu⟩
    have run : exec (.wearReadDone .failed) s = .next (((s.modMsu fun m =>
        { m with wearBusy := false, wearFails := m.wearFails + 1 }).bump .wearReadFailures).changeWear .unknown) := by
      rw [exec_wearReadDone _ hb, read, wearWakes_of_not_worn _ (.inl (by rw [changeWear_msu]; exact Wear.noConfusion))]
    refine ⟨_, run, ?_, changeWear_pending _ _, ?_⟩
    · rw [changeWear_msu]
    · rw [changeWear_wearReadFailures, count_bump, if_pos rfl]
      rfl
  · have away : s.awayExpires = s.changeWear .away := by
      unfold State.awayExpires
      rw [if_pos (by simp [State.expired, Msu.awayAt, hw, ht])]
    refine ⟨s.changeWear .away, congrArg _ away, changeWear_msu s .away, changeWear_pending s .away,
      changeWear_wearChanges s .away, fun hblank => judgeDark_dark (x := .away) ?_⟩
    simp [State.causeHolds, hblank]
  · exact poseStale_raises (by rw [State.poseIsStale, he]; exact decide_eq_true ht)
  · exact poseStale_clears (by rw [State.poseIsStale, he]; exact decide_eq_false (Nat.not_lt.2 ht))
  · exact poseStale_raises (by simp [State.poseIsStale, he])

end Sys2Proof.Machine
end

section
/-! An input measurement that enters NORMAL: what the evaluation before and after it leaves, and the entry (O21). -/

namespace Sys2Proof.Machine

/-! ### What a measurement leaves where the supply state stays (R147 to R153, R176) -/

/-- `t` is `s` after a step of a measurement's evaluation in which the supply state, the rails and the link stay: the counts, the
level and the settings of the PMG may move, and reports may start a block. -/
structure MeterStep (s t : State) : Prop where
  lt : t.lt = s.lt
  link : t.tlc.link = s.tlc.link
  started : s.tlc.tx ≠ none → t.tlc.tx ≠ none
  storeState : t.cmu.storeState = s.cmu.storeState
  queue : t.msu.queue = s.msu.queue
  shed : s.ntu.pending.has .shedChange = true → t.ntu.pending.has .shedChange = true
  pmg : t.pmg = { s.pmg with
    meas := t.pmg.meas, measuredAt := t.pmg.measuredAt, level := t.pmg.level, rise := t.pmg.rise, fall := t.pmg.fall
    cut := t.pmg.cut, recovery := t.pmg.recovery, rCable := t.pmg.rCable, testLoad := t.pmg.testLoad }

namespace MeterStep

theorem refl (s : State) : MeterStep s s := ⟨rfl, rfl, id, rfl, rfl, id, rfl⟩

section
variable {s t u : State} (h : MeterStep s t)
include h

theorem supply : t.pmg.supply = s.pmg.supply := by rw [h.pmg]
theorem rails : t.pmg.rails = s.pmg.rails := by rw [h.pmg]
theorem standby : t.pmg.standby = s.pmg.standby := by rw [h.pmg]
theorem target : t.pmg.target = s.pmg.target := by rw [h.pmg]
theorem limits : t.pmg.limits = s.pmg.limits := by rw [h.pmg]
theorem reachedNormal : t.pmg.reachedNormal = s.pmg.reachedNormal := by rw [h.pmg]

theorem trans (g : MeterStep t u) : MeterStep s u where
  lt := g.lt.trans h.lt
  link := g.link.trans h.link
  started := g.started ∘ h.started
  storeState := g.storeState.trans h.storeState
  queue := g.queue.trans h.queue
  shed := g.shed ∘ h.shed
  pmg := by rw [g.pmg, h.pmg]

end

/-- A report starts a block or nothing. -/
theorem of_report {s t : State} (h : SameButNotices s t) (started : s.mayStart = false → t.tlc = s.tlc)
    (shed : s.ntu.pending.has .shedChange = true → t.ntu.pending.has .shedChange = true) : MeterStep s t where
  lt := h.lt
  link := h.link
  started a := by
    rw [started (by simp [State.mayStart, Option.isNone_eq_false_iff, Option.isSome_iff_ne_none, a])]
    exact a
  storeState := h.storeState
  queue := by rw [h.msu]
  shed := shed
  pmg := by rw [h.pmg]

variable (s : State)

theorem raise (c : Condition) : MeterStep s (s.raise c) :=
  of_report (sbn_raise s c) (raise_tlc_of_not_mayStart · c)
    (fun h => by rw [raise_pending, Masks.has_put, h, Bool.or_true])

theorem lower {c : Condition} (h : c ≠ .shedChange) : MeterStep s (s.lower c) :=
  of_report (sbn_lower s c) (fun _ => lower_tlc s c) (fun hs => by rw [lower_pending, has_drop_of_ne h.symm, hs])

theorem follow {c : Condition} (b : Bool) (h : c ≠ .shedChange) : MeterStep s (s.follow c b) := by
  unfold State.follow
  split
  · exact raise s c
  · exact lower s h

theorem opportunity : MeterStep s s.opportunity :=
  of_report (sbn_opportunity s) (fun h => by rw [opportunity_of_not_mayStart h]) (by rw [opportunity_ntu]; exact id)

theorem bump (c : Counter) : MeterStep s (s.bump c) := ⟨rfl, rfl, id, rfl, rfl, id, rfl⟩

theorem modPrr (f : Prr → Prr) : MeterStep s (s.modPrr f) := ⟨rfl, rfl, id, rfl, rfl, id, rfl⟩

/-- The counts, the level and the settings of the PMG move. -/
theorem modPmg (f : Pmg → Pmg) (h : f s.pmg = { s.pmg with
    meas := (f s.pmg).meas, measuredAt := (f s.pmg).measuredAt, level := (f s.pmg).level, rise := (f s.pmg).rise
    fall := (f s.pmg).fall, cut := (f s.pmg).cut, recovery := (f s.pmg).recovery, rCable := (f s.pmg).rCable
    testLoad := (f s.pmg).testLoad }) : MeterStep s (s.modPmg f) := ⟨rfl, rfl, id, rfl, rfl, id, h⟩

theorem judgeDark : MeterStep s s.judgeDark := by
  unfold State.judgeDark
  split <;> split <;> exact ⟨rfl, rfl, id, rfl, rfl, id, rfl⟩

theorem reformSync (n : Nat) : MeterStep s (s.reformSync n) := by
  unfold State.reformSync
  split <;> exact ⟨rfl, rfl, id, rfl, rfl, id, rfl⟩

theorem capGain : MeterStep s s.capGain := ⟨rfl, rfl, id, rfl, rfl, id, rfl⟩

theorem setLevel (l : Level) : MeterStep s (s.setLevel l) :=
  (((modPmg s _ rfl).trans (judgeDark _)).trans (capGain _)).trans (reformSync _ _)

theorem changeLevel (l : Level) : MeterStep s (s.changeLevel l) := by
  unfold State.changeLevel
  split
  · exact refl s
  · exact ((setLevel s l).trans (raise _ _)).trans (bump _ _)

theorem judgePower (m : Measurement) : MeterStep s (s.judgePower m) :=
  (follow s _ Condition.noConfusion).trans (follow _ _ Condition.noConfusion)

theorem jump : MeterStep s s.jump := by
  unfold State.jump
  split
  · exact modPmg s _ rfl
  · exact (changeLevel s _).trans (bump _ _)

theorem riseTest (m : Measurement) : MeterStep s (s.riseTest m) := by
  have counted := modPmg s (fun p => { p with rise := if callsRise p m then min 3 (p.rise + 1) else 0 }) rfl
  unfold State.riseTest
  dsimp only
  split
  · split
    · exact (counted.trans (changeLevel _ _)).trans (bump _ _)
    · exact counted
  · exact counted

theorem fallTest (m : Measurement) : MeterStep s (s.fallTest m) := by
  have counted := modPmg s (fun p => { p with fall := if callsFall p m then min 200 (p.fall + 1) else 0 }) rfl
  unfold State.fallTest
  dsimp only
  split
  · split
    · exact (counted.trans (changeLevel _ _)).trans (bump _ _)
    · exact counted
  · exact counted

theorem shedStep (m : Measurement) : MeterStep s (s.shed m) := by
  unfold State.shed
  split
  · exact refl s
  · split
    · exact jump s
    · exact (riseTest s m).trans (fallTest _ m)

theorem endProc (r : ProcResult) (v : List ProcValue) : MeterStep s (s.endProc r v) := by
  unfold State.endProc
  split
  · exact refl s
  · exact (modPrr s _).trans (raise _ _)

theorem load (b : Bool) : MeterStep s (s.load b) := modPmg s _ rfl

theorem cableStep (m : Measurement) : MeterStep s (s.cableStep m) := by
  unfold State.cableStep
  split
  · dsimp only
    split
    · exact (load s _).trans (endProc _ _ _)
    · split
      · exact (modPrr s _).trans (load _ _)
      · split
        · exact (modPrr s _).trans (load _ _)
        · split
          · unfold State.cableEnd
            dsimp only
            split
            · exact endProc s _ _
            · exact (modPmg s _ rfl).trans (endProc _ _ _)
          · exact modPrr s _
  · exact refl s

end MeterStep

/-! ### Rails whose readers leave the MSU (R157, R160) -/

/-- `t` is `s` after rails other than an ON SENSOR rail have changed. -/
structure LoadStep (s t : State) : Prop where
  msu : t.msu = s.msu
  shed : s.ntu.pending.has .shedChange = true → t.ntu.pending.has .shedChange = true

namespace LoadStep

theorem refl (s : State) : LoadStep s s := ⟨rfl, id⟩

theorem trans {s t u : State} (h : LoadStep s t) (g : LoadStep t u) : LoadStep s u :=
  ⟨g.msu.trans h.msu, g.shed ∘ h.shed⟩

variable (s : State)

theorem raise (c : Condition) : LoadStep s (s.raise c) := ⟨State.raise_msu s c, (MeterStep.raise s c).shed⟩

theorem lower {c : Condition} (h : c ≠ .shedChange) : LoadStep s (s.lower c) :=
  ⟨State.lower_msu s c, (MeterStep.lower s h).shed⟩

theorem modSou (f : Sou → Sou) : LoadStep s (s.modSou f) := ⟨rfl, id⟩

theorem modAud (f : Aud → Aud) : LoadStep s (s.modAud f) := ⟨rfl, id⟩

theorem modPmg (f : Pmg → Pmg) : LoadStep s (s.modPmg f) := ⟨rfl, id⟩

theorem stopPlayback : LoadStep s s.stopPlayback := ⟨rfl, id⟩

theorem judgeDark : LoadStep s s.judgeDark := ⟨judgeDark_msu s, (MeterStep.judgeDark s).shed⟩

theorem scanOff : LoadStep s s.scanOff := by
  unfold State.scanOff
  split
  · exact refl s
  · exact (modSou s _).trans (judgeDark _)

theorem stopCapture : LoadStep s s.stopCapture := by
  unfold State.stopCapture
  dsimp only
  split
  · exact (modAud s _).trans (raise _ _)
  · exact modAud s _

theorem railLeft {x : Rail} (h : x ≠ .sensor) (b : Bool) : LoadStep s (s.railLeft x b) := by
  cases x with
  | sensor => exact absurd rfl h
  | audio =>
    cases b
    · exact stopPlayback s
    · exact (stopPlayback s).trans (stopCapture _)
  | panelL | panelR => exact scanOff s
  | illum => exact judgeDark s

theorem railReached {x : Rail} (h : x ≠ .sensor) : LoadStep s (s.railReached x) := by
  cases x with
  | sensor => exact absurd rfl h
  | audio => exact refl s
  | panelL | panelR =>
    show LoadStep s s.scanStart
    rw [scanStart_rest]
    exact ⟨rfl, id⟩
  | illum => exact judgeDark s

theorem followRail (x : Rail) (old st : RailState) : LoadStep s (s.followRail x old st) := by
  unfold State.followRail
  split
  · exact raise s _
  · split
    · exact lower s (by cases x <;> exact Condition.noConfusion)
    · exact refl s

/-- R29, R46: only SENSOR, to or from ON, has readers in the MSU. -/
theorem setRail {x : Rail} {st : RailState} (h : x ≠ .sensor ∨ (s.pmg.rails.get x ≠ .on ∧ st ≠ .on)) :
    LoadStep s (s.setRail x st) := by
  have taken : LoadStep s ((s.modPmg fun p => { p with rails := p.rails.set x st }).followRail x (s.pmg.rails.get x) st) :=
    (modPmg s _).trans (followRail _ x _ st)
  unfold State.setRail
  dsimp only
  split
  next left => exact taken.trans (railLeft _ (h.resolve_right fun n => n.1 left.1) _)
  next =>
    split
    next reached => exact taken.trans (railReached _ (h.resolve_right fun n => n.2 reached.1))
    next => exact taken

theorem foldl {α : Type} (f : State → α → State) (xs : List α) (h : ∀ s, ∀ x ∈ xs, LoadStep s (f s x)) :
    LoadStep s (xs.foldl f s) := by
  induction xs generalizing s with
  | nil => exact refl s
  | cons x xs ih =>
    exact (h s x List.mem_cons_self).trans (ih _ fun s y hy => h s y (List.mem_cons_of_mem x hy))

theorem takeDown {xs : List Rail} (h : Rail.sensor ∉ xs) : LoadStep s (s.takeDown xs) := by
  refine foldl s _ xs fun u x hx => ?_
  split
  · exact refl u
  · exact setRail u (.inl fun e => h (e ▸ hx))

theorem sequence : LoadStep s s.sequence := by
  refine foldl s _ railOrder fun u x _ => ?_
  split
  next may =>
    simp only [Pmg.mayRamp, Bool.and_eq_true, beq_iff_eq] at may
    obtain ⟨⟨off, _⟩, _⟩ := may
    exact setRail u (.inr ⟨by rw [off]; exact RailState.noConfusion, RailState.noConfusion⟩)
  next => exact refl u

/-- R162: a target of NORMAL covers SENSOR. -/
theorem formTarget (h : s.pmg.supply = .normal) : LoadStep s s.formTarget := by
  have covered : (railTarget s.pmg.supply s.pmg.standby).covers .sensor = true := by
    rw [h]
    cases s.pmg.standby <;> rfl
  refine ((modPmg s _).trans (takeDown _ fun mem => ?_)).trans (sequence _)
  simp only [List.mem_filter, State.modPmg_pmg, covered, Bool.not_true, Bool.false_eq_true, and_false] at mem

end LoadStep

/-! ### The entry into NORMAL (R154, R156, R162, R208) -/

/-- `t` is in NORMAL, entered from `s`. -/
structure CameUp (s t : State) : Prop where
  supply : t.pmg.supply = .normal
  limits : t.pmg.limits = s.pmg.limits
  reached : t.pmg.reachedNormal = true
  target : t.pmg.target = if s.pmg.standby then .sensorOnly else .all
  sensor : s.pmg.rails.sensor = .off → t.pmg.rails.sensor = .ramping (s.lt + 5000)
  trained : s.cmu.storeState ≠ .loading → s.tlc.link = .down none → t.tlc.link = .training 1 s.lt none
  stayed : s.cmu.storeState = .loading ∨ s.tlc.link ≠ .down none → t.tlc.link = s.tlc.link

theorem CameUp.of_meter {s u w t : State} (before : MeterStep s u) (up : CameUp u w) (after : MeterStep w t) :
    CameUp s t := by
  obtain ⟨supply, limits, reached, target, sensor, trained, stayed⟩ := up
  rw [before.standby] at target
  rw [before.rails, before.lt] at sensor
  rw [before.storeState, before.link] at trained stayed
  rw [before.lt] at trained
  exact ⟨after.supply.trans supply, (after.limits.trans limits).trans before.limits,
    after.reachedNormal.trans reached, after.target.trans target,
    fun h => by rw [after.rails, sensor h], fun h g => after.link.trans (trained h g), fun h => after.link.trans (stayed h)⟩

/-- R154, R156: the state in which the target of NORMAL is formed. -/
def State.normal (s : State) : State := s.modPmg fun p => { p with supply := .normal, reachedNormal := true }

theorem enterNormal_eq (s : State) : s.enterNormal = s.normal.formTarget.linkStep := rfl

theorem formTarget_step (s : State) :
    RailStep (s.modPmg fun p => { p with target := railTarget p.supply p.standby }) s.formTarget :=
  (takeTarget_step s).trans (.sequence _)

/-- R208: the link step moves the link alone. -/
theorem linkStep_rest (s : State) : s.linkStep = { s with tlc := { s.tlc with link := s.linkStep.tlc.link } } := by
  unfold State.linkStep
  split <;> rfl

/-- R154, R156: the entry moves the supply state, the target and the rails of the PMG. -/
theorem enterNormal_pmg (s : State) : s.enterNormal.pmg = { s.pmg with
    supply := .normal, reachedNormal := true, target := if s.pmg.standby then .sensorOnly else .all
    rails := s.enterNormal.pmg.rails } := by
  rw [enterNormal_eq, linkStep_rest, (formTarget_step s.normal).pmg]
  rfl

theorem enterNormal_load (s : State) : LoadStep s s.enterNormal := by
  have formed := (LoadStep.modPmg s fun p => { p with supply := .normal, reachedNormal := true }).trans
    (.formTarget s.normal rfl)
  rw [enterNormal_eq, linkStep_rest]
  exact ⟨formed.msu, formed.shed⟩

theorem enterNormal_cameUp (s : State) : CameUp s s.enterNormal := by
  have step := formTarget_step s.normal
  have covered : (railTarget s.normal.pmg.supply s.normal.pmg.standby).covers .sensor = true := by
    show (if s.pmg.standby then RailTarget.sensorOnly else .all).covers .sensor = true
    cases s.pmg.standby <;> rfl
  refine ⟨by rw [enterNormal_pmg], by rw [enterNormal_pmg], by rw [enterNormal_pmg], by rw [enterNormal_pmg], fun h => ?_,
    fun hs hl => ?_, fun h => ?_⟩
  · rw [enterNormal_eq, linkStep_rest]
    exact formTarget_sensor (s := s.normal) h covered
  · rw [enterNormal_eq, State.linkStep,
      if_pos ⟨by rw [step.reachedNormal]; rfl, by rw [step.storeState]; exact hs, by rw [step.link]; exact hl⟩]
    show Link.training 1 s.normal.formTarget.lt none = _
    rw [step.lt]
    rfl
  · rw [enterNormal_eq, State.linkStep, if_neg, step.link]
    · rfl
    · rw [step.storeState, step.link]
      rintro ⟨_, hs, hl⟩
      exact h.elim hs fun n => n hl

/-! ### The measurement (R146) -/

/-- R146: the figures of a measurement have been taken, and its live conditions judged. -/
def State.judged (s : State) (at_ : Nat) (m : Measurement) : State :=
  ((s.modPmg fun p => { p with measuredAt := some at_ }).modPmg fun p => { p with meas := some m }).judgePower m

theorem judged_step (s : State) (at_ : Nat) (m : Measurement) : MeterStep s (s.judged at_ m) :=
  ((MeterStep.modPmg s _ rfl).trans (.modPmg _ _ rfl)).trans (.judgePower _ m)

theorem judged_pmg (s : State) (at_ : Nat) (m : Measurement) :
    (s.judged at_ m).pmg = { s.pmg with measuredAt := some at_, meas := some m } := by
  rw [State.judged, State.judgePower, State.follow_pmg, State.follow_pmg]
  rfl

/-- R146: a measurement that is due is taken at its voltage, up to 30,000 mV. -/
theorem exec_inputMeasurement {s : State} (vin iin : Nat) (h : ∀ m, s.pmg.measuredAt = some m → m + 1000 ≤ s.lt) :
    ∃ at_ m, m.vin = min 30000 vin ∧ exec (.inputMeasurement vin iin) s =
      .next ((((s.judged at_ m).shed m).supplyTests m).cableStep m) := by
  have due : ∃ at_, s.measurementAt = some at_ := by
    unfold State.measurementAt
    split
    · exact ⟨_, rfl⟩
    next m e => exact ⟨_, if_pos (h m e)⟩
  obtain ⟨at_, due⟩ := due
  refine ⟨at_, figures (topped 30000 vin) (topped 5000 iin) s.pmg.rCable s.pmg.testLoad, rfl, ?_⟩
  simp only [exec, execInputMeasurement, due]
  rfl

/-- R155: a voltage that is not below V_cut ends a run of low measurements. -/
theorem brownoutTest_quiet {s : State} {m : Measurement} (h : s.pmg.limits.vCut ≤ m.vin) :
    s.brownoutTest m = s.modPmg fun p => { p with cut := 0 } := by
  have low : ¬ m.vin < s.pmg.limits.vCut := Nat.not_lt.2 h
  unfold State.brownoutTest
  simp only [State.modPmg_pmg, low, if_false]
  rw [if_neg (by omega)]
  simp [State.modPmg, low]

theorem cableStep_pmg (s : State) (m : Measurement) : (s.cableStep m).pmg = { s.pmg with
    rCable := (s.cableStep m).pmg.rCable, testLoad := (s.cableStep m).pmg.testLoad } := by
  have ended (u : State) (r : ProcResult) (v : List ProcValue) : (u.endProc r v).pmg = u.pmg := (ReaderStep.endProc u r v).pmg_eq
  unfold State.cableStep
  split
  · dsimp only
    split
    · rw [ended]
      rfl
    · split
      · rfl
      · split
        · rfl
        · split
          · unfold State.cableEnd
            dsimp only
            split
            · rw [ended]
            · rw [ended]
              rfl
          · rfl
  · rfl

theorem changeLevel_level (s : State) (l : Level) : (s.changeLevel l).pmg.level = l := by
  unfold State.changeLevel
  split
  next h => exact h
  · rw [State.bump_pmg, State.raise_pmg, State.setLevel, (ReaderStep.reformSync _ _).pmg_eq]
    show ((s.modPmg fun p => { p with level := l, rise := 0, fall := 0 }).judgeDark).pmg.level = l
    rw [(ReaderStep.judgeDark _).pmg_eq]
    rfl

theorem changeLevel_raised {s : State} {l : Level} (h : s.pmg.level ≠ l) :
    (s.changeLevel l).ntu.pending.has .shedChange = true := by
  unfold State.changeLevel
  rw [if_neg h, State.bump_ntu, raise_pending, Masks.has_put]
  rfl

/-- R22: an active link with a motion record that may be sent does not stay idle. -/
theorem opportunity_sends {s : State} (ha : s.linkActive = true) (hd : s.drained ≠ []) : s.opportunity.tlc.tx ≠ none := by
  by_cases ht : s.tlc.tx = none
  · cases hb : s.tlc.beat with
    | some b =>
      rw [opportunity_beat_goes ha ht hb]
      exact Option.some_ne_none _
    | none =>
      rw [opportunity_arbiter ha ht hb, State.modTlc_tlc, arbiter_motion hd]
      exact Option.some_ne_none _
  · rw [opportunity_busy ht]
    exact ht

/-- R156: the level and the counts at the entry into NORMAL of a recovery. -/
def State.recovered (s : State) : State :=
  (s.changeLevel .l2).modPmg fun p => { p with cut := 0, recovery := 0, rise := 0, fall := 0 }

theorem recover_eq (s : State) : s.recover = s.recovered.enterNormal.opportunity := rfl

theorem recovered_step (s : State) : MeterStep s s.recovered := (MeterStep.changeLevel s .l2).trans (.modPmg _ _ rfl)

theorem recover_pmg (s : State) : s.recover.pmg = s.recovered.enterNormal.pmg := State.opportunity_pmg _

theorem recover_cameUp (s : State) : CameUp s s.recover :=
  .of_meter (recovered_step s) (enterNormal_cameUp _) (.opportunity _)

/-- R52: at a recovery an active link with motion records waiting sends. -/
theorem recover_sends {s : State} {c : Channel} (hl : s.tlc.link = .active c) (hq : s.msu.queue ≠ []) :
    s.recover.tlc.tx ≠ none := by
  have up := enterNormal_cameUp s.recovered
  have link : s.recovered.tlc.link = .active c := (recovered_step s).link.trans hl
  have active : s.recovered.enterNormal.linkActive = true :=
    linkActive_of (c := c) ((up.stayed (.inr (by rw [link]; exact Link.noConfusion))).trans link)
  have drained : s.recovered.enterNormal.drained = s.msu.queue := by
    rw [State.drained, up.supply, if_neg Supply.noConfusion, (enterNormal_load _).msu, (recovered_step s).queue]
  exact opportunity_sends (s := s.recovered.enterNormal) active (by rw [drained]; exact hq)

/-- R153: a recovery from L3 reports the change of level. -/
theorem recover_shed {s : State} (h : s.pmg.level = .l3) : s.recover.ntu.pending.has .shedChange = true := by
  have raised : s.recovered.ntu.pending.has .shedChange = true :=
    changeLevel_raised (by rw [h]; exact Level.noConfusion)
  exact (MeterStep.opportunity _).shed ((enterNormal_load _).shed raised)

/-- R156: in BROWNOUT a measurement at V_warn is evaluated by the recovery test alone. -/
theorem supplyTests_brownout {s : State} {m : Measurement} (h : s.pmg.supply = .brownout) (hw : s.pmg.limits.vWarn ≤ m.vin) :
    (s.shed m).supplyTests m = if min 500 (s.pmg.recovery + 1) = 500 then
        (s.modPmg fun p => { p with recovery := min 500 (s.pmg.recovery + 1) }).recover
      else s.modPmg fun p => { p with recovery := min 500 (s.pmg.recovery + 1) } := by
  have same : s.shed m = s := if_pos h
  have counted : (s.modPmg fun p => { p with recovery := if p.limits.vWarn ≤ m.vin then min 500 (p.recovery + 1) else 0 }) =
      s.modPmg fun p => { p with recovery := min 500 (s.pmg.recovery + 1) } := by
    simp [State.modPmg, hw]
  rw [same]
  unfold State.supplyTests
  rw [h]
  dsimp only
  unfold State.recoveryTest
  rw [counted]
  rfl

theorem vCut_le {l : Limits} (h : l.ok = true) {v : Nat} (hv : l.vWarn ≤ v) : l.vCut ≤ v := by
  simp only [Limits.ok, Bool.and_eq_true, decide_eq_true_eq] at h
  omega

/-- R154: in START a measurement at V_warn is evaluated by the test of the supply. -/
theorem supplyTests_start {s : State} {m : Measurement} (h : s.pmg.supply = .start) :
    s.supplyTests m = (s.leaveStart m).brownoutTest m := by
  unfold State.supplyTests
  rw [h]

/-- Settles O21: the evaluation before the entry and after it leaves what the entry moves. -/
theorem enteringNormalBringsRailsUp : Obligations.EnteringNormalBringsRailsUp := by
  intro s vin iin hdue hok hv
  obtain ⟨at_, m, hm, run⟩ := exec_inputMeasurement vin iin hdue
  rw [← hm] at hv
  have judged := judged_step s at_ m
  have pmg := judged_pmg s at_ m
  generalize s.judged at_ m = u at run judged pmg
  have warn (w : State) (e : w.pmg.limits = s.pmg.limits) : w.pmg.limits.vWarn ≤ m.vin := by rw [e]; exact hv
  have cut (w : State) (e : w.pmg.limits = s.pmg.limits) : w.pmg.limits.vCut ≤ m.vin := by rw [e]; exact vCut_le hok hv
  have shed := judged.trans (.shedStep u m)
  refine ⟨?_, fun hs hr => ?_, fun hs hc => ?_⟩
  · rintro (⟨hs, hc⟩ | ⟨hs, ⟨hlo, hhi⟩, hl⟩)
    · have left : (u.shed m).leaveStart m = (u.shed m).enterNormal :=
        if_pos ⟨shed.supply.trans hs, by rw [shed.storeState]; exact hc, warn _ shed.limits⟩
      have entered := enterNormal_cameUp (u.shed m)
      have up : CameUp s (((u.shed m).supplyTests m).cableStep m) := by
        rw [supplyTests_start (shed.supply.trans hs), left, brownoutTest_quiet (cut _ (entered.limits.trans shed.limits))]
        exact .of_meter shed entered ((MeterStep.modPmg _ _ rfl).trans (.cableStep _ m))
      refine ⟨_, run, up.supply, up.reached, up.target, up.sensor, up.trained, up.stayed, fun hb => ?_⟩
      rw [hs] at hb
      exact Supply.noConfusion hb
    · have full : min 500 (u.pmg.recovery + 1) = 500 := by rw [pmg]; simp only; omega
      have tests := supplyTests_brownout (judged.supply.trans hs) (warn u judged.limits)
      rw [if_pos full, full] at tests
      rw [tests] at run
      have counted : MeterStep s (u.modPmg fun p => { p with recovery := 500 }) := judged.trans (.modPmg u _ rfl)
      have level : (u.modPmg fun p => { p with recovery := 500 }).pmg.level = .l3 := by
        rw [State.modPmg_pmg, pmg]
        exact hl
      generalize (u.modPmg fun p => { p with recovery := 500 }) = w at run counted level
      have up := CameUp.of_meter counted (recover_cameUp w) (.cableStep w.recover m)
      have reported := (MeterStep.cableStep w.recover m).shed (recover_shed level)
      have ended : (w.recover.cableStep m).pmg.level = .l2 ∧ (w.recover.cableStep m).pmg.recovery = 0 ∧
          (w.recover.cableStep m).pmg.cut = 0 ∧ (w.recover.cableStep m).pmg.rise = 0 ∧
          (w.recover.cableStep m).pmg.fall = 0 := by
        rw [cableStep_pmg, recover_pmg, enterNormal_pmg]
        exact ⟨changeLevel_level w .l2, rfl, rfl, rfl, rfl⟩
      obtain ⟨hlevel, hrecovery, hcut, hrise, hfall⟩ := ended
      refine ⟨_, run, up.supply, up.reached, up.target, up.sensor, up.trained, up.stayed, fun _ =>
        ⟨hlevel, hrecovery, hcut, hrise, hfall, reported, fun c hc hq => ?_⟩⟩
      exact (MeterStep.cableStep w.recover m).started
        (recover_sends (counted.link.trans hc) (by rw [counted.queue]; exact hq))
  · have counts : min 500 (u.pmg.recovery + 1) = s.pmg.recovery + 1 := by rw [pmg]; simp only; omega
    have tests := supplyTests_brownout (judged.supply.trans hs) (warn u judged.limits)
    rw [counts, if_neg (by omega)] at tests
    rw [tests] at run
    have counted : MeterStep s ((u.modPmg fun p => { p with recovery := s.pmg.recovery + 1 }).cableStep m) :=
      (judged.trans (.modPmg u _ rfl)).trans (.cableStep _ m)
    refine ⟨_, run, counted.supply.trans hs, ?_, counted.link, counted.rails⟩
    rw [cableStep_pmg]
    rfl
  · have left : (u.shed m).leaveStart m = u.shed m :=
      if_neg fun ⟨_, ended, _⟩ => ended (shed.storeState.trans hc)
    rw [supplyTests_start (shed.supply.trans hs), left, brownoutTest_quiet (cut _ shed.limits)] at run
    have evaluated := (shed.trans (.modPmg _ (fun p => { p with cut := 0 }) rfl)).trans (.cableStep _ m)
    exact ⟨_, run, evaluated.supply.trans hs, evaluated.link, evaluated.rails⟩

end Sys2Proof.Machine
end

section
/-! The state after reset meets every invariant (O3). -/

namespace Sys2Proof.Machine

theorem reset_slots_free (t : Slot) (h : t ∈ State.reset.fst.slots.toList) : t = .empty := by
  simpa [State.reset, Fst.reset, Slots.toList] using h

theorem reset_rails_off (x : Rail) : State.reset.pmg.rails.get x = .off := by cases x <;> rfl

theorem reset_withinCapacity : State.reset.withinCapacity := by unfold State.withinCapacity; decide

theorem reset_countersFit : State.reset.countersFit := fun c => by
  obtain ⟨_, _, _, _, _, _, _, _, _, _, _, _, _, _, _, _, _, _, _, _, _, _, _, _, _, _, _, _, _, counts⟩ := resetValues
  rw [counts c]
  exact Nat.zero_le _

theorem reset_wrapped : State.reset.oin.wrapped := by
  have zero : Angles.zero.inTurn := by unfold Angles.inTurn InTurn; decide
  have residue : IsResidue 0 := by unfold IsResidue; decide
  exact ⟨zero, fun e he => absurd he List.not_mem_nil, fun a ha => (nomatch ha), residue, residue, residue⟩

/-- R74: with every slot FREE there is no order to keep. -/
theorem reset_ordered : State.reset.fst.slots.ordered := by
  refine ⟨by decide, by decide, fun t ht u hu hr => ?_, fun t ht u hu hf => ?_⟩
  · rw [reset_slots_free t ht] at hr
    exact absurd hr SlotState.noConfusion
  · rw [reset_slots_free t ht] at hf
    exact absurd hf SlotState.noConfusion

theorem reset_canonical : State.reset.fst.slots.canonical := fun t ht => by
  rw [reset_slots_free t ht]
  exact ⟨.nil, .nil⟩

theorem reset_powerSound : State.reset.powerSound := by
  refine ⟨by decide, by decide, rfl, fun x _ => reset_rails_off x, fun x y _ h => ?_, fun h => nomatch h⟩
  rw [reset_rails_off] at h
  obtain h | ⟨e, h⟩ := h <;> exact nomatch h

theorem reset_liveSound : State.reset.liveSound := by
  have clear (x : Rail) : State.reset.ntu.pending.has (railFault x) = false := by cases x <;> decide
  refine ⟨iff_of_true (by decide) rfl, iff_of_false (by decide) (by decide), iff_of_false (by decide) (by decide),
    fun x => iff_of_false (by rw [clear]; decide) ?_⟩
  rw [reset_rails_off]
  exact RailState.noConfusion

theorem reset_attnSound : State.reset.attnSound := iff_of_false (by decide) fun h => nomatch h.1

theorem reset_darkSound : State.reset.darkSound := iff_of_true rfl (by decide)

theorem reset_scanSound : State.reset.scanSound := iff_of_true rfl rfl

theorem reset_imusSound : State.reset.imusSound := fun x => iff_of_true (by cases x <;> rfl) rfl

theorem reset_readsSound : State.reset.readsSound := fun _ h => nomatch h

/-- Settles O3: each invariant on the reset state, where queues are empty, rails and IMUs OFF and slots FREE. -/
theorem resetMeetsInvariants : Obligations.ResetMeetsInvariants :=
  ⟨reset_withinCapacity, reset_countersFit, reset_wrapped, reset_ordered, reset_canonical, reset_powerSound,
    by unfold Pmg.countsFit; decide, fun h => (nomatch h), by unfold State.gainSound; decide,
    ⟨fun _ => ⟨rfl, rfl, rfl⟩, fun _ => rfl⟩, reset_liveSound, ⟨by decide, by decide, by decide⟩, reset_attnSound,
    fun p => by cases p <;> decide, fun p => by cases p <;> rfl, reset_darkSound, reset_scanSound, reset_imusSound,
    reset_readsSound⟩

end Sys2Proof.Machine
end

section
/-!
What the invariants of the queues and counters (O5) and of the readers of rails, link and dark causes (O14) have in common: the
relations that operations compose. `Fits` says that queues and counters stay within bounds. `SameDark`, `SameScan` and `SameMotion`
say that what the output, scan-out and the IMUs follow is as it was. `Aside` is all four: an operation that leaves every reader
alone. The first lemmas are those of the single updates.
-/

namespace Sys2Proof.Machine

/-- R39, R56, R127, R140, R200, 4.5: queues, ring, buffer and counters that were within their bounds stay so. -/
structure Fits (s t : State) : Prop where
  capacity : s.withinCapacity → t.withinCapacity
  counters : s.countersFit → t.countersFit

/-- R118: the dark causes and the output are as they were. -/
structure SameDark (s t : State) : Prop where
  causes : ∀ c, t.causeHolds c = s.causeHolds c
  output : t.ilg.output = s.ilg.output

/-- R82: what lets scan-out leave OFF, and whether it is OFF, are as they were. -/
structure SameScan (s t : State) : Prop where
  panels : t.panelsOn = s.panelsOn
  off : t.sou.scanOut = .off ↔ s.sou.scanOut = .off

/-- R29, R35: the IMUs are in the states they were in, enabled as they were, and no read is in progress that was not before. -/
structure SameMotion (s t : State) : Prop where
  enabled : t.imuEnabled = s.imuEnabled
  state : ∀ x, (t.msu.imu x).state = (s.msu.imu x).state
  busy : ∀ x, t.msu.busy x = true → s.msu.busy x = true

/-- An operation that leaves alone every reader of rails, link and dark causes, and what each of them follows. -/
structure Aside (s t : State) : Prop extends Fits s t, SameDark s t, SameScan s t, SameMotion s t

/-- R29, R35: the invariant of the IMUs with that of their reads. -/
def State.motionSound (s : State) : Prop := s.imusSound ∧ s.readsSound

section
variable {s t u : State}

theorem Fits.trans (h : Fits s t) (g : Fits t u) : Fits s u := ⟨g.capacity ∘ h.capacity, g.counters ∘ h.counters⟩

theorem SameDark.trans (h : SameDark s t) (g : SameDark t u) : SameDark s u :=
  ⟨fun c => (g.causes c).trans (h.causes c), g.output.trans h.output⟩

theorem SameScan.trans (h : SameScan s t) (g : SameScan t u) : SameScan s u :=
  ⟨g.panels.trans h.panels, g.off.trans h.off⟩

theorem SameMotion.trans (h : SameMotion s t) (g : SameMotion t u) : SameMotion s u :=
  ⟨g.enabled.trans h.enabled, fun x => (g.state x).trans (h.state x), fun x => h.busy x ∘ g.busy x⟩

theorem Aside.trans (h : Aside s t) (g : Aside t u) : Aside s u :=
  ⟨h.toFits.trans g.toFits, h.toSameDark.trans g.toSameDark, h.toSameScan.trans g.toSameScan,
    h.toSameMotion.trans g.toSameMotion⟩

theorem SameDark.darkCauses (h : SameDark s t) : t.darkCauses = s.darkCauses := by
  unfold State.darkCauses
  rw [funext h.causes]

theorem SameDark.darkSound (h : SameDark s t) : s.darkSound → t.darkSound := by
  unfold State.darkSound
  rw [h.output, h.darkCauses]
  exact id

theorem SameScan.scanSound (h : SameScan s t) : s.scanSound → t.scanSound := by
  unfold State.scanSound
  rw [h.off, h.panels]
  exact id

theorem SameMotion.motionSound (h : SameMotion s t) : s.motionSound → t.motionSound := fun ⟨imus, reads⟩ =>
  ⟨fun x => by rw [h.state, h.enabled]; exact imus x, fun x hb => by rw [h.state]; exact reads x (h.busy x hb)⟩

/-- R118: the dark causes are judged by the shed level, the ILLUM rail, scan-out, the wear state and AWAY_BLANK. -/
theorem causeHolds_congr (hl : t.pmg.level = s.pmg.level) (hr : t.pmg.rails.illum = s.pmg.rails.illum)
    (ho : t.sou.scanOut = s.sou.scanOut) (hw : t.msu.wear = s.msu.wear)
    (hb : t.fst.profile.awayBlank = s.fst.profile.awayBlank) (c : DarkCause) : t.causeHolds c = s.causeHolds c := by
  cases c <;> simp only [State.causeHolds, hl, hr, ho, hw, hb]

end

namespace Aside
variable (s : State)

theorem refl : Aside s s := ⟨⟨id, id⟩, ⟨fun _ => rfl, rfl⟩, ⟨rfl, .rfl⟩, ⟨rfl, fun _ => rfl, fun _ => id⟩⟩

/-! ### Single blocks -/

theorem modOin (f : Oin → Oin) (h : s.oin.ring.length ≤ 128 → (f s.oin).ring.length ≤ 128) :
    Aside s (s.modOin f) :=
  ⟨⟨fun ⟨a, b, c, d, e⟩ => ⟨a, b, c, d, h e⟩, id⟩, ⟨fun _ => rfl, rfl⟩, ⟨rfl, .rfl⟩, ⟨rfl, fun _ => rfl, fun _ => id⟩⟩

theorem modAud (f : Aud → Aud) (hq : s.aud.queue.length ≤ 32 → (f s.aud).queue.length ≤ 32)
    (hb : s.aud.buffer.length ≤ 512 → (f s.aud).buffer.length ≤ 512) : Aside s (s.modAud f) :=
  ⟨⟨fun ⟨a, b, c, d, e⟩ => ⟨a, hq b, c, hb d, e⟩, id⟩, ⟨fun _ => rfl, rfl⟩, ⟨rfl, .rfl⟩,
    ⟨rfl, fun _ => rfl, fun _ => id⟩⟩

theorem modCmu (f : Cmu → Cmu) (h : s.cmu.queue.length ≤ 8 → (f s.cmu).queue.length ≤ 8) :
    Aside s (s.modCmu f) :=
  ⟨⟨fun ⟨a, b, c, d, e⟩ => ⟨a, b, h c, d, e⟩, id⟩, ⟨fun _ => rfl, rfl⟩, ⟨rfl, .rfl⟩, ⟨rfl, fun _ => rfl, fun _ => id⟩⟩

theorem modPrr (f : Prr → Prr) : Aside s (s.modPrr f) :=
  ⟨⟨id, id⟩, ⟨fun _ => rfl, rfl⟩, ⟨rfl, .rfl⟩, ⟨rfl, fun _ => rfl, fun _ => id⟩⟩

theorem modNtu (f : Ntu → Ntu) : Aside s (s.modNtu f) :=
  ⟨⟨id, id⟩, ⟨fun _ => rfl, rfl⟩, ⟨rfl, .rfl⟩, ⟨rfl, fun _ => rfl, fun _ => id⟩⟩

theorem modFst (f : Fst → Fst) (h : (f s.fst).profile.awayBlank = s.fst.profile.awayBlank) :
    Aside s (s.modFst f) :=
  ⟨⟨id, id⟩, ⟨causeHolds_congr rfl rfl rfl rfl h, rfl⟩, ⟨rfl, .rfl⟩, ⟨rfl, fun _ => rfl, fun _ => id⟩⟩

theorem modSou (f : Sou → Sou) (h : (f s.sou).scanOut = s.sou.scanOut) : Aside s (s.modSou f) :=
  ⟨⟨id, id⟩, ⟨causeHolds_congr rfl rfl h rfl rfl, rfl⟩, ⟨rfl, by rw [State.modSou_sou, h]⟩,
    ⟨rfl, fun _ => rfl, fun _ => id⟩⟩

theorem modIlg (f : Ilg → Ilg) (h : (f s.ilg).output = s.ilg.output) : Aside s (s.modIlg f) :=
  ⟨⟨id, id⟩, ⟨fun _ => rfl, h⟩, ⟨rfl, .rfl⟩, ⟨rfl, fun _ => rfl, fun _ => id⟩⟩

theorem modPmg (f : Pmg → Pmg) (hr : (f s.pmg).rails = s.pmg.rails)
    (hl : (f s.pmg).level = s.pmg.level) : Aside s (s.modPmg f) :=
  ⟨⟨id, id⟩, ⟨causeHolds_congr hl (congrArg Rails.illum hr) rfl rfl rfl, rfl⟩,
    ⟨by simp only [State.panelsOn, State.modPmg_pmg, hr]; rfl, .rfl⟩,
    ⟨by simp only [State.imuEnabled, State.modPmg_pmg, hr]; rfl, fun _ => rfl, fun _ => id⟩⟩

/-- A change of the TLC with which the link neither falls asleep nor wakes. -/
theorem modTlc (f : Tlc → Tlc) (h : ((f s.tlc).link == .sleep) = (s.tlc.link == .sleep)) :
    Aside s (s.modTlc f) := by
  have asleep : (s.modTlc f).asleep = s.asleep := h
  exact ⟨⟨id, id⟩, ⟨fun _ => rfl, rfl⟩, ⟨by simp only [State.panelsOn, asleep]; rfl, .rfl⟩,
    ⟨by simp only [State.imuEnabled, asleep]; rfl, fun _ => rfl, fun _ => id⟩⟩

/-- A change of link state among the states other than SLEEP. -/
theorem moveLink (f : Tlc → Tlc) (h : s.tlc.link ≠ .sleep) (g : (f s.tlc).link ≠ .sleep) : Aside s (s.modTlc f) :=
  modTlc s f (by rw [beq_eq_false_iff_ne.2 h, beq_eq_false_iff_ne.2 g])

theorem modMsu (f : Msu → Msu) (hq : s.msu.queue.length ≤ 64 → (f s.msu).queue.length ≤ 64)
    (hw : (f s.msu).wear = s.msu.wear)
    (hs : ∀ x, ((f s.msu).imu x).state = (s.msu.imu x).state)
    (hb : ∀ x, (f s.msu).busy x = true → s.msu.busy x = true) : Aside s (s.modMsu f) :=
  ⟨⟨fun ⟨a, b, c, d, e⟩ => ⟨hq a, b, c, d, e⟩, id⟩, ⟨causeHolds_congr rfl rfl rfl hw rfl, rfl⟩, ⟨rfl, .rfl⟩, ⟨rfl, hs, hb⟩⟩

theorem modImu (x : Sensor) (f : Imu → Imu) (h : (f (s.msu.imu x)).state = (s.msu.imu x).state) :
    Aside s (s.modImu x f) := by
  cases x
  · exact modMsu s _ id rfl (fun | .a => h | .b => rfl) fun _ => id
  · exact modMsu s _ id rfl (fun | .a => rfl | .b => h) fun _ => id

theorem addCount (c : Counter) (n : Nat) : Aside s (s.addCount c n) :=
  ⟨⟨id, addCount_fits s c n⟩, ⟨fun _ => rfl, rfl⟩, ⟨rfl, .rfl⟩, ⟨rfl, fun _ => rfl, fun _ => id⟩⟩

theorem bump (c : Counter) : Aside s (s.bump c) := addCount s c 1

theorem clearCounts (cs : List Counter) : Aside s (s.clearCounts cs) := by
  have clear (t : State) (c : Counter) : Aside t (t.setCount c 0) :=
    ⟨⟨id, fun h => setCount_fits t c 0 h (Nat.zero_le _)⟩, ⟨fun _ => rfl, rfl⟩, ⟨rfl, .rfl⟩,
      ⟨rfl, fun _ => rfl, fun _ => id⟩⟩
  unfold State.clearCounts
  induction cs generalizing s with
  | nil => exact refl s
  | cons c cs ih => exact (clear s c).trans (ih _)

/-- Steps made one after another. -/
theorem foldl {α : Type} (f : State → α → State) (h : ∀ s a, Aside s (f s a)) (xs : List α) : Aside s (xs.foldl f s) := by
  induction xs generalizing s with
  | nil => exact refl s
  | cons x xs ih => exact (h s x).trans (ih _)

/-! ### Reports and messages (R22, R183 to R191, R201) -/

theorem opportunity : Aside s s.opportunity := by
  unfold State.opportunity
  split
  · split <;> exact modTlc s _ rfl
  · exact refl s

theorem uartStart : Aside s s.uartStart := by
  unfold State.uartStart
  split
  · exact modCmu s _ id
  · exact refl s

theorem setOut (p : Port) (q : List Message) : Aside s (s.modCmu fun c => c.setOut p q) :=
  modCmu s _ (by cases p <;> exact id)

theorem place (p : Port) (r : MessageRole) (b : List Byte) : Aside s (s.place p r b) :=
  ((setOut s p _).trans (opportunity _)).trans (uartStart _)

theorem issue : Aside s s.issue := by
  unfold State.issue
  split
  · exact refl s
  · dsimp only
    split
    · exact (((modNtu s _).trans (bump _ _)).trans (setOut _ _ _)).trans (bump _ _)
    · exact ((modNtu s _).trans (bump _ _)).trans (place _ _ _ _)

theorem noticeDue : Aside s s.noticeDue := by
  unfold State.noticeDue
  split
  · exact refl s
  · split
    · exact issue s
    · exact modNtu s _

theorem attend : Aside s s.attend := by
  unfold State.attend
  split
  · exact modNtu s _
  · split
    · exact modNtu s _
    · exact refl s

theorem raise (c : Condition) : Aside s (s.raise c) := by
  unfold State.raise
  split
  · exact refl s
  · dsimp only
    split
    · exact ((modNtu s _).trans (noticeDue _)).trans (attend _)
    · exact (modNtu s _).trans (attend _)

theorem lower (c : Condition) : Aside s (s.lower c) := (modNtu s _).trans (attend _)

theorem follow (c : Condition) (b : Bool) : Aside s (s.follow c b) := by
  unfold State.follow
  split
  · exact raise s c
  · exact lower s c

theorem cutIf (x : Transmission) : Aside s (s.cutIf x) := by
  unfold State.cutIf
  split
  · exact modTlc s _ rfl
  · exact refl s

end Aside
end Sys2Proof.Machine
end

section
/-!
The operations that are `Aside`, in the order of the model's files: the runner, orientation, the completion
of ticks, audio, requests and arrivals, pictures, power and link. Three of them fill a queue, and the lemmas
before them say why it stays within its bound.
-/

namespace Sys2Proof.Machine

/-! ### What fills a queue, the ring or the playback buffer (R39, R40, R56, R127, R140) -/

theorem length_gapOldest (x : Sensor) (q : List MotionRecord) : (gapOldest x q).length = q.length := by
  induction q with
  | nil => rfl
  | cons r rs ih =>
    unfold gapOldest
    split
    · rfl
    · rw [List.length_cons, ih, List.length_cons]

theorem length_stepOldest (b : Bool) (q : List MotionRecord) : (stepOldest b q).length = q.length := by cases q <;> rfl

/-- R40: a full queue is as long after its oldest record has made room. -/
theorem length_overflowed (old : MotionRecord) (rest : List MotionRecord) (r : MotionRecord) :
    (overflowed old rest r).length = (old :: rest).length := by
  rw [overflowed, length_gapOldest, length_stepOldest, List.length_append]
  rfl

theorem length_inherit (old : CaptureBlock) (q : List CaptureBlock) : (inherit old q).length = q.length := by
  cases q <;> rfl

/-- R56: a full ring loses its oldest entries before it takes a new one. -/
theorem length_integrate_ring (o : Oin) (x : Sensor) (t : Nat) (rate : Axes) :
    (o.integrate x t rate).ring.length ≤ 128 := by
  unfold Oin.integrate Config.ringMax
  simp only [List.length_append, List.length_singleton]
  split
  · rw [List.length_drop]
    omega
  · omega

theorem length_markComplete (q : List Entry) : (markComplete q).length = q.length := by
  induction q with
  | nil => rfl
  | cons e es ih =>
    unfold markComplete
    split
    · rw [List.length_cons, ih, List.length_cons]
    · rfl

namespace Aside
variable (s : State)

/-! ### The runner (R170 to R175) -/

theorem endProc (r : ProcResult) (v : List ProcValue) : Aside s (s.endProc r v) := by
  unfold State.endProc
  split
  · exact refl s
  · exact (modPrr s _).trans (raise _ _)

theorem targetLeft (x : Sensor) : Aside s (s.targetLeft x) := by
  unfold State.targetLeft
  split
  · exact endProc s _ _
  · exact refl s

theorem collect (x : Sensor) (r : Axes) (t : Int) : Aside s (s.collect x r t) := by
  unfold State.collect
  split
  · split
    · exact modPrr s _
    · exact refl s
  · exact refl s

/-! ### Orientation (R53 to R66) -/

theorem followStale : Aside s s.followStale := follow s _ _

theorem bind (x : Sensor) : Aside s (s.bind x) := modOin s _ id

theorem failover : Aside s s.failover := ((bind s _).trans (bump _ _)).trans (raise _ _)

theorem primaryFails : Aside s s.primaryFails := by
  unfold State.primaryFails
  split
  · exact failover s
  · exact modOin s _ id

theorem primaryLeft (x : Sensor) : Aside s (s.primaryLeft x) := by
  unfold State.primaryLeft
  split
  · exact modOin s _ id
  · exact refl s

theorem reportRunning (x : Sensor) : Aside s (s.reportRunning x) := by
  unfold State.reportRunning
  split
  · exact modOin s _ id
  · split
    · exact failover s
    · exact refl s

theorem reportFault (x : Sensor) : Aside s (s.reportFault x) := by
  unfold State.reportFault
  split
  · exact (primaryLeft s x).trans (primaryFails _)
  · exact refl s

theorem reportOff (x : Sensor) : Aside s (s.reportOff x) := by
  unfold State.reportOff
  split
  · exact (primaryLeft s x).trans (modOin _ _ id)
  · exact refl s

theorem testSample (b : Bool) : Aside s (s.testSample b) := by
  unfold State.testSample
  dsimp only
  split
  · split
    · exact ((modOin s _ id).trans (modOin _ _ id)).trans (primaryFails _)
    · exact (modOin s _ id).trans (modOin _ _ id)
  · exact (modOin s _ id).trans (modOin _ _ id)

theorem takeSample (x : Sensor) (t : Nat) (r : Axes) (b : Bool) : Aside s (s.takeSample x t r b) := by
  unfold State.takeSample
  split
  · exact ((modOin s _ fun _ => length_integrate_ring _ _ _ _).trans (followStale _)).trans (testSample _ b)
  · exact refl s

theorem anchor (c : Angles) : Aside s (s.modOin fun o => o.anchor c) :=
  modOin s _ fun h => by rw [Oin.anchor, List.length_map]; exact h

/-! ### Ticks, records and samples (R35 to R41) -/

theorem enqueueRecord (r : MotionRecord) : Aside s (s.enqueueRecord r) := by
  unfold State.enqueueRecord
  split
  next h =>
    exact (modMsu s _ (fun _ => by rw [List.length_append]; exact h) rfl (fun _ => rfl) (fun _ => id)).trans (opportunity _)
  · split
    · exact refl s
    next old rest e =>
      have pushed := modMsu s (fun m => { m with queue := overflowed old rest r })
        (fun h => by rw [length_overflowed, ← e]; exact h) rfl (fun _ => rfl) (fun _ => id)
      dsimp only
      split
      · exact (((pushed.trans (cutIf _ _)).trans (bump _ _)).trans (raise _ _)).trans (opportunity _)
      · exact ((((pushed.trans (modImu _ _ _ rfl)).trans (cutIf _ _)).trans (bump _ _)).trans (raise _ _)).trans
          (opportunity _)

theorem makeRecord (t : Nat) (r : Read) (d : ImuData) : Aside s (s.makeRecord t r d) := by
  have marks := (modImu s r.sensor (fun i => { i with gapPending := false, syncPending := false }) rfl).trans
    (modTlc _ (fun c => { c with stepMotion := false }) rfl)
  unfold State.makeRecord
  dsimp only
  split
  · exact ((marks.trans (bump _ _)).trans (raise _ _)).trans (enqueueRecord _ _)
  · exact marks.trans (enqueueRecord _ _)

theorem handSample (t : Nat) (r : Read) (d : ImuData) : Aside s (s.handSample t r d) :=
  (takeSample s _ _ _ _).trans (collect _ _ _ _)

theorem eachSucceeded (f : State → Read → ImuData → State) (h : ∀ s r d, Aside s (f s r d)) (rs : List Read) :
    Aside s (eachSucceeded f rs s) := by
  unfold Machine.eachSucceeded
  refine foldl s _ (fun s r => ?_) rs
  split
  · exact h s r _
  · exact refl s

theorem syncDone (t : Tick) : Aside s (s.syncDone t) := by
  unfold State.syncDone
  split
  · split
    · exact endProc s _ _
    · exact refl s
  · exact refl s

theorem markGaps (t : Tick) : Aside s (s.markGaps t) := by
  unfold State.markGaps
  exact (modImu s .a _ rfl).trans (modImu _ .b _ rfl)

theorem finishTick (t : Tick) : Aside s (s.finishTick t) :=
  (((markGaps s t).trans (eachSucceeded _ _ (fun s r d => makeRecord s t.time r d) _)).trans
    (eachSucceeded _ _ (fun s r d => handSample s t.time r d) _)).trans (syncDone _ t)

/-- R35: a tick that completes is forgotten, with no read of it left in progress. -/
theorem completeTicks : Aside s s.completeTicks := by
  refine (modMsu s (fun m => { m with ticks := m.ticks.dropWhile Tick.ended }) id rfl (fun _ => rfl) fun x h => ?_).trans
    (foldl _ _ finishTick _)
  obtain ⟨t, ht, hr⟩ := List.any_eq_true.1 h
  exact List.any_eq_true.2 ⟨t, (List.dropWhile_suffix _).subset ht, hr⟩

theorem reformSync (n : Nat) : Aside s (s.reformSync n) := by
  unfold State.reformSync
  split
  · exact refl s
  · exact ((modMsu s _ id rfl (fun _ => rfl) (fun _ => id)).trans (modPrr _ _)).trans
      ((modImu _ .a _ rfl).trans (modImu _ .b _ rfl))

/-! ### Audio (R126 to R142) -/

theorem stopPlayback : Aside s s.stopPlayback := (addCount s _ _).trans (modAud _ _ id fun _ => Nat.zero_le _)

theorem stopCapture : Aside s s.stopCapture := by
  unfold State.stopCapture
  dsimp only
  split
  · exact (modAud s _ id id).trans (raise _ _)
  · exact modAud s _ id id

/-- R127: no more frames are kept than the buffer has room for. -/
theorem appendFrames (f : List Stereo) : Aside s (s.appendFrames f) := by
  have kept := modAud s (fun a => { a with buffer := a.buffer ++ f.take (Config.playbackMax - s.aud.buffer.length) }) id fun h => by
      unfold Config.playbackMax
      rw [List.length_append, List.length_take]
      omega
  unfold State.appendFrames
  dsimp only
  split
  · exact kept
  · exact (kept.trans (addCount _ _ _)).trans (raise _ _)

theorem takeSound (b : Option (Seq × List Stereo)) : Aside s (s.takeSound b) := by
  unfold State.takeSound
  split
  · exact bump s _
  · split
    · exact bump s _
    · split
      · exact bump s _
      · exact (((addCount s _ _).trans (bump _ _)).trans (modAud _ _ id id)).trans (appendFrames _ _)

theorem runOn_eq (a : Aud) (d : Adjust) : a.runOn d = { a with
    runDirection := (a.runOn d).runDirection, runLength := (a.runOn d).runLength } := by
  unfold Aud.runOn
  split <;> rfl

theorem runOn (d : Adjust) : Aside s (s.modAud fun a => a.runOn d) :=
  modAud s _ (by rw [runOn_eq]; exact id) (by rw [runOn_eq]; exact id)

/-- R132: the fill is sampled after a change `f` of the AUD. -/
theorem sampleFill (f : Aud → Aud) (hq : (f s.aud).queue = s.aud.queue)
    (hb : (f s.aud).buffer.length ≤ s.aud.buffer.length) :
    Aside s (s.modAud fun a => (f a).sampleFill) :=
  modAud s _ (by rw [sampleFill_eq, hq]; exact id) (by rw [sampleFill_eq]; exact Nat.le_trans hb)

theorem adjusted (d : Adjust) : Aside s (s.adjusted d) := by
  have run (c : Counter) := (bump s c).trans (runOn _ d)
  unfold State.adjusted
  cases d
  all_goals
    dsimp only
    split
    · exact (((run _).trans (modAud _ _ id id)).trans (bump _ _)).trans (raise _ _)
    · exact run _

/-- R130: a fade moves the output frame and the count of frames faded. -/
theorem fadeOut_eq (a : Aud) : a.fadeOut = { a with faded := a.fadeOut.faded, out := a.fadeOut.out } := by
  unfold Aud.fadeOut
  split <;> rfl

theorem fadeOut (f : Aud → Aud) (hq : (f s.aud).queue = s.aud.queue)
    (hb : (f s.aud).buffer = s.aud.buffer) : Aside s (s.modAud fun a => (f a).fadeOut) :=
  modAud s _ (by rw [fadeOut_eq, hq]; exact id) (by rw [fadeOut_eq, hb]; exact id)

theorem underrun : Aside s s.underrun := ((fadeOut s _ rfl rfl).trans (bump _ _)).trans (raise _ _)

theorem notMade_eq (a : Aud) : a.notMade = { a with due := a.notMade.due, runLength := a.notMade.runLength } := by
  unfold Aud.notMade
  split <;> rfl

/-- R128, R133: an output instant takes frames off the buffer and puts none in. -/
theorem playInstant : Aside s s.playInstant := by
  unfold State.playInstant
  split
  · exact sampleFill s _ rfl (Nat.le_refl _)
  · split
    · exact underrun s
    next f g rest _ e =>
      have shorter : rest.length ≤ s.aud.buffer.length := by rw [e]; exact Nat.le_add_right _ 2
      exact ((modAud s _ id (Nat.le_trans shorter)).trans (adjusted _ _)).trans (sampleFill _ id rfl (Nat.le_refl _))
    next f rest _ e =>
      have shorter : rest.length ≤ s.aud.buffer.length := by rw [e]; exact Nat.le_succ _
      exact ((modAud s _ id (Nat.le_trans shorter)).trans (adjusted _ _)).trans (sampleFill _ id rfl (Nat.le_refl _))
    next f rest e _ _ =>
      have shorter : rest.length ≤ s.aud.buffer.length := by rw [e]; exact Nat.le_succ _
      exact sampleFill s (fun a => ({ a with buffer := rest } : Aud).notMade.deliver f) (by rw [notMade_eq]; rfl)
        (by rw [notMade_eq]; exact shorter)

theorem tryPlay : Aside s (s.tryPlay Aud.silent) := by
  unfold State.tryPlay
  split
  · exact (modAud s _ id id).trans (playInstant _)
  · exact modAud s _ id id

theorem playback : Aside s s.playback := by
  unfold State.playback
  split
  · exact modAud s _ id id
  · exact tryPlay s
  · exact playInstant s
  · split
    · exact fadeOut s id rfl rfl
    · exact tryPlay s

theorem enqueueCapture (b : CaptureBlock) : Aside s (s.enqueueCapture b) := by
  unfold State.enqueueCapture
  split
  next h =>
    exact (modAud s _ (fun _ => by rw [List.length_append]; exact h) id).trans (opportunity _)
  · split
    · exact refl s
    next old rest e =>
      have pushed := modAud s (fun a => { a with queue := inherit old (rest ++ [b]) }) (fun h => by
          rw [length_inherit, List.length_append]
          rw [e] at h
          exact h) id
      exact (((pushed.trans (cutIf _ _)).trans (bump _ _)).trans (raise _ _)).trans (opportunity _)

theorem queueBlock (b : CaptureBlock) (o : Bool) : Aside s (s.queueBlock b o) :=
  ((modAud s _ id id).trans (modTlc _ _ rfl)).trans (enqueueCapture _ _)

theorem gateBlock : Aside s s.gateBlock := (modAud s _ id id).trans (bump _ _)

theorem gate (b : CaptureBlock) : Aside s (s.gate b) := by
  unfold State.gate
  dsimp only
  split
  · exact queueBlock s b false
  · split
    · split
      · exact (((modAud s _ id id).trans (queueBlock _ b true)).trans (raise _ _)).trans (bump _ _)
      · exact (modAud s _ id id).trans (gateBlock _)
    · exact (modAud s _ id id).trans (gateBlock _)
  · split
    · exact (modAud s _ id id).trans (queueBlock _ b false)
    · split
      · exact (modAud s _ id id).trans (queueBlock _ b false)
      · exact ((queueBlock s b false).trans (modAud _ _ id id)).trans (raise _ _)

theorem completeBlock (g : Forming) : Aside s (s.completeBlock g) := by
  unfold State.completeBlock
  dsimp only
  split
  · exact ((modAud s _ id id).trans (bump _ _)).trans (gate _ _)
  · exact (modAud s _ id id).trans (gate _ _)

theorem capture (m1 m2 : Int) : Aside s (s.capture m1 m2) := by
  unfold State.capture
  split
  · dsimp only
    split
    · exact refl s
    · split
      · exact completeBlock s _
      · exact modAud s _ id id
  · exact refl s

theorem setGate (b : Bool) : Aside s (s.setGate b) := by
  unfold State.setGate
  split
  · exact modAud s _ id id
  · exact (modAud s _ id id).trans (raise _ _)
  · exact modAud s _ id id
  · exact refl s

theorem takeCapture (c : CaptureArgs) : Aside s (s.takeCapture c) := by
  unfold State.takeCapture
  dsimp only
  split
  · exact ((modAud s _ id id).trans (stopCapture _)).trans (setGate _ _)
  · exact (modAud s _ id id).trans (setGate _ _)

/-! ### Requests and arrivals (R198 to R203) -/

theorem reply (k : Byte) (p : Port) (tag : Byte) (x : Status) (v : List Byte) (r : MessageRole) :
    Aside s (s.reply k p tag x v r) := by
  unfold State.reply
  exact (modCmu s _ fun h => by rw [length_markComplete]; exact h).trans (place _ p r _)

theorem release (p : Port) : Aside s (s.release p) := by
  have dropped := modCmu s (fun c => { c with queue := c.queue.filter (fun e => e.port != p || e.complete) })
    (Nat.le_trans (List.length_filter_le _ _))
  unfold State.release
  exact (((dropped.trans (setOut _ p _)).trans (modNtu _ _)).trans (modCmu _ _ id)).trans (attend _)

theorem roleTaken : Aside s s.roleTaken := by
  unfold State.roleTaken
  dsimp only
  split
  · exact ((raise s _).trans (noticeDue _)).trans (attend _)
  · exact (raise s _).trans (attend _)

theorem attachTo (p : Port) : Aside s (attachTo p s).state := by
  unfold Machine.attachTo
  split
  · exact modCmu s (fun c => { c with role := some p }) id
  · split <;> exact refl s

/-- R200: a request finds room in the command queue, or is lost. -/
theorem arrive (p : Port) (b : List Byte) : Aside s (s.arrive p b) := by
  unfold State.arrive
  split
  · exact (bump s _).trans (raise _ _)
  next h =>
    exact modCmu s _ fun _ => by
      rw [List.length_append]
      exact Nat.not_le.1 h

theorem hunt (late : Bool) (n : Nat) (rx : List Byte) : Aside s (s.hunt late n rx) := by
  induction n generalizing s rx with
  | zero => exact modCmu s _ id
  | succ n ih =>
    cases rx with
    | nil => exact modCmu s _ id
    | cons b bs =>
      unfold State.hunt
      split
      · exact ih s bs
      · split
        · exact (arrive s _ _).trans (ih _ _)
        · exact (bump s _).trans (ih _ _)
        · split
          · exact (bump s _).trans (ih _ _)
          · exact modCmu s _ id

theorem timeOutBytes : Aside s s.timeOutBytes := by
  unfold State.timeOutBytes
  split
  · exact hunt s _ _ _
  · exact refl s

theorem hearBytes (b : List Byte) : Aside s (s.hearBytes b) := (modCmu s _ id).trans (hunt _ _ _ _)

theorem replyLeft (p : Port) : Aside s (s.replyLeft p) := modCmu s _ (Nat.le_trans List.eraseP_sublist.length_le)

theorem dueFor (cs : List Condition) : Aside s (s.dueFor cs) := foldl s _ (fun s _ => noticeDue s) cs

theorem clearSet (c : CondSet) (m : BitVec 16) : Aside s (s.clearSet c m) := (modNtu s _).trans (attend _)

theorem holdoffExpires : Aside s s.holdoffExpires := by
  unfold State.holdoffExpires
  dsimp only
  split
  · exact (modNtu s _).trans (issue _)
  · exact modNtu s _

/-! ### Procedures (R169 to R182) -/

theorem load (b : Bool) : Aside s (s.load b) := modPmg s _ rfl rfl

theorem work (w : Work) : Aside s (s.work w) := modPrr s _

theorem accept (a : StartArgs) : Aside s (s.accept a) := (modPrr s _).trans (bump _ _)

theorem hold (t : Targets) (tick : Nat) : Aside s (s.hold t tick) := foldl s _ (fun s x => modImu s x _ rfl) _

theorem unhold (t : Targets) : Aside s (s.unhold t) := foldl s _ (fun s x => modImu s x _ rfl) _

theorem startCheck (a : StartArgs) : Aside s (s.startCheck a) := by
  unfold State.startCheck
  cases a with
  | biasCal t d n =>
    dsimp only
    split
    · exact refl s
    · exact endProc s _ _
  | cableMeasure =>
    dsimp only
    split
    · exact refl s
    · exact endProc s _ _
  | sensorSync t =>
    dsimp only
    split
    · exact hold s t _
    · exact endProc s _ _
  | writeStore =>
    dsimp only
    split
    · exact modCmu s _ id
    · exact endProc s _ _

theorem stopWork (w : Work) : Aside s (s.stopWork w) := by
  cases w with
  | biasCal _ _ _ _ _ => exact refl s
  | store _ _ => exact refl s
  | cable _ _ _ _ _ _ _ => exact load s false
  | sync t _ => exact unhold s t

theorem writeBias (x : Sensor) (c : Collection) : Aside s (s.writeBias x c) := by
  cases x <;> exact modOin s _ id

theorem judgeBias (t : Targets) (n : Nat) (a b : Collection) : Aside s (s.judgeBias t n a b) := by
  unfold State.judgeBias
  dsimp only
  split
  · exact endProc s _ _
  · split
    · exact endProc s _ _
    · exact (foldl s _ (fun s x => writeBias s x _) _).trans (endProc _ _ _)

theorem cableEnd (v1 i1 v2 i2 v3 i3 : Nat) : Aside s (s.cableEnd v1 i1 v2 i2 v3 i3) := by
  unfold State.cableEnd
  dsimp only
  split
  · exact endProc s _ _
  · exact (modPmg s _ rfl rfl).trans (endProc _ _ _)

theorem cableStep (m : Measurement) : Aside s (s.cableStep m) := by
  unfold State.cableStep
  split
  · split
    · exact (load s false).trans (endProc _ _ _)
    · dsimp only
      split
      · exact (work s _).trans (load _ _)
      · split
        · exact (work s _).trans (load _ _)
        · split
          · exact cableEnd s _ _ _ _ _ _
          · exact work s _
  · exact refl s

/-! ### Pictures (R74 to R104) -/

theorem modSlots (f : Slots → Slots) : Aside s (s.modSlots f) := modFst s _ rfl

theorem abandon : Aside s s.abandon := by
  unfold State.abandon
  split
  · exact ((modSlots s _).trans (bump _ _)).trans (raise _ _)
  · exact refl s

theorem frameBegin (b : Option FrameBegin) : Aside s (s.frameBegin b) := by
  unfold State.frameBegin
  split
  · exact (bump s _).trans (raise _ _)
  · split
    · exact (bump s _).trans (raise _ _)
    · exact ((abandon s).trans (modFst _ _ rfl)).trans (bump _ _)

theorem lines (b : Option LinesBlock) : Aside s (s.lines b) := by
  unfold State.lines
  split
  · exact bump s _
  · split
    · split
      · exact bump s _
      · exact modSlots s _
    · exact bump s _

theorem frameEnd (b : Option FrameNo) : Aside s (s.frameEnd b) := by
  unfold State.frameEnd
  split
  · exact bump s _
  · split
    · exact bump s _
    · split
      · exact (modSlots s _).trans (bump _ _)
      · exact abandon s

theorem dropFrames (n : Nat) : Aside s (s.dropFrames n) := by
  unfold State.dropFrames
  split
  · exact refl s
  · exact (addCount s _ _).trans (raise _ _)

theorem countZeroed (b : ShiftBasis) : Aside s (s.countZeroed b) := by
  unfold State.countZeroed
  split
  · exact bump s _
  · exact bump s _
  · exact refl s

theorem lateShift : Aside s s.lateShift := by
  unfold State.lateShift
  split
  · exact refl s
  next t _ =>
    have counted := (((countZeroed s (s.shiftBasis t)).trans (modSou _ (fun x =>
      { x with left := s.eyeShift .left t, right := s.eyeShift .right t }) rfl)).trans
      (addCount _ .leadsClamped (howMany (s.eyeShift .left t).leadClamped (s.eyeShift .right t).leadClamped))).trans
      (addCount _ .shiftsClamped (howMany (s.eyeShift .left t).clamped (s.eyeShift .right t).clamped))
    dsimp only
    split
    · exact (counted.trans (modSlots _ _)).trans (raise _ _)
    · exact counted

theorem takeBlank : Aside s s.takeBlank := (bump s _).trans (modSou _ _ rfl)

theorem copyAtBlank : Aside s s.copyAtBlank := by
  unfold State.copyAtBlank
  exact (addCount s _ _).trans (modIlg _ _ rfl)

theorem freeShown : Aside s s.freeShown := (modSlots s _).trans (dropFrames _ _)

/-! ### Power and link (R1 to R25, R146 to R149) -/

theorem formBudget : Aside s s.formBudget := modPmg s _ rfl rfl

theorem capGain : Aside s s.capGain := modAud s _ id id

theorem judgePower (m : Measurement) : Aside s (s.judgePower m) := (follow s _ _).trans (follow _ _ _)

/-- R208: the link step leaves DOWN. -/
theorem linkStep : Aside s s.linkStep := by
  unfold State.linkStep
  split
  next h =>
    obtain ⟨_, _, hdown⟩ := h
    exact moveLink s _ (by rw [hdown]; exact Link.noConfusion) Link.noConfusion
  · exact refl s

theorem forgetSleep : Aside s s.forgetSleep := (modTlc s _ rfl).trans (modCmu _ _ id)

theorem leaveActive : Aside s s.leaveActive := ((modCmu s _ id).trans (modTlc _ _ rfl)).trans (forgetSleep _)

theorem enterActive (c : Channel) (n : Nat) (h : s.tlc.link ≠ .sleep) : Aside s (s.enterActive c n) :=
  moveLink s _ h Link.noConfusion

theorem enterDown (h : s.tlc.link ≠ .sleep) : Aside s s.enterDown := by
  have down := (((moveLink s (fun t => { t with link := .down (some (s.lt + Config.retryInterval)) }) h
    Link.noConfusion).trans (raise _ .linkDown)).trans (bump _ .linkDownEntries)).trans (abandon _)
  unfold State.enterDown
  dsimp only
  split
  · exact (down.trans (release _ _)).trans (formBudget _)
  · exact down.trans (formBudget _)

theorem trainingFails : Aside s s.trainingFails := by
  unfold State.trainingFails
  split
  next n b a hl =>
    have awake : (s.bump .trainingFailures).tlc.link ≠ .sleep := by rw [State.bump_tlc, hl]; exact Link.noConfusion
    dsimp only
    split
    · exact (bump s _).trans (moveLink _ _ awake Link.noConfusion)
    · exact (bump s _).trans (enterDown _ awake)
  · exact refl s

theorem retrainFails : Aside s s.retrainFails := by
  unfold State.retrainFails
  split
  next c n b hl =>
    have awake : (s.bump .trainingFailures).tlc.link ≠ .sleep := by rw [State.bump_tlc, hl]; exact Link.noConfusion
    dsimp only
    split
    · exact (bump s _).trans (moveLink _ _ awake Link.noConfusion)
    · split
      · exact (((bump s _).trans (moveLink _ _ awake Link.noConfusion)).trans (raise _ _)).trans (bump _ _)
      · exact (bump s _).trans (enterDown _ awake)
  · exact refl s

theorem moveOffset (e : Int) : Aside s (s.moveOffset e) := by
  unfold State.moveOffset
  split
  · exact refl s
  · split
    · exact modTlc s _ rfl
    · exact ((modTlc s _ rfl).trans (raise _ _)).trans (bump _ _)

theorem lockBasis : Aside s s.lockBasis := (modTlc s _ rfl).trans (lower _ _)

theorem takeBeat : Aside s s.takeBeat := by
  unfold State.takeBeat
  dsimp only
  split
  · exact ((bump s _).trans (modTlc _ _ rfl)).trans (opportunity _)
  · exact (modTlc s _ rfl).trans (opportunity _)

end Aside
end Sys2Proof.Machine
end

section
/-!
The operations by which one of the readers acts: the output (R118), scan-out (R82) and the IMUs (R29 to R35), each with what it
leaves to the other two and what it establishes; then what moves them: the rails, the shed level, the supply states, and the
entries into SLEEP and RESTART, which are `Follows`.
-/

namespace Sys2Proof.Machine

/-- Everything but the dark causes and the output is as it was. -/
structure SameButOutput (s t : State) : Prop extends Fits s t, SameScan s t, SameMotion s t

/-- The same, and the output follows the dark causes if it did. -/
structure Judged (s t : State) : Prop extends SameButOutput s t where
  dark : s.darkSound → t.darkSound

/-- Everything but the state of scan-out is as it was, and the output follows. -/
structure SameButScan (s t : State) : Prop extends Fits s t, SameMotion s t where
  dark : s.darkSound → t.darkSound
  panels : t.panelsOn = s.panelsOn

/-- Everything but the states of the IMUs and their reads is as it was. -/
structure SameButMotion (s t : State) : Prop extends Fits s t, SameDark s t, SameScan s t where
  enabled : t.imuEnabled = s.imuEnabled

/-- R29, R35, R82, R118, 4.5: what held of the queues, the counters, the output, scan-out and the IMUs holds. -/
structure Follows (s t : State) : Prop extends Fits s t where
  dark : s.darkSound → t.darkSound
  scan : s.scanSound → t.scanSound
  motion : s.motionSound → t.motionSound

section
variable {s t u : State}

theorem SameButOutput.trans (h : SameButOutput s t) (g : SameButOutput t u) : SameButOutput s u :=
  ⟨h.toFits.trans g.toFits, h.toSameScan.trans g.toSameScan, h.toSameMotion.trans g.toSameMotion⟩

theorem Judged.trans (h : Judged s t) (g : Judged t u) : Judged s u :=
  ⟨h.toSameButOutput.trans g.toSameButOutput, g.dark ∘ h.dark⟩

theorem SameButScan.trans (h : SameButScan s t) (g : SameButScan t u) : SameButScan s u :=
  ⟨h.toFits.trans g.toFits, h.toSameMotion.trans g.toSameMotion, g.dark ∘ h.dark, g.panels.trans h.panels⟩

theorem SameButMotion.trans (h : SameButMotion s t) (g : SameButMotion t u) : SameButMotion s u :=
  ⟨h.toFits.trans g.toFits, h.toSameDark.trans g.toSameDark, h.toSameScan.trans g.toSameScan,
    g.enabled.trans h.enabled⟩

theorem Follows.trans (h : Follows s t) (g : Follows t u) : Follows s u :=
  ⟨h.toFits.trans g.toFits, g.dark ∘ h.dark, g.scan ∘ h.scan, g.motion ∘ h.motion⟩

theorem Aside.but_output (h : Aside s t) : SameButOutput s t := ⟨h.toFits, h.toSameScan, h.toSameMotion⟩

theorem Aside.judged (h : Aside s t) : Judged s t := ⟨h.but_output, h.darkSound⟩

theorem Aside.but_motion (h : Aside s t) : SameButMotion s t := ⟨h.toFits, h.toSameDark, h.toSameScan, h.enabled⟩

theorem Judged.follows (h : Judged s t) : Follows s t := ⟨h.toFits, h.dark, h.scanSound, h.motionSound⟩

theorem Aside.follows (h : Aside s t) : Follows s t := h.judged.follows

theorem SameButMotion.follows (h : SameButMotion s t) (motion : s.motionSound → t.motionSound) : Follows s t :=
  ⟨h.toFits, h.darkSound, h.scanSound, motion⟩

end

/-! ### The output (R118 to R120) -/

/-- R118: a judgment of the dark causes leaves the output following them. -/
theorem judgeDark_darkSound (s : State) : s.judgeDark.darkSound := by
  unfold State.judgeDark State.darkSound
  split
  next clear =>
    have none : s.darkCauses = [] := List.isEmpty_iff.1 clear
    split
    · exact iff_of_false Output.noConfusion (fun h => h none)
    next lit => exact iff_of_false lit (fun h => h none)
  next holds =>
    have some : s.darkCauses ≠ [] := fun e => holds (List.isEmpty_iff.2 e)
    split
    next dark => exact iff_of_true dark some
    · exact iff_of_true rfl some

namespace SameButOutput
variable (s : State)

theorem modIlg (f : Ilg → Ilg) : SameButOutput s (s.modIlg f) := ⟨⟨id, id⟩, ⟨rfl, .rfl⟩, ⟨rfl, fun _ => rfl, fun _ => id⟩⟩

theorem modFst (f : Fst → Fst) : SameButOutput s (s.modFst f) := ⟨⟨id, id⟩, ⟨rfl, .rfl⟩, ⟨rfl, fun _ => rfl, fun _ => id⟩⟩

theorem modSou (f : Sou → Sou) (h : (f s.sou).scanOut = .off ↔ s.sou.scanOut = .off) : SameButOutput s (s.modSou f) :=
  ⟨⟨id, id⟩, ⟨rfl, h⟩, ⟨rfl, fun _ => rfl, fun _ => id⟩⟩

theorem modPmg (f : Pmg → Pmg) (hr : (f s.pmg).rails = s.pmg.rails) : SameButOutput s (s.modPmg f) :=
  ⟨⟨id, id⟩, ⟨by simp only [State.panelsOn, State.modPmg_pmg, hr]; rfl, .rfl⟩,
    ⟨by simp only [State.imuEnabled, State.modPmg_pmg, hr]; rfl, fun _ => rfl, fun _ => id⟩⟩

theorem setWear (f : Msu → Msu) (hq : (f s.msu).queue = s.msu.queue)
    (hs : ∀ x, ((f s.msu).imu x).state = (s.msu.imu x).state)
    (hb : ∀ x, (f s.msu).busy x = true → s.msu.busy x = true) : SameButOutput s (s.modMsu f) :=
  ⟨⟨fun ⟨a, b, c, d, e⟩ => ⟨by rw [State.modMsu_msu, hq]; exact a, b, c, d, e⟩, id⟩, ⟨rfl, .rfl⟩, ⟨rfl, hs, hb⟩⟩

theorem judgeDark : SameButOutput s s.judgeDark := by
  have entered := ((Aside.addCount s .illumPulsesCut s.ilg.litCount).trans (.bump _ .illumDarkEntries)).but_output.trans
    (modIlg _ fun g => { g with output := .dark, phaseLeft := .over, phaseRight := .over })
  unfold State.judgeDark
  split
  · split
    · exact modIlg s _
    · exact (Aside.refl s).but_output
  · split
    · exact (Aside.refl s).but_output
    · exact entered

/-- R118: after any change, a judgment of the dark causes makes up for what the change did to them. -/
theorem judge {s t : State} (h : SameButOutput s t) : Judged s t.judgeDark :=
  ⟨h.trans (judgeDark t), fun _ => judgeDark_darkSound t⟩

end SameButOutput

namespace Judged
variable (s : State)

theorem judgeDark : Judged s s.judgeDark := (Aside.refl s).but_output.judge

theorem changeWear (w : Wear) : Judged s (s.changeWear w) :=
  ((SameButOutput.setWear s _ rfl (fun _ => rfl) (fun _ => id)).trans ((Aside.bump _ _).trans (.raise _ _)).but_output).judge

theorem awayExpires : Judged s s.awayExpires := by
  unfold State.awayExpires
  split
  · exact changeWear s _
  · exact (Aside.refl s).judged

theorem judgeWear : Judged s s.judgeWear := by
  unfold State.judgeWear
  split
  · exact changeWear s _
  · split
    · exact changeWear s _
    · exact (Aside.refl s).judged

/-- R42: a reading moves the two counts alone. -/
theorem classify_eq (m : Msu) (r : Nat) : m.classify r = { m with
    wornCount := (m.classify r).wornCount, removedCount := (m.classify r).removedCount } := by
  unfold Msu.classify
  repeat' split
  all_goals rfl

theorem wearRead (r : WearResult) : Judged s (s.wearRead r) := by
  cases r with
  | failed =>
    have ended := (Aside.modMsu s (fun m => { m with wearBusy := false, wearFails := m.wearFails + 1 }) id rfl
      (fun _ => rfl) (fun _ => id)).trans
      (.bump _ .wearReadFailures)
    unfold State.wearRead
    dsimp only
    split
    · exact ended.judged.trans (changeWear _ _)
    · exact ended.judged
  | succeeded r =>
    exact (Aside.modMsu s _ (by rw [classify_eq]; exact id) (by rw [classify_eq]) (fun x => by rw [classify_eq]; rfl)
      fun x h => by rw [classify_eq] at h; exact h).judged.trans (judgeWear _)

theorem wearStops : Judged s s.wearStops := by
  have stopped := Aside.modMsu s (fun m =>
    { m with wornCount := 0, removedCount := 0, wearFails := 0, wearReading := none, wearBusy := false })
    id rfl (fun _ => rfl) (fun _ => id)
  unfold State.wearStops
  dsimp only
  split
  · exact stopped.judged.trans (changeWear _ _)
  · exact stopped.judged

/-! ### Shed levels (R150 to R153) -/

theorem setLevel (l : Level) : Judged s (s.setLevel l) :=
  (SameButOutput.modPmg s _ rfl).judge.trans ((Aside.capGain _).trans (.reformSync _ _)).judged

theorem changeLevel (l : Level) : Judged s (s.changeLevel l) := by
  unfold State.changeLevel
  split
  · exact (Aside.refl s).judged
  · exact (setLevel s l).trans ((Aside.raise _ _).trans (.bump _ _)).judged

theorem jump : Judged s s.jump := by
  unfold State.jump
  split
  · exact (Aside.modPmg s _ rfl rfl).judged
  · exact (changeLevel s _).trans (Aside.bump _ _).judged

theorem riseTest (m : Measurement) : Judged s (s.riseTest m) := by
  have counted := (Aside.modPmg s (fun p => { p with rise := if callsRise p m then min 3 (p.rise + 1) else 0 }) rfl rfl).judged
  unfold State.riseTest
  dsimp only
  split
  · split
    · exact (counted.trans (changeLevel _ _)).trans (Aside.bump _ _).judged
    · exact counted
  · exact counted

theorem fallTest (m : Measurement) : Judged s (s.fallTest m) := by
  have counted := (Aside.modPmg s (fun p => { p with fall := if callsFall p m then min 200 (p.fall + 1) else 0 }) rfl rfl).judged
  unfold State.fallTest
  dsimp only
  split
  · split
    · exact (counted.trans (changeLevel _ _)).trans (Aside.bump _ _).judged
    · exact counted
  · exact counted

theorem shed (m : Measurement) : Judged s (s.shed m) := by
  unfold State.shed
  split
  · exact (Aside.refl s).judged
  · split
    · exact jump s
    · exact (riseTest s m).trans (fallTest _ m)

/-! ### Blank starts and profiles (R72, R84 to R88, R120) -/

theorem selectFrame (h : s.sou.scanOut ≠ .off) : SameButOutput s s.selectFrame := by
  have scans (t : State) (ht : t.sou.scanOut ≠ .off) (x : ScanOut) (hx : x ≠ .off) (f : Sou → Sou)
      (hf : (f t.sou).scanOut = x) : SameButOutput t (t.modSou f) :=
    SameButOutput.modSou t f (iff_of_false (by rw [hf]; exact hx) ht)
  unfold State.selectFrame
  split
  next k _ =>
    have shown := (((Aside.modSlots s (fun q => q.selected k)).trans (.bump _ .framesShown)).trans
      (.dropFrames _ (s.fst.slots.count .ready - 1)))
    exact (shown.but_output.trans (scans _ (mt shown.off.1 h) .scanning ScanOut.noConfusion _ rfl)).trans
      (Aside.lateShift _).but_output
  · split
    · have shown := ((Aside.modSlots s Slots.repeated).trans (.bump _ .frameRepeats)).trans (.raise _ .repeat)
      exact (shown.but_output.trans (scans _ (mt shown.off.1 h) .scanning ScanOut.noConfusion _ rfl)).trans
        (Aside.lateShift _).but_output
    · exact scans s h .idle ScanOut.noConfusion _ rfl

theorem outputAtBlank {s t : State} (h : SameButOutput s t) : Judged s t.outputAtBlank := by
  unfold State.outputAtBlank
  split
  next clear =>
    refine ⟨h.trans (SameButOutput.modIlg t _), fun _ => iff_of_false Output.noConfusion fun h => h ?_⟩
    exact List.isEmpty_iff.1 clear
  · exact h.judge.trans (Aside.modIlg _ _ rfl).judged

theorem restartScan : SameButOutput s s.restartScan := by
  unfold State.restartScan
  split
  · exact (Aside.refl s).but_output
  next h =>
    exact (SameButOutput.modSou s _ (iff_of_false ScanOut.noConfusion h)).trans (Aside.modSou _ _ rfl).but_output

/-- R72: SET_PROFILE judges the dark causes when all is done. -/
theorem setProfile (q : List Byte) : Judged s (setProfile q s).state := by
  unfold Machine.setProfile
  split
  · exact (Aside.refl s).judged
  · exact (((SameButOutput.modFst s _).trans ((Aside.abandon _).trans (.freeShown _)).but_output).trans
      (restartScan _)).judge

/-- R207: the load ends with a judgment of the dark causes. -/
theorem endLoad (x : StoreState) (v : Loaded) : Judged s (s.endLoad x v) := by
  have loaded : SameButOutput s (s.takeLoaded v) := ⟨⟨id, id⟩, ⟨rfl, .rfl⟩, ⟨rfl, fun _ => rfl, fun _ => id⟩⟩
  have judged := (loaded.trans (((Aside.reformSync _ s.period).trans (.takeCapture _ v.capture)).trans
    (.modCmu _ (fun c => { c with storeState := x }) id)).but_output).judge.trans (Aside.attend _).judged
  unfold State.endLoad
  dsimp only
  split
  · exact judged.trans (Aside.linkStep _).judged
  · exact judged.trans ((Aside.raise _ _).trans (.linkStep _)).judged

end Judged

/-! ### Scan-out (R82) -/

namespace SameButScan
variable (s : State)

theorem scanOff : SameButScan s s.scanOff := by
  have entered (f : Sou → Sou) : SameButScan s (s.modSou f).judgeDark := by
    have judged := SameButOutput.judgeDark (s.modSou f)
    exact ⟨⟨judged.capacity, judged.counters⟩, ⟨judged.enabled, judged.state, judged.busy⟩,
      fun _ => judgeDark_darkSound _, judged.panels⟩
  unfold State.scanOff
  split
  · exact ⟨⟨id, id⟩, (Aside.refl s).toSameMotion, id, rfl⟩
  · exact entered _

/-- R82: scan-out enters IDLE, in which it is dark as in OFF. -/
theorem scanStart : SameButScan s s.scanStart := by
  unfold State.scanStart
  split
  next h =>
    obtain ⟨off, _⟩ := h
    refine ⟨⟨id, id⟩, ⟨rfl, fun _ => rfl, fun _ => id⟩, SameDark.darkSound ⟨fun c => ?_, rfl⟩, rfl⟩
    cases c with
    | scan => simp only [State.causeHolds, State.modSou_sou, off]; rfl
    | _ => rfl
  · exact ⟨⟨id, id⟩, (Aside.refl s).toSameMotion, id, rfl⟩

end SameButScan

theorem scanOff_scanSound {s : State} (h : s.panelsOn = false) : s.scanOff.scanSound :=
  iff_of_true (scanOff_off s) ((SameButScan.scanOff s).panels.trans h)

theorem scanStart_scanSound {s : State} (h : s.panelsOn = false → s.sou.scanOut = .off) : s.scanStart.scanSound := by
  refine Iff.trans ?_ (by rw [(SameButScan.scanStart s).panels])
  unfold State.scanStart
  split
  next on =>
    obtain ⟨_, panels⟩ := on
    exact iff_of_false ScanOut.noConfusion (by rw [panels]; exact Bool.noConfusion)
  next closed =>
    refine ⟨fun off => ?_, h⟩
    by_contra panels
    exact closed ⟨off, Bool.not_eq_false _ ▸ panels⟩

/-! ### The IMUs (R29 to R35) -/

theorem failover_msu (s : State) : s.failover.msu = s.msu := by simp [State.failover, State.bind]

theorem primaryFails_msu (s : State) : s.primaryFails.msu = s.msu := by
  unfold State.primaryFails
  split
  · exact failover_msu s
  · rfl

theorem primaryLeft_msu (s : State) (x : Sensor) : (s.primaryLeft x).msu = s.msu := by
  unfold State.primaryLeft
  split <;> rfl

theorem reportRunning_msu (s : State) (x : Sensor) : (s.reportRunning x).msu = s.msu := by
  unfold State.reportRunning
  split
  · rfl
  · split
    · exact failover_msu s
    · rfl

theorem reportFault_msu (s : State) (x : Sensor) : (s.reportFault x).msu = s.msu := by
  unfold State.reportFault
  split
  · rw [primaryFails_msu, primaryLeft_msu]
  · rfl

/-- R32: an entry into FAULT moves the IMU alone in the MSU. -/
theorem enterFault_msu (s : State) (x : Sensor) :
    (s.enterFault x).msu = (s.modImu x fun i => i.toFault (s.lt + Config.imuRetry)).msu := by
  unfold State.enterFault
  dsimp only
  split <;> simp [targetLeft_msu, reportFault_msu]

/-- R30: an entry into RUNNING moves the IMU alone in the MSU. -/
theorem enterRunning_msu (s : State) (x : Sensor) :
    (s.enterRunning x).msu = (s.modImu x fun i => { i with state := .running, faultHeld := false }).msu := by
  simp [State.enterRunning, reportRunning_msu]

theorem imu_modImu_of_ne (s : State) {x y : Sensor} (f : Imu → Imu) (h : y ≠ x) :
    (s.modImu x f).msu.imu y = s.msu.imu y := by
  match x, y with
  | .a, .b | .b, .a => rfl
  | .a, .a | .b, .b => exact absurd rfl h

theorem busy_modImu (s : State) (x y : Sensor) (f : Imu → Imu) : (s.modImu x f).msu.busy y = s.msu.busy y := by
  cases x <;> rfl

/-- R29, R35: an IMU that is not OFF takes another state that is not OFF; one that is being read goes on RUNNING. -/
theorem motionSound_of_modImu {s t : State} {x : Sensor} {f : Imu → Imu} (hm : t.msu = (s.modImu x f).msu)
    (he : t.imuEnabled = s.imuEnabled) (hs : (s.msu.imu x).state ≠ .off) (hf : (f (s.msu.imu x)).state ≠ .off)
    (hb : s.msu.busy x = false ∨ (f (s.msu.imu x)).state = .running) : s.motionSound → t.motionSound := fun ⟨imus, reads⟩ => by
  refine ⟨fun y => ?_, fun y busy => ?_⟩
  · rw [hm, he]
    by_cases h : y = x
    · subst h
      rw [ReaderStep.imu_modImu]
      exact iff_of_false hf (mt (imus y).2 hs)
    · rw [imu_modImu_of_ne s f h]
      exact imus y
  · rw [hm, busy_modImu] at busy
    rw [hm]
    by_cases h : y = x
    · subst h
      rw [ReaderStep.imu_modImu]
      exact hb.resolve_left (by rw [busy]; exact Bool.noConfusion)
    · rw [imu_modImu_of_ne s f h]
      exact reads y busy

namespace SameButMotion
variable (s : State)

theorem modMsu (f : Msu → Msu) (hq : (f s.msu).queue = s.msu.queue)
    (hw : (f s.msu).wear = s.msu.wear) : SameButMotion s (s.modMsu f) :=
  ⟨⟨fun ⟨a, b, c, d, e⟩ => ⟨by rw [State.modMsu_msu, hq]; exact a, b, c, d, e⟩, id⟩,
    ⟨causeHolds_congr rfl rfl rfl hw rfl, rfl⟩, ⟨rfl, .rfl⟩, rfl⟩

theorem modImu (x : Sensor) (f : Imu → Imu) : SameButMotion s (s.modImu x f) := by
  cases x <;> exact modMsu s _ rfl rfl

theorem enterStarting (x : Sensor) : SameButMotion s (s.enterStarting x) := modImu s x _

theorem startImu (x : Sensor) : SameButMotion s (s.startImu x) := by
  unfold State.startImu
  split
  · exact enterStarting s x
  · exact (Aside.refl s).but_motion

theorem startImus : SameButMotion s s.startImus := (startImu s .a).trans (startImu _ .b)

theorem enterRunning (x : Sensor) : SameButMotion s (s.enterRunning x) :=
  (modImu s x _).trans ((Aside.lower _ _).trans (.reportRunning _ x)).but_motion

theorem enterFault (x : Sensor) : SameButMotion s (s.enterFault x) := by
  have told := (modImu s x fun i => i.toFault (s.lt + Config.imuRetry)).trans
    (((Aside.bump _ (imuFaults x)).trans (.raise _ (imuFault x))).trans (.reportFault _ x)).but_motion
  unfold State.enterFault
  dsimp only
  split
  · exact told.trans (Aside.targetLeft _ x).but_motion
  · exact told

theorem enterOff (x : Sensor) : SameButMotion s (s.enterOff x) := by
  have told := (modImu s x Imu.toOff).trans ((Aside.lower _ (imuFault x)).trans (.reportOff _ x)).but_motion
  unfold State.enterOff
  split
  · exact (Aside.refl s).but_motion
  · dsimp only
    split
    · exact told.trans (Aside.targetLeft _ x).but_motion
    · exact told

theorem imusOff : SameButMotion s s.imusOff :=
  (((modMsu s _ rfl rfl).trans (Aside.completeTicks _).but_motion).trans (enterOff _ .a)).trans (enterOff _ .b)

end SameButMotion

/-- R28, R35: after the read with a sensor has ended, it is being read no more, and others are read as before. -/
theorem busy_endRead {m : Msu} {x y : Sensor} {st : ReadStatus} (h : st ≠ .inProgress)
    (hb : ({ m with ticks := m.ticks.map (Tick.endRead x st) } : Msu).busy y = true) : y ≠ x ∧ m.busy y = true := by
  simp only [Msu.busy, List.any_eq_true, List.mem_map, Bool.and_eq_true, beq_iff_eq] at hb ⊢
  obtain ⟨_, ⟨t, ht, rfl⟩, _, ended, hy, hp⟩ := hb
  obtain ⟨r, hr, rfl⟩ := List.mem_map.1 ended
  split at hy
  next ended =>
    rw [if_pos ended] at hp
    exact absurd hp h
  next going =>
    rw [if_neg going] at hp
    exact ⟨fun e => going ⟨hy.trans e, hp⟩, t, ht, r, hr, hy, hp⟩

/-- R29: with both IMUs OFF no read is in progress. -/
theorem imusOff_busy (s : State) (x : Sensor) : s.imusOff.msu.busy x = false := by
  have discarded : (s.modMsu fun m =>
      { m with ticks := m.ticks.map fun t => (t.endRead .a .discarded).endRead .b .discarded }).msu.busy x = false := by
    rw [Bool.eq_false_iff]
    intro busy
    rw [State.modMsu_msu, ← Function.comp_def, ← List.map_map] at busy
    obtain ⟨hb, busy⟩ := busy_endRead (m := { s.msu with ticks := s.msu.ticks.map (Tick.endRead .a .discarded) })
      ReadStatus.noConfusion busy
    obtain ⟨ha, _⟩ := busy_endRead ReadStatus.noConfusion busy
    cases x
    · exact ha rfl
    · exact hb rfl
  have off (u : State) (y : Sensor) : (u.enterOff y).msu.busy x = u.msu.busy x := by
    rw [enterOff_msu]
    split
    · rfl
    · exact busy_modImu u y x _
  unfold State.imusOff
  dsimp only
  rw [off, off, Bool.eq_false_iff]
  intro busy
  exact Bool.eq_false_iff.1 discarded ((Aside.completeTicks _).busy x busy)

theorem imusOff_motionSound {s : State} (h : s.imuEnabled = false) : s.imusOff.motionSound := by
  obtain ⟨a, b⟩ := imusOff_states s
  refine ⟨fun x => iff_of_true ?_ ((SameButMotion.imusOff s).enabled.trans h), fun x hb => ?_⟩
  · cases x
    · exact a
    · exact b
  · rw [imusOff_busy] at hb
    exact absurd hb Bool.noConfusion

theorem startImu_state (s : State) (x y : Sensor) : ((s.startImu x).msu.imu y).state =
    if y = x ∧ s.imuEnabled = true ∧ (s.msu.imu x).state = .off then .starting .reset s.lt
    else (s.msu.imu y).state := by
  unfold State.startImu State.enterStarting
  by_cases e : y = x <;> by_cases on : s.imuEnabled = true ∧ (s.msu.imu x).state = .off <;>
    simp [e, on, imu_modImu_of_ne, ReaderStep.imu_modImu]

/-- R29: each enabled IMU that is OFF starts. -/
theorem startImus_state (s : State) (x : Sensor) : (s.startImus.msu.imu x).state =
    if s.imuEnabled = true ∧ (s.msu.imu x).state = .off then .starting .reset s.lt else (s.msu.imu x).state := by
  have lt : (s.startImu .a).lt = s.lt := by rw [startImu_rest]
  unfold State.startImus
  rw [startImu_state, (SameButMotion.startImu s .a).enabled, startImu_state, startImu_state, lt]
  cases x <;> simp

theorem startImus_busy (s : State) (x : Sensor) : s.startImus.msu.busy x = s.msu.busy x := by rw [startImus_msu]; rfl

/-- R29: where IMUs are OFF if they are not enabled, those that are enabled start. -/
theorem startImus_motionSound {s : State} (h : s.imuEnabled = false → ∀ x, (s.msu.imu x).state = .off)
    (reads : s.readsSound) : s.startImus.motionSound := by
  refine ⟨fun x => ?_, fun x busy => ?_⟩
  · rw [(SameButMotion.startImus s).enabled, startImus_state]
    cases on : s.imuEnabled with
    | false => exact iff_of_true (h on x) rfl
    | true =>
      refine iff_of_false ?_ Bool.noConfusion
      split
      · exact ImuState.noConfusion
      next going => exact fun off => going ⟨rfl, off⟩
  · rw [startImus_busy] at busy
    have running := reads x busy
    rw [startImus_state, if_neg (by rw [running]; exact fun h => nomatch h.2)]
    exact running

end Sys2Proof.Machine
end

section
/-!
What moves the readers: the rails (R157 to R162), the measurement (R146 to R156), the ticks and the states of the IMUs (R29 to R38),
and the entries into SLEEP and RESTART (R12, R13, R209), all `Follows`.
-/

namespace Sys2Proof.Machine

/-! ### A rail takes a state (R157, R158) -/

/-- R157: a rail takes a state. -/
def State.putRail (s : State) (x : Rail) (st : RailState) : State :=
  s.modPmg fun p => { p with rails := p.rails.set x st }

/-- R158: a rail has taken a state and its condition follows; its readers have still to act. -/
def State.railTaken (s : State) (x : Rail) (st : RailState) : State :=
  (s.putRail x st).followRail x (s.pmg.rails.get x) st

theorem setRail_eq (s : State) (x : Rail) (st : RailState) : s.setRail x st =
    if s.pmg.rails.get x = .on ∧ st ≠ .on then (s.railTaken x st).railLeft x s.captureRuns
    else if st = .on ∧ s.pmg.rails.get x ≠ .on then (s.railTaken x st).railReached x
    else s.railTaken x st := rfl

theorem railTaken_told (s : State) (x : Rail) (st : RailState) : Aside (s.putRail x st) (s.railTaken x st) := by
  unfold State.railTaken State.followRail
  split
  · exact .raise _ _
  · split
    · exact .lower _ _
    · exact .refl _

/-- R157: a rail that was ON and stays ON, or was not and is not, is nothing to its readers. -/
theorem railTaken_aside {s : State} {x : Rail} {st : RailState} (h : s.pmg.rails.get x = .on ↔ st = .on) :
    Aside s (s.railTaken x st) := by
  have on : (st == .on) = (s.pmg.rails.get x == .on) := by
    rw [Bool.eq_iff_iff, beq_iff_eq, beq_iff_eq]
    exact h.symm
  refine Aside.trans (t := s.putRail x st) ⟨⟨id, id⟩, ⟨fun c => ?_, rfl⟩, ⟨?_, .rfl⟩, ⟨?_, fun _ => rfl, fun _ => id⟩⟩
    (railTaken_told s x st)
  · cases x with
    | illum =>
      cases c with
      | rail => exact congrArg (! ·) on
      | _ => rfl
    | _ => rfl
  · cases x with
    | panelL => exact congrArg (fun b => b && s.pmg.rails.panelR == .on && !s.asleep) on
    | panelR => exact congrArg (fun b => s.pmg.rails.panelL == .on && b && !s.asleep) on
    | _ => rfl
  · cases x with
    | sensor => exact congrArg (fun b => b && !s.asleep) on
    | _ => rfl

/-- R82: with a panel rail not ON scan-out may not leave OFF. -/
theorem panelsOn_of_off {s : State} {x : Rail} (hx : x = .panelL ∨ x = .panelR) (h : s.pmg.rails.get x ≠ .on) :
    s.panelsOn = false := by
  have off := beq_eq_false_iff_ne.2 h
  obtain rfl | rfl := hx
  · rw [State.panelsOn, show (s.pmg.rails.panelL == .on) = false from off]
    rfl
  · rw [State.panelsOn, show (s.pmg.rails.panelR == .on) = false from off, Bool.and_false]
    rfl

/-- R29: with SENSOR not ON no IMU is enabled. -/
theorem imuEnabled_of_off {s : State} (h : s.pmg.rails.sensor ≠ .on) : s.imuEnabled = false := by
  rw [State.imuEnabled, beq_eq_false_iff_ne.2 h, Bool.false_and]

theorem railTaken_get (s : State) (x : Rail) (st : RailState) : (s.railTaken x st).pmg.rails.get x = st := by
  have told : (s.railTaken x st).pmg = (s.putRail x st).pmg := by
    unfold State.railTaken State.followRail
    split
    · exact State.raise_pmg _ _
    · split
      · exact State.lower_pmg _ _
      · rfl
  rw [told]
  exact RailStep.get_set_self _ x st

/-! ### Reads (R28, R35) -/

theorem mem_readsOf {m : Msu} {x : Sensor} {t : Nat} {r : Read} (h : r ∈ m.readsOf x t) :
    r.sensor = x ∧ m.startsRead x t = true := by
  unfold Msu.readsOf at h
  split at h
  next starts =>
    rw [List.mem_singleton.1 h]
    exact ⟨rfl, starts⟩
  · exact absurd h List.not_mem_nil

/-- R35: a tick starts reads with RUNNING IMUs alone. -/
theorem running_of_startsRead {m : Msu} {x : Sensor} {t : Nat} (h : m.startsRead x t = true) :
    (m.imu x).state = .running := by
  simp only [Msu.startsRead, Bool.and_eq_true, beq_iff_eq] at h
  obtain ⟨⟨running, _⟩, _⟩ := h
  exact running

/-- R35: after a tick an IMU is being read if it was, or if the tick starts a read with it. -/
theorem busy_takeTick {m : Msu} {x : Sensor} {n : Nat} (h : (m.takeTick n).busy x = true) :
    m.busy x = true ∨ m.startsRead x n = true := by
  obtain ⟨k, hk, hr⟩ := List.any_eq_true.1 h
  by_cases old : k ∈ m.ticks
  · exact .inl (List.any_eq_true.2 ⟨k, old, hr⟩)
  · have new : k = ⟨n, m.readsOf .a n ++ m.readsOf .b n⟩ := by
      simp only [Msu.takeTick] at hk
      split at hk
      · exact absurd hk old
      · exact List.mem_singleton.1 ((List.mem_append.1 hk).resolve_left old)
    subst new
    obtain ⟨r, started, hx⟩ := List.any_eq_true.1 hr
    simp only [Bool.and_eq_true, beq_iff_eq] at hx
    obtain ⟨rfl, _⟩ := hx
    obtain ra | rb := List.mem_append.1 started
    · exact .inr (by rw [(mem_readsOf ra).1]; exact (mem_readsOf ra).2)
    · exact .inr (by rw [(mem_readsOf rb).1]; exact (mem_readsOf rb).2)

theorem endRead_aside (s : State) (x : Sensor) {st : ReadStatus} (h : st ≠ .inProgress) :
    Aside s (s.modMsu fun m => { m with ticks := m.ticks.map (Tick.endRead x st) }) :=
  Aside.modMsu s _ id rfl (fun _ => rfl) fun _ busy => (busy_endRead h busy).2

namespace Follows
variable (s : State)

theorem refl : Follows s s := (Aside.refl s).follows

/-- Steps made one after another. -/
theorem foldl {α : Type} (f : State → α → State) (h : ∀ s a, Follows s (f s a)) (xs : List α) :
    Follows s (xs.foldl f s) := by
  induction xs generalizing s with
  | nil => exact refl s
  | cons x xs ih => exact (h s x).trans (ih _)

/-! ### What the readers of a rail make up for (R29, R46, R82, R118, R131) -/

/-- R29: SENSOR is nothing to the output and to scan-out; what the IMUs do is left to them. -/
theorem sensorTaken {st : RailState} {t : State} (h : SameButMotion (s.railTaken .sensor st) t)
    (motion : s.motionSound → t.motionSound) : Follows s t := by
  have put : Fits s (s.putRail .sensor st) ∧ SameDark s (s.putRail .sensor st) ∧ SameScan s (s.putRail .sensor st) :=
    ⟨⟨id, id⟩, ⟨fun _ => rfl, rfl⟩, ⟨rfl, .rfl⟩⟩
  obtain ⟨fits, dark, scan⟩ := put
  have told := (railTaken_told s .sensor st).but_motion.trans h
  exact ⟨fits.trans told.toFits, (dark.trans told.toSameDark).darkSound, (scan.trans told.toSameScan).scanSound, motion⟩

/-- R82: a panel rail is nothing to the output and to the IMUs; what scan-out does is left to it. -/
theorem panelTaken {x : Rail} (hx : x = .panelL ∨ x = .panelR) {st : RailState} {t : State}
    (h : SameButScan (s.railTaken x st) t) (scan : s.scanSound → t.scanSound) : Follows s t := by
  have put : Fits s (s.putRail x st) ∧ SameDark s (s.putRail x st) ∧ SameMotion s (s.putRail x st) := by
    obtain rfl | rfl := hx <;> exact ⟨⟨id, id⟩, ⟨fun _ => rfl, rfl⟩, ⟨rfl, fun _ => rfl, fun _ => id⟩⟩
  obtain ⟨fits, dark, motion⟩ := put
  have told := railTaken_told s x st
  exact ⟨(fits.trans told.toFits).trans h.toFits, h.dark ∘ (dark.trans told.toSameDark).darkSound, scan,
    ((motion.trans told.toSameMotion).trans h.toSameMotion).motionSound⟩

/-- R118: ILLUM is nothing to scan-out and to the IMUs, and the output judges. -/
theorem illumTaken (st : RailState) : Follows s (s.railTaken .illum st).judgeDark := by
  have put : SameButOutput s (s.putRail .illum st) := ⟨⟨id, id⟩, ⟨rfl, .rfl⟩, ⟨rfl, fun _ => rfl, fun _ => id⟩⟩
  exact (put.trans (railTaken_told s .illum st).but_output).judge.follows

/-- R131: AUDIO is nothing to any of them. -/
theorem audioTaken (st : RailState) : Aside s (s.railTaken .audio st) :=
  Aside.trans (t := s.putRail .audio st) ⟨⟨id, id⟩, ⟨fun _ => rfl, rfl⟩, ⟨rfl, .rfl⟩, ⟨rfl, fun _ => rfl, fun _ => id⟩⟩
    (railTaken_told s .audio st)

theorem railLeft {x : Rail} {st : RailState} (h : st ≠ .on) (b : Bool) : Follows s ((s.railTaken x st).railLeft x b) := by
  have off : (s.railTaken x st).pmg.rails.get x ≠ .on := by rw [railTaken_get]; exact h
  have panel (hx : x = .panelL ∨ x = .panelR) : Follows s (s.railTaken x st).scanOff :=
    panelTaken s hx (.scanOff _) fun _ => scanOff_scanSound (panelsOn_of_off hx off)
  cases x with
  | sensor =>
    exact (sensorTaken s (.imusOff _) fun _ => imusOff_motionSound (imuEnabled_of_off off)).trans
      (Judged.wearStops _).follows
  | audio =>
    have stopped := (audioTaken s st).trans (.stopPlayback _)
    cases b
    · exact stopped.follows
    · exact (stopped.trans (.stopCapture _)).follows
  | panelL => exact panel (.inl rfl)
  | panelR => exact panel (.inr rfl)
  | illum => exact illumTaken s st

/-- R29, R82: before its rail reached ON a reader was OFF, so that it may start. -/
theorem railReached {x : Rail} {st : RailState} (h : s.pmg.rails.get x ≠ .on) :
    Follows s ((s.railTaken x st).railReached x) := by
  have told := railTaken_told s x st
  have panel (hx : x = .panelL ∨ x = .panelR) : Follows s (s.railTaken x st).scanStart := by
    refine panelTaken s hx (.scanStart _) fun sound => scanStart_scanSound fun _ => told.off.2 ?_
    exact sound.2 (panelsOn_of_off hx h)
  cases x with
  | sensor =>
    refine sensorTaken s (.startImus _) fun ⟨imus, reads⟩ => ?_
    refine startImus_motionSound (fun _ y => (told.state y).trans ?_) fun y busy => (told.state y).trans ?_
    · exact (imus y).2 (imuEnabled_of_off h)
    · exact reads y (told.busy y busy)
  | audio => exact (audioTaken s st).follows
  | panelL => exact panel (.inl rfl)
  | panelR => exact panel (.inr rfl)
  | illum => exact illumTaken s st

theorem setRail (x : Rail) (st : RailState) : Follows s (s.setRail x st) := by
  rw [setRail_eq]
  split
  next leaves => exact railLeft s leaves.2 _
  next stays =>
    split
    next reaches => exact railReached s reaches.2
    next out =>
      refine (railTaken_aside ?_).follows
      constructor
      · exact fun on => by_contra fun off => stays ⟨on, off⟩
      · exact fun on => by_contra fun off => out ⟨on, off⟩

theorem sequence : Follows s s.sequence := by
  refine foldl s _ (fun s x => ?_) _
  split
  · exact setRail s x _
  · exact refl s

theorem takeDown (xs : List Rail) : Follows s (s.takeDown xs) := by
  refine foldl s _ (fun s x => ?_) _
  split
  · exact refl s
  · exact setRail s x _

theorem railFails (x : Rail) : Follows s (s.railFails x) :=
  (((setRail s x _).trans (Aside.bump _ _).follows).trans (takeDown _ _)).trans (sequence _)

theorem formTarget : Follows s s.formTarget := by
  unfold State.formTarget
  exact ((Aside.modPmg s _ rfl rfl).follows.trans (takeDown _ _)).trans (sequence _)

theorem tellPmg (b : Bool) : Follows s (s.tellPmg b) :=
  ((Aside.modPmg s _ rfl rfl).trans (.formBudget _)).follows.trans (formTarget _)

/-! ### The measurement (R146 to R156) -/

theorem enterNormal : Follows s s.enterNormal :=
  ((Aside.modPmg s _ rfl rfl).follows.trans (formTarget _)).trans (Aside.linkStep _).follows

theorem leaveStart (m : Measurement) : Follows s (s.leaveStart m) := by
  unfold State.leaveStart
  split
  · exact enterNormal s
  · exact refl s

theorem enterBrownout : Follows s s.enterBrownout := by
  unfold State.enterBrownout
  exact ((Aside.modPmg s _ rfl rfl).follows.trans (formTarget _)).trans
    (((Aside.raise _ _).trans (.bump _ _)).trans (.modPmg _ _ rfl rfl)).follows

theorem brownoutTest (m : Measurement) : Follows s (s.brownoutTest m) := by
  have counted := (Aside.modPmg s (fun p => { p with cut := if m.vin < p.limits.vCut then p.cut + 1 else 0 }) rfl rfl).follows
  unfold State.brownoutTest
  dsimp only
  split
  · exact counted.trans (enterBrownout _)
  · exact counted

theorem recover : Follows s s.recover :=
  (((Judged.changeLevel s _).follows.trans (Aside.modPmg _ _ rfl rfl).follows).trans (enterNormal _)).trans
    (Aside.opportunity _).follows

theorem recoveryTest (m : Measurement) : Follows s (s.recoveryTest m) := by
  have counted := (Aside.modPmg s (fun p =>
    { p with recovery := if p.limits.vWarn ≤ m.vin then min 500 (p.recovery + 1) else 0 }) rfl rfl).follows
  unfold State.recoveryTest
  dsimp only
  split
  · exact counted.trans (recover _)
  · exact counted

theorem supplyTests (m : Measurement) : Follows s (s.supplyTests m) := by
  unfold State.supplyTests
  split
  · exact recoveryTest s m
  · exact (leaveStart s m).trans (brownoutTest _ m)
  · exact (leaveStart s m).trans (brownoutTest _ m)

theorem measure (m : Measurement) : Follows s (s.measure m) :=
  (((((Aside.modPmg s _ rfl rfl).trans (.judgePower _ m)).follows.trans (Judged.shed _ m).follows).trans (supplyTests _ m))).trans
    (Aside.cableStep _ m).follows

/-! ### Ticks and IMU states (R30 to R35) -/

/-- R35: with a tick the IMUs go on as they are, and those that are being read are RUNNING. -/
theorem takeTick (n : Nat) : Follows s (s.modMsu fun m => m.takeTick n) := by
  have state (x : Sensor) : ((s.msu.takeTick n).imu x).state = (s.msu.imu x).state := by cases x <;> rfl
  refine (SameButMotion.modMsu s _ rfl rfl).follows fun ⟨imus, sound⟩ => ⟨fun x => ?_, fun x busy => (state x).trans ?_⟩
  · rw [State.modMsu_msu, state]
    exact imus x
  · obtain busy | starts := busy_takeTick busy
    · exact sound x busy
    · exact running_of_startsRead starts

/-- R29, R30, R32: an IMU that is neither OFF nor RUNNING, and so is not being read, takes another state that is not OFF. -/
theorem moveImu {s t : State} {x : Sensor} {f : Imu → Imu} (h : SameButMotion s t) (hm : t.msu = (s.modImu x f).msu)
    (hs : (s.msu.imu x).state ≠ .off) (hr : (s.msu.imu x).state ≠ .running) (hf : (f (s.msu.imu x)).state ≠ .off) :
    Follows s t :=
  h.follows fun sound => motionSound_of_modImu hm h.enabled hs hf (.inl (Bool.eq_false_iff.2 (mt (sound.2 x) hr))) sound

section
variable {x : Sensor} {k : StartStep} {e : Nat} (h : (s.msu.imu x).state = .starting k e)
include h

theorem goesOn (f : Imu → Imu) (n : StartStep) (hf : (f (s.msu.imu x)).state = .starting n e) :
    Follows s (s.modImu x f) :=
  moveImu (.modImu s x f) rfl (by rw [h]; exact ImuState.noConfusion) (by rw [h]; exact ImuState.noConfusion)
    (by rw [hf]; exact ImuState.noConfusion)

theorem startupFault : Follows s (s.enterFault x) :=
  moveImu (.enterFault s x) (enterFault_msu s x) (by rw [h]; exact ImuState.noConfusion)
    (by rw [h]; exact ImuState.noConfusion) ImuState.noConfusion

theorem startupRunning : Follows s (s.enterRunning x) :=
  moveImu (.enterRunning s x) (enterRunning_msu s x) (by rw [h]; exact ImuState.noConfusion)
    (by rw [h]; exact ImuState.noConfusion) ImuState.noConfusion

theorem startupGoesOn (ok : Bool) : Follows s (s.startupGoesOn x k e ok) := by
  have reset := (Aside.modImu s x (fun i => { i with fails := 0 }) rfl).follows
  have starting : ((s.modImu x fun i => { i with fails := 0 }).msu.imu x).state = .starting k e := by
    rw [ReaderStep.imu_modImu]
    exact h
  cases k with
  | reset => exact reset.trans (goesOn _ starting (fun i => { i with state := .starting .identity e }) .identity rfl)
  | scales => exact reset.trans (goesOn _ starting (fun i => { i with state := .starting .readBack e }) .readBack rfl)
  | identity =>
    cases ok
    · exact reset.trans (startupFault _ starting)
    · exact reset.trans (goesOn _ starting (fun i => { i with state := .starting .scales e }) .scales rfl)
  | readBack =>
    cases ok
    · exact reset.trans (startupFault _ starting)
    · exact reset.trans (startupRunning _ starting)

end

theorem retry {x : Sensor} {e : Nat} (h : (s.msu.imu x).state = .fault e) : Follows s (s.enterStarting x) :=
  moveImu (.enterStarting s x) rfl (by rw [h]; exact ImuState.noConfusion) (by rw [h]; exact ImuState.noConfusion)
    ImuState.noConfusion

/-- R28, R31, R35: the read that fails was one with a RUNNING IMU, and is in progress no more when the IMU enters FAULT. -/
theorem readFails {x : Sensor} (h : s.msu.busy x = true) : Follows s (s.readFails x) := by
  have ended := ((endRead_aside s x (st := .failed) ReadStatus.noConfusion).trans (Aside.modImu _ x (fun i =>
    { i with fails := i.fails + 1, gapPending := true, syncPending := i.syncPending || s.msu.busySync x }) rfl)).trans
    (.bump _ (readFailures x))
  have idle : ((((s.modMsu fun m => { m with ticks := m.ticks.map (Tick.endRead x .failed) }).modImu x fun i =>
      { i with fails := i.fails + 1, gapPending := true, syncPending := i.syncPending || s.msu.busySync x }).bump
      (readFailures x)).msu.busy x) = false := by
    rw [State.bump_msu, busy_modImu, Bool.eq_false_iff]
    intro busy
    exact (busy_endRead ReadStatus.noConfusion busy).1 rfl
  unfold State.readFails
  dsimp only
  generalize (((s.modMsu fun m => { m with ticks := m.ticks.map (Tick.endRead x .failed) }).modImu x fun i =>
      { i with fails := i.fails + 1, gapPending := true, syncPending := i.syncPending || s.msu.busySync x }).bump
      (readFailures x)) = u at ended idle
  split
  · have fault := SameButMotion.enterFault u x
    refine ⟨ended.toFits.trans fault.toFits, fault.darkSound ∘ ended.darkSound, fault.scanSound ∘ ended.scanSound,
      fun sound => motionSound_of_modImu (enterFault_msu u x) fault.enabled ?_ ImuState.noConfusion (.inl idle)
        (ended.motionSound sound)⟩
    rw [ended.state, sound.2 x h]
    exact ImuState.noConfusion
  · exact ended.follows

theorem readSucceeds (x : Sensor) (d : ImuData) : Aside s (s.readSucceeds x d) :=
  (endRead_aside s x ReadStatus.noConfusion).trans (.modImu _ x _ rfl)

/-! ### SLEEP and its end (R12 to R15) -/

/-- R12, R15: a wake finds IMUs and scan-out OFF, and starts them. -/
theorem wake (h : s.asleep = true) : Follows s s.wake := by
  have woken : Fits s (s.modTlc fun t => { t with link := .training 1 s.lt none }) ∧
      SameDark s (s.modTlc fun t => { t with link := .training 1 s.lt none }) := ⟨⟨id, id⟩, ⟨fun _ => rfl, rfl⟩⟩
  have started := SameButMotion.startImus (s.modTlc fun t => { t with link := .training 1 s.lt none })
  have scan := SameButScan.scanStart (s.modTlc fun t => { t with link := .training 1 s.lt none }).startImus
  have idle : s.imuEnabled = false := by rw [State.imuEnabled, h, Bool.not_true, Bool.and_false]
  have dark : s.panelsOn = false := by rw [State.panelsOn, h, Bool.not_true, Bool.and_false]
  obtain ⟨fits, same⟩ := woken
  exact ⟨(fits.trans started.toFits).trans scan.toFits, scan.dark ∘ (same.trans started.toSameDark).darkSound,
    fun sound => scanStart_scanSound fun _ => started.off.2 (sound.2 dark),
    fun sound => scan.motionSound (startImus_motionSound (fun _ x => (sound.1 x).2 idle) sound.2)⟩

theorem wearWakes (w : Wear) : Follows s (s.wearWakes w) := by
  unfold State.wearWakes
  split
  next h =>
    have asleep : s.asleep = true := by
      simp only [Bool.and_eq_true] at h
      obtain ⟨⟨⟨asleep, _⟩, _⟩, _⟩ := h
      exact asleep
    exact (Aside.modTlc s _ rfl).follows.trans (wake _ asleep)
  · exact refl s

end Follows

/-- R184: the live conditions are reported. -/
theorem Aside.reportLive (s : State) : Aside s s.reportLive :=
  ((Aside.follow s _ _).trans (.followStale _)).trans (.foldl _ _ (fun t _ => .follow t _ _) _)

/-- R51, R94, R124, R209: a reset leaves the output, scan-out and the IMUs following, whatever was before. -/
theorem doRestart_sound (s : State) : s.doRestart.darkSound ∧ s.doRestart.scanSound ∧ s.doRestart.motionSound := by
  have formed := (Aside.reformSync s.blocksRestart s.period).trans (.reportLive _)
  have started := SameButMotion.startImus (s.blocksRestart.reformSync s.period).reportLive
  have scan := SameButScan.scanStart (s.blocksRestart.reformSync s.period).reportLive.startImus
  have off (x : Sensor) : (s.blocksRestart.msu.imu x).state = .off := by cases x <;> rfl
  have idle (x : Sensor) : s.blocksRestart.msu.busy x = false := rfl
  have dark : s.blocksRestart.darkSound :=
    iff_of_true rfl (List.ne_nil_of_mem (a := .scan) (List.mem_filter.2 ⟨by decide, rfl⟩))
  refine ⟨scan.dark (started.darkSound (formed.darkSound dark)),
    scanStart_scanSound fun _ => started.off.2 (formed.off.2 rfl), scan.motionSound (startImus_motionSound ?_ ?_)⟩
  · exact fun _ x => (formed.state x).trans (off x)
  · intro x busy
    exact absurd (formed.busy x busy) (by rw [idle]; exact Bool.noConfusion)

namespace Follows
variable (s : State)

theorem doRestart : Follows s s.doRestart := by
  have cleared : Fits s s.blocksRestart :=
    ⟨fun _ => ⟨Nat.zero_le _, Nat.zero_le _, Nat.zero_le _, Nat.zero_le _, Nat.zero_le _⟩, fun _ c => by
      simp [State.count, State.blocksRestart]⟩
  have fits := (((cleared.trans ((Aside.reformSync s.blocksRestart s.period).trans (.reportLive _)).toFits).trans
    (SameButMotion.startImus _).toFits).trans (SameButScan.scanStart _).toFits)
  obtain ⟨dark, scan, motion⟩ := doRestart_sound s
  exact ⟨fits, fun _ => dark, fun _ => scan, fun _ => motion⟩

theorem restartOnLeave : Follows s s.restartOnLeave := by
  unfold State.restartOnLeave
  split
  · exact doRestart s
  · exact refl s

/-- R12, R13: at an entry into SLEEP the IMUs and scan-out go OFF after the rails. -/
theorem enterSleep : Follows s s.enterSleep := by
  have told : Aside (s.modTlc fun t => { t with link := .sleep }) s.falling :=
    ((Aside.bump _ .sleepEntries).trans (.leaveActive _)).trans
      ((Aside.modPmg _ (fun p => { p with standby := true }) rfl rfl).trans (.formBudget _))
  have fits : Fits s s.falling := ⟨told.capacity, told.counters⟩
  have dark : SameDark s s.falling := ⟨told.causes, told.output⟩
  have formed := formTarget s.falling
  have asleep : s.falling.formTarget.asleep = true :=
    beq_iff_eq.2 (((takeTarget_step s.falling).trans (.sequence _)).link.trans rfl)
  have idle : s.falling.formTarget.imuEnabled = false := by
    rw [State.imuEnabled, asleep, Bool.not_true, Bool.and_false]
  have closed : s.falling.formTarget.panelsOn = false := by
    rw [State.panelsOn, asleep, Bool.not_true, Bool.and_false]
  have imus := SameButMotion.imusOff s.falling.formTarget
  have scan := SameButScan.scanOff s.falling.formTarget.imusOff
  exact Follows.trans ⟨((fits.trans formed.toFits).trans imus.toFits).trans scan.toFits,
    scan.dark ∘ imus.darkSound ∘ formed.dark ∘ dark.darkSound,
    fun _ => scanOff_scanSound (imus.panels.trans closed),
    fun _ => scan.motionSound (imusOff_motionSound idle)⟩ (restartOnLeave _)

theorem enterRetrain (c : Channel) (h : s.tlc.link ≠ .sleep) : Follows s (s.enterRetrain c) := by
  unfold State.enterRetrain
  exact ((((Aside.moveLink s _ h Link.noConfusion).trans (.raise _ _)).trans (.bump _ _)).trans
    ((Aside.leaveActive _).trans (.abandon _))).follows.trans (restartOnLeave _)

end Follows

end Sys2Proof.Machine
end

section
/-!
Every command leaves the readers following (`Follows`), command by command; and the invariants of the queues and counters (O5)
and of the readers of rails, link and dark causes (O14) that follow for a step.
-/

namespace Sys2Proof.Machine

namespace Follows
variable (s : State)

/-! ### What the rows share -/

theorem either {p : Prop} [Decidable p] {t u : State} (ht : p → Follows s t) (hu : ¬p → Follows s u) :
    Follows s (if p then t else u) := by
  split
  next h => exact ht h
  next h => exact hu h

/-- A row that acts under a condition, and otherwise has no effect. -/
theorem only {p : Prop} [Decidable p] {t : State} (h : p → Follows s t) : Follows s (if p then t else s) :=
  either s h fun _ => refl s

theorem request (k : ReqKind) (p : Port) (tag : Byte) (q : List Byte) (own : State → Answer)
    (h : Follows s (own s).state) : Follows s (s.request k p tag q own) := by
  refine only s fun _ => ?_
  split
  · exact (Aside.reply s _ _ _ _ _ _).follows
  · exact h.trans (Aside.reply _ _ _ _ _ _ _).follows

/-- The answer OK leaves the state that its rule left. -/
theorem ok {t : State} (h : Follows s t) (v : List Byte) : Follows s (Answer.ok t v).state := h

theorem withoutArgs (q : List Byte) (own : State → Answer) (h : Follows s (own s).state) :
    Follows s (withoutArgs q own s).state := by
  unfold Machine.withoutArgs
  split
  · exact h
  · exact refl s

theorem crcError : Follows s s.crcError := by
  have counted := (Aside.bump s .linkCrcErrors).trans (.modTlc _ (fun t => { t with crcCount := t.crcCount + 1 }) rfl)
  unfold State.crcError
  dsimp only
  split
  next c hl =>
    exact counted.follows.trans (only _ fun _ => enterRetrain _ c (by rw [hl]; exact Link.noConfusion))
  · exact counted.follows

theorem discard (d : Discard) : Follows s (s.discard d) := by
  cases d with
  | crc => exact crcError s
  | stream | linkKind | pictureKind => exact (Aside.bump s _).follows

theorem messageLeft (p : Port) (r : MessageRole) : Follows s (s.messageLeft p r) := by
  cases r with
  | notice => exact refl s
  | reply => exact (Aside.replyLeft s p).follows
  | restartReply => exact (Aside.replyLeft s p).follows.trans (doRestart _)
  | sleepReply => exact (Aside.replyLeft s p).follows.trans (only _ fun _ => enterSleep _)

theorem blockSent (x : Transmission) : Follows s (s.blockSent x) := by
  have sent := (Aside.modTlc s (fun t => { t with tx := none }) rfl).follows
  unfold State.blockSent
  dsimp only
  split
  · exact sent
  · exact sent
  · exact sent.trans (Aside.modMsu _ _ (Nat.le_trans (List.tail_sublist _).length_le) rfl (fun _ => rfl) (fun _ => id)).follows
  · exact sent.trans (Aside.modAud _ _ (Nat.le_trans (List.tail_sublist _).length_le) id).follows
  · split
    · exact sent
    · exact (sent.trans (Aside.modCmu _ _ id).follows).trans (messageLeft _ _ _)

theorem frameSent : Follows s s.frameSent := by
  have sent := (Aside.modCmu s (fun c => { c with serviceTx := .idle }) id).follows
  unfold State.frameSent
  dsimp only
  split
  · exact (sent.trans (Aside.modCmu _ _ id).follows).trans (messageLeft _ _ _)
  · exact sent

/-! ### Power rows -/

theorem inputMeasurement (v i : Nat) : Lands Follows (.inputMeasurement v i) s :=
  ⟨_, rfl, by
    split
    · exact refl s
    · exact (Aside.modPmg s _ rfl rfl).follows.trans (measure _ _)⟩

theorem railPowerGood (x : Rail) : Lands Follows (.railPowerGood x) s := ⟨_, rfl, by
  split
  · exact (setRail s x _).trans (sequence _)
  · exact refl s⟩

theorem railRampTimeout (x : Rail) : Lands Follows (.railRampTimeout x) s := ⟨_, rfl, by
  split
  · exact only s fun _ => railFails s x
  · exact refl s⟩

theorem powerGoodWithdrawn (x : Rail) : Lands Follows (.powerGoodWithdrawn x) s :=
  ⟨_, rfl, only s fun _ => railFails s x⟩

theorem storeLoadComplete (r : Option (List Byte)) : Lands Follows (.storeLoadComplete r) s := ⟨_, rfl, by
  refine only s fun _ => ?_
  split
  · exact either s (fun _ => (Judged.endLoad s _ _).follows) fun _ => (Judged.endLoad s _ _).follows
  · exact (Judged.endLoad s _ _).follows⟩

/-! ### Link rows -/

theorem trainingRecordReceived (r : BaseRecord) (l : BitVec 4) : Lands Follows (.trainingRecordReceived r l) s :=
  ⟨_, rfl, by
    split
    next n b hl =>
      split
      · exact (Aside.moveLink s _ (by rw [hl]; exact Link.noConfusion) (by exact Link.noConfusion)).follows
      · exact (Aside.trainingFails s).follows
    · exact refl s⟩

theorem trainingAttemptSucceeds (n : Nat) : Lands Follows (.trainingAttemptSucceeds n) s := ⟨_, rfl, by
  split
  next k b a hl =>
    refine only s fun _ => ?_
    have active := (Aside.enterActive s a.channel n (by rw [hl]; exact Link.noConfusion)).trans
      ((Aside.modTlc _ (fun t => { t with features := a.features, offer := a.offer }) rfl).trans (.raise _ .trained))
    exact (active.follows.trans (tellPmg _ false)).trans (Aside.opportunity _).follows
  · exact refl s⟩

theorem trainingAttemptTimeout : Lands Follows .trainingAttemptTimeout s := ⟨_, rfl, by
  split
  · exact only s fun _ => (Aside.trainingFails s).follows
  · exact refl s⟩

theorem symbolLockLost (l : Fin 4) : Lands Follows (.symbolLockLost l) s := ⟨_, rfl, by
  split
  next c hl => exact only s fun _ => enterRetrain s c (by rw [hl]; exact Link.noConfusion)
  · exact only s fun _ => (Aside.retrainFails s).follows
  · exact only s fun _ => (Aside.trainingFails s).follows
  · exact refl s⟩

theorem retrainAttemptSucceeds (n : Nat) : Lands Follows (.retrainAttemptSucceeds n) s := ⟨_, rfl, by
  split
  next c k b hl =>
    exact only s fun _ => ((Aside.enterActive s c n (by rw [hl]; exact Link.noConfusion)).follows.trans
      (tellPmg _ false)).trans (Aside.opportunity _).follows
  · exact refl s⟩

theorem retrainAttemptTimeout : Lands Follows .retrainAttemptTimeout s := ⟨_, rfl, by
  split
  · exact only s fun _ => (Aside.retrainFails s).follows
  · exact refl s⟩

theorem retryTimerExpiry : Lands Follows .retryTimerExpiry s := ⟨_, rfl, by
  split
  next e hl =>
    exact only s fun _ => (Aside.moveLink s _ (by rw [hl]; exact Link.noConfusion) (by exact Link.noConfusion)).follows
  · exact refl s⟩

theorem lineEnergyDetected : Lands Follows .lineEnergyDetected s := ⟨_, rfl, only s fun h => wake s h⟩

theorem linkBlockDiscarded (b : List Byte) : Lands Follows (.linkBlockDiscarded b) s := ⟨_, rfl, by
  split
  · split
    · exact discard s _
    · exact refl s
  · exact only s fun _ => (Aside.bump s _).follows⟩

theorem crcWindowBoundary : Lands Follows .crcWindowBoundary s := ⟨_, rfl, only s fun _ => (Aside.modTlc s _ rfl).follows⟩

theorem timeMark (q : List Byte) : Lands Follows (.timeMark q) s := ⟨_, rfl, by
  split
  · split
    · exact (Aside.bump s _).follows
    · exact ((Aside.moveOffset s _).trans (.lockBasis _)).follows
  · exact refl s⟩

theorem timeBasisFree : Lands Follows .timeBasisFree s := ⟨_, rfl, by
  split
  · exact only s fun _ => ((Aside.modTlc s _ rfl).trans (.raise _ _)).follows
  · exact refl s⟩

theorem sleepMark (q : List Byte) : Lands Follows (.sleepMark q) s :=
  ⟨_, rfl, only s fun _ => either s (fun _ => enterSleep s) fun _ => (Aside.bump s _).follows⟩

theorem statusBeatDue : Lands Follows .statusBeatDue s := ⟨_, rfl, only s fun _ => (Aside.takeBeat s).follows⟩

theorem upstreamBlockSent : Lands Follows .upstreamBlockSent s := ⟨_, rfl, by
  split
  · split
    · exact (blockSent s _).trans (Aside.opportunity _).follows
    · exact refl s
  · exact refl s⟩

/-! ### Downstream blocks and arrivals -/

theorem controlBlockReceived (q : List Byte) : Lands Follows (.controlBlockReceived q) s :=
  ⟨_, rfl, only s fun _ => either s (fun _ => (Aside.bump s _).follows) fun _ => (Aside.arrive s _ _).follows⟩

theorem serviceFrameReceived (b : List Byte) : Lands Follows (.serviceFrameReceived b) s :=
  ⟨_, rfl, only s fun _ => ((Aside.timeOutBytes s).trans (.hearBytes _ _)).follows⟩

theorem serviceFrameSent : Lands Follows .serviceFrameSent s := ⟨_, rfl, by
  split
  · exact refl s
  · exact (frameSent s).trans (Aside.uartStart _).follows⟩

/-! ### Requests -/

section
variable (p : Port) (tag : Byte) (q : List Byte)

theorem unknownKind (k : Byte) : Lands Follows (.unknownKind p tag k q) s :=
  ⟨_, rfl, only s fun _ => (Aside.reply s _ _ _ _ _ _).follows⟩

theorem attach : Lands Follows (.attach p tag q) s := ⟨_, rfl, by
  have asked := request s .attach p tag q _ (withoutArgs s q _ (Aside.attachTo s p).follows)
  split
  · exact asked.trans (Aside.roleTaken _).follows
  · exact asked⟩

theorem detach : Lands Follows (.detach p tag q) s := ⟨_, rfl, by
  have asked := request s .detach p tag q _ (withoutArgs s q (fun s => .ok s []) (refl s))
  split
  · exact asked.trans (Aside.release _ _).follows
  · exact asked⟩

theorem restart : Lands Follows (.restart p tag q) s := ⟨_, rfl, by
  have asked := request s .restart p tag q _ (withoutArgs s q (restartBy p)
    (Aside.modCmu s (fun c => { c with restart := some p }) id).follows)
  split
  · exact asked.trans (doRestart _)
  · exact asked⟩

theorem getStatus : Follows s (statusOf q s).state := by
  unfold statusOf
  split <;> exact refl s

theorem linkSleepBy : Follows s (linkSleepBy s).state := by
  unfold Machine.linkSleepBy
  split
  · exact refl s
  · split
    · exact refl s
    · exact (Aside.modTlc s (fun t => { t with sleepPending := true }) rfl).follows

theorem setRate : Follows s (setRate q s).state := by
  unfold Machine.setRate
  split
  · exact refl s
  · exact ((Aside.modMsu s _ id rfl (fun _ => rfl) (fun _ => id)).trans (.reformSync _ _)).follows

theorem setWear : Follows s (setWear q s).state := by
  unfold Machine.setWear
  split
  · exact refl s
  · exact (Aside.modMsu s _ id rfl (fun _ => rfl) (fun _ => id)).follows.trans (Judged.awayExpires _).follows

theorem mapAxes : Follows s (mapAxes q s).state := by
  unfold Machine.mapAxes
  split
  · exact refl s
  · exact ok s ((Aside.modOin s _ fun _ => Nat.zero_le _).trans (.followStale _)).follows _

theorem select : Follows s (select q s).state := by
  unfold Machine.select
  split
  · exact refl s
  · split
    · exact refl s
    · split
      · exact ok s (Aside.modOin s _ id).follows _
      · exact ok s (Aside.bind s _).follows _

theorem anchorBy : Follows s (anchorBy q s).state := by
  unfold Machine.anchorBy
  split
  · exact refl s
  · split
    · exact refl s
    · dsimp only
      split
      · exact (Aside.bump s _).follows
      · exact ok s ((Aside.anchor s _).trans (.bump _ _)).follows _

theorem setPose : Follows s (setPose q s).state := by
  unfold Machine.setPose
  split
  · exact refl s
  · exact ok s (Aside.modOin s _ id).follows _

theorem stage : Follows s (stage q s).state := by
  unfold Machine.stage
  split
  · exact refl s
  · exact ok s (Aside.modIlg s _ rfl).follows _

theorem setVolume : Follows s (setVolume q s).state := by
  unfold Machine.setVolume
  split
  · exact refl s
  · dsimp only
    split
    · exact ok s ((Aside.modAud s _ id id).trans (.stopPlayback _)).follows _
    · exact ok s (Aside.modAud s _ id id).follows _

theorem setCapture : Follows s (setCapture q s).state := by
  unfold Machine.setCapture
  split
  · exact refl s
  · exact (Aside.takeCapture s _).follows

theorem setLimits : Follows s (setLimits q s).state := by
  unfold Machine.setLimits
  split
  · exact refl s
  · exact ok s (((Aside.modPmg s _ rfl rfl).trans (.formBudget _)).trans (.modPmg _ _ rfl rfl)).follows _

theorem setResistance : Follows s (setResistance q s).state := by
  unfold Machine.setResistance
  split
  · exact refl s
  · exact ok s (Aside.modPmg s _ rfl rfl).follows _

theorem restartRails : Follows s (restartRails s).state := by
  unfold Machine.restartRails
  dsimp only
  split
  · exact refl s
  · exact ((takeDown s _).trans (Aside.bump _ _).follows).trans (sequence _)

theorem startBy : Follows s (startBy q s).state := by
  unfold Machine.startBy
  split
  · exact (Aside.bump s _).follows
  · split
    · exact refl s
    · exact (Aside.accept s _).follows

theorem startProcedure : Lands Follows (.startProcedure p tag q) s := ⟨_, rfl, by
  have asked := request s .startProcedure p tag q _ (startBy s q)
  split
  · split
    · exact asked.trans (Aside.startCheck _ _).follows
    · exact asked
  · exact asked⟩

theorem abortBy : Follows s (abortBy s).state := by
  unfold Machine.abortBy
  split
  · exact refl s
  · exact ((Aside.stopWork s _).trans (.endProc _ _ _)).follows

theorem readCountersBy : Follows s (readCountersBy p q s).state := by
  unfold Machine.readCountersBy
  split
  · exact refl s
  · split
    · exact refl s
    next gs clear _ =>
      cases clear
      · exact refl s
      · exact (Aside.clearCounts s _).follows

theorem clearBy : Follows s (clearBy q s).state := by
  unfold Machine.clearBy
  split
  · exact refl s
  · exact (Aside.clearSet s _ _).follows

theorem maskBy : Follows s (maskBy q s).state := by
  unfold Machine.maskBy
  split
  · exact refl s
  · exact (((Aside.modNtu s _).trans (.dueFor _ _)).trans (.attend _)).follows

end

/-! ### Procedures -/

theorem biasCalCollectionEnd : Lands Follows .biasCalCollectionEnd s := ⟨_, rfl, by
  split
  · exact only s fun _ => (Aside.judgeBias s _ _ _ _).follows
  · exact refl s⟩

theorem storeWriteComplete : Lands Follows .storeWriteComplete s := ⟨_, rfl, by
  split
  · exact ((Aside.work s _).trans (.modCmu _ _ id)).follows
  · exact refl s⟩

theorem storeReadbackComplete (b : List Byte) : Lands Follows (.storeReadbackComplete b) s := ⟨_, rfl, by
  split
  · split <;> exact (Aside.endProc s _ _).follows
  · exact refl s⟩

/-! ### Sensors -/

theorem sampleTick : Lands Follows .sampleTick s := ⟨_, rfl, only s fun _ => takeTick s _⟩

theorem sampleReadEnd (x : Sensor) (r : ReadResult) : Lands Follows (.sampleReadEnd x r) s := ⟨_, rfl, by
  refine only s fun busy => ?_
  cases r with
  | failed => exact (readFails s busy).trans (Aside.completeTicks _).follows
  | succeeded d => exact ((readSucceeds s x d).trans (.completeTicks _)).follows⟩

theorem imuStartupTransaction (x : Sensor) (r : StartupResult) : Lands Follows (.imuStartupTransaction x r) s :=
  ⟨_, rfl, by
    split
    next k e hi =>
      have failed := Aside.modImu s x (fun i => { i with fails := i.fails + 1 }) rfl
      dsimp only
      exact either s (fun _ => failed.follows.trans (startupFault _ ((failed.state x).trans hi)))
        fun _ => failed.follows
    next k e ok hi => exact startupGoesOn s hi ok
    · exact refl s⟩

theorem imuStartupTimeout (x : Sensor) : Lands Follows (.imuStartupTimeout x) s := ⟨_, rfl, by
  split
  next hi => exact only s fun _ => startupFault s hi
  · exact refl s⟩

theorem imuRetryExpiry (x : Sensor) : Lands Follows (.imuRetryExpiry x) s := ⟨_, rfl, by
  split
  next hi => exact only s fun _ => retry s hi
  · exact refl s⟩

theorem silenceWatchExpiry : Lands Follows .silenceWatchExpiry s :=
  ⟨_, rfl, only s fun _ => ((Aside.modOin s _ id).trans (.primaryFails _)).follows⟩

theorem wearReadTick : Lands Follows .wearReadTick s :=
  ⟨_, rfl, only s fun _ => (Aside.modMsu s _ id rfl (fun _ => rfl) (fun _ => id)).follows⟩

theorem wearReadDone (r : WearResult) : Lands Follows (.wearReadDone r) s :=
  ⟨_, rfl, only s fun _ => (Judged.wearRead s r).follows.trans (wearWakes _ _)⟩

/-! ### Pictures, sound and notices -/

/-- R84: scan-out that takes a blank start is not OFF, and so may select a frame. -/
theorem blankStart : Lands Follows .blankStart s := ⟨_, rfl, by
  refine only s fun due => ?_
  have scans : s.sou.scanOut ≠ .off := by
    intro off
    unfold State.blankDue at due
    split at due
    · rw [off] at due
      exact absurd due Bool.noConfusion
    · exact absurd due Bool.noConfusion
  have taken := (Aside.takeBlank s).trans (.copyAtBlank _)
  exact (Judged.outputAtBlank (taken.but_output.trans (Judged.selectFrame _ (mt taken.off.1 scans)))).follows⟩

theorem outputInstant (m1 m2 : Int) : Lands Follows (.outputInstant m1 m2) s :=
  ⟨_, rfl, only s fun _ => (((Aside.modAud s _ id id).trans (.playback _)).trans (.capture _ _ _)).follows⟩

theorem setPhase (x : Side) (ph : PulsePhase) : Aside s (s.modIlg fun g => g.setPhase x ph) := by
  cases x <;> exact Aside.modIlg s _ rfl

/-- R39, R29, R82, R118: what every command but POWER_ON leaves following. -/
theorem exec (i : Instr) (hp : ∀ x, i ≠ .powerOn x) : Lands Follows i s := by
  cases i with
  | powerOn x => exact absurd rfl (hp x)
  | storeLoadComplete r => exact storeLoadComplete s r
  | inputMeasurement v i => exact inputMeasurement s v i
  | railPowerGood x => exact railPowerGood s x
  | railRampTimeout x => exact railRampTimeout s x
  | powerGoodWithdrawn x => exact powerGoodWithdrawn s x
  | trainingRecordReceived r l => exact trainingRecordReceived s r l
  | trainingAttemptSucceeds n => exact trainingAttemptSucceeds s n
  | trainingAttemptTimeout => exact trainingAttemptTimeout s
  | symbolLockLost l => exact symbolLockLost s l
  | retrainAttemptSucceeds n => exact retrainAttemptSucceeds s n
  | retrainAttemptTimeout => exact retrainAttemptTimeout s
  | retryTimerExpiry => exact retryTimerExpiry s
  | lineEnergyDetected => exact lineEnergyDetected s
  | linkBlockDiscarded b => exact linkBlockDiscarded s b
  | crcWindowBoundary => exact crcWindowBoundary s
  | timeMark q => exact timeMark s q
  | timeBasisFree => exact timeBasisFree s
  | sleepMark q => exact sleepMark s q
  | statusBeatDue => exact statusBeatDue s
  | upstreamBlockSent => exact upstreamBlockSent s
  | frameBegin q => exact ⟨_, rfl, only s fun _ => (Aside.frameBegin s _).follows⟩
  | lines q => exact ⟨_, rfl, only s fun _ => (Aside.lines s _).follows⟩
  | frameEnd q => exact ⟨_, rfl, only s fun _ => (Aside.frameEnd s _).follows⟩
  | sound q => exact ⟨_, rfl, only s fun _ => (Aside.takeSound s _).follows⟩
  | controlBlockReceived q => exact controlBlockReceived s q
  | serviceFrameReceived b => exact serviceFrameReceived s b
  | serviceByteTimeout => exact ⟨_, rfl, (Aside.timeOutBytes s).follows⟩
  | serviceFrameSent => exact serviceFrameSent s
  | unknownKind p tag k q => exact unknownKind s p tag q k
  | attach p tag q => exact attach s p tag q
  | detach p tag q => exact detach s p tag q
  | getInfo p tag q => exact ⟨_, rfl, request s _ p tag q _ (withoutArgs s q (fun s => .ok s (s.infoBytes p)) (refl s))⟩
  | getStatus p tag q => exact ⟨_, rfl, request s _ p tag q _ (getStatus s q)⟩
  | restart p tag q => exact restart s p tag q
  | linkSleep p tag q => exact ⟨_, rfl, request s _ p tag q _ (withoutArgs s q _ (linkSleepBy s))⟩
  | setSensorRate p tag q => exact ⟨_, rfl, request s _ p tag q _ (setRate s q)⟩
  | setWear p tag q => exact ⟨_, rfl, request s _ p tag q _ (setWear s q)⟩
  | setAxisMap p tag q => exact ⟨_, rfl, request s _ p tag q _ (mapAxes s q)⟩
  | selectPrimary p tag q => exact ⟨_, rfl, request s _ p tag q _ (select s q)⟩
  | anchor p tag q => exact ⟨_, rfl, request s _ p tag q _ (anchorBy s q)⟩
  | setPoseOverride p tag q => exact ⟨_, rfl, request s _ p tag q _ (setPose s q)⟩
  | clearPoseOverride p tag q => exact ⟨_, rfl, request s _ p tag q _ (withoutArgs s q _ (ok s (Aside.modOin s _ id).follows _))⟩
  | setProfile p tag q => exact ⟨_, rfl, request s _ p tag q _ (Judged.setProfile s q).follows⟩
  | stagePulses p tag q => exact ⟨_, rfl, request s _ p tag q _ (stage s q)⟩
  | setVolume p tag q => exact ⟨_, rfl, request s _ p tag q _ (setVolume s q)⟩
  | setCapture p tag q => exact ⟨_, rfl, request s _ p tag q _ (setCapture s q)⟩
  | setPowerLimits p tag q => exact ⟨_, rfl, request s _ p tag q _ (setLimits s q)⟩
  | setCableResistance p tag q => exact ⟨_, rfl, request s _ p tag q _ (setResistance s q)⟩
  | railRestart p tag q => exact ⟨_, rfl, request s _ p tag q _ (withoutArgs s q _ (restartRails s))⟩
  | startProcedure p tag q => exact startProcedure s p tag q
  | abortProcedure p tag q => exact ⟨_, rfl, request s _ p tag q _ (withoutArgs s q _ (abortBy s))⟩
  | getProcedureResult p tag q => exact ⟨_, rfl, request s _ p tag q _ (withoutArgs s q (fun s => .ok s s.prr.bytes) (refl s))⟩
  | readConditions p tag q => exact ⟨_, rfl, request s _ p tag q _ (withoutArgs s q (fun s => .ok s s.conditionBytes) (refl s))⟩
  | readCounters p tag q => exact ⟨_, rfl, request s _ p tag q _ (readCountersBy s p q)⟩
  | clearConditions p tag q => exact ⟨_, rfl, request s _ p tag q _ (clearBy s q)⟩
  | setNoticeMask p tag q => exact ⟨_, rfl, request s _ p tag q _ (maskBy s q)⟩
  | biasCalCollectionEnd => exact biasCalCollectionEnd s
  | storeWriteComplete => exact storeWriteComplete s
  | storeReadbackComplete b => exact storeReadbackComplete s b
  | sampleTick => exact sampleTick s
  | sampleReadEnd x r => exact sampleReadEnd s x r
  | imuStartupTransaction x r => exact imuStartupTransaction s x r
  | imuStartupTimeout x => exact imuStartupTimeout s x
  | imuRetryExpiry x => exact imuRetryExpiry s x
  | silenceWatchExpiry => exact silenceWatchExpiry s
  | poseStale => exact ⟨_, rfl, (Aside.followStale s).follows⟩
  | wearReadTick => exact wearReadTick s
  | wearReadDone r => exact wearReadDone s r
  | awayTimerExpiry => exact ⟨_, rfl, (Judged.awayExpires s).follows⟩
  | blankStart => exact blankStart s
  | illumPulseStart x => exact ⟨_, rfl, only s fun _ => (setPhase s x _).follows⟩
  | illumPulseEnd x => exact ⟨_, rfl, only s fun _ => ((Aside.bump s _).trans (setPhase _ x _)).follows⟩
  | outputInstant m1 m2 => exact outputInstant s m1 m2
  | attenuationRampStep => exact ⟨_, rfl, only s fun _ => (Aside.modAud s _ id id).follows⟩
  | holdoffExpiry => exact ⟨_, rfl, only s fun _ => (Aside.holdoffExpires s).follows⟩
  | quietHoldEnd => exact ⟨_, rfl, only s fun _ => ((Aside.modNtu s _).trans (.attend _)).follows⟩

end Follows

/-! ### POWER_ON and the step -/

/-- R39, R29, R82, R118, 4.5: the bounds hold, and every reader follows. -/
def State.following (s : State) : Prop :=
  s.withinCapacity ∧ s.countersFit ∧ s.darkSound ∧ s.scanSound ∧ s.motionSound

theorem Follows.following {s t : State} (h : Follows s t) : s.following → t.following :=
  fun ⟨capacity, counters, dark, scan, motion⟩ =>
    ⟨h.capacity capacity, h.counters counters, h.dark dark, h.scan scan, h.motion motion⟩

theorem reset_following : State.reset.following :=
  ⟨reset_withinCapacity, reset_countersFit, reset_darkSound, reset_scanSound, reset_imusSound, reset_readsSound⟩

/-- R206: POWER_ON leaves the part as after reset, but for the straps, the time and the store. -/
theorem powerOn_following (x : Straps) (s : State) : Lands (fun _ t => t.following) (.powerOn x) s := ⟨_, rfl, by
  have on : (s.powerOn x).following := reset_following
  split
  · exact on
  · exact (Judged.endLoad (s.powerOn x) _ _).follows.following on⟩

/-- A command keeps each bound and each reader following, or is POWER_ON, which leaves all of them so. -/
theorem exec_follows {i : Instr} {s t : State} (h : exec i s = .next t) : Follows s t := by
  by_cases hp : ∃ x, i = .powerOn x
  · obtain ⟨x, rfl⟩ := hp
    obtain ⟨capacity, counters, dark, scan, motion⟩ := (powerOn_following x s).of_exec h
    exact ⟨⟨fun _ => capacity, fun _ => counters⟩, fun _ => dark, fun _ => scan, fun _ => motion⟩
  · exact (Follows.exec s i fun x e => hp ⟨x, e⟩).of_exec h

/-- A step follows: the waiting commands and the time are nothing to the bounds and to the readers. -/
theorem step_follows {s t : State} (h : step s = .next t) : Follows s t := by
  obtain ⟨c, rest, _, he⟩ | ⟨_, rfl⟩ := step_cases h
  · obtain ⟨⟨capacity, counters⟩, dark, scan, motion⟩ := exec_follows he
    exact ⟨⟨capacity, counters⟩, dark, scan, motion⟩
  · exact ⟨⟨id, id⟩, id, id, id⟩

/-- Settles O5: a step is `Follows`, which keeps the bounds. -/
theorem capacitiesAndCountersHold : Obligations.CapacitiesAndCountersHold := by
  exact ⟨fun s t sound h => (step_follows h).capacity sound, fun s t sound h => (step_follows h).counters sound⟩

/-- Settles O14: a step is `Follows`, which keeps every reader following. -/
theorem readersFollowRails : Obligations.ReadersFollowRails := by
  intro s t ⟨_, dark, scan, imus, reads⟩ h
  have kept := step_follows h
  exact ⟨kept.dark dark, kept.scan scan, kept.motion ⟨imus, reads⟩⟩

end Sys2Proof.Machine
end

section
/-! The settings of the sensors (R34, R47, R48): the answers of directed requests, and SET_SENSOR_RATE and SET_WEAR (O42). -/

namespace Sys2Proof.Machine

/-! ### Answers of directed requests (R199, R201) -/

section
variable {s u : State} {k : ReqKind} {p : Port} {tag : Byte} {q : List Byte} {i : Instr} {own : State → Answer}
variable (h : s.directed k p tag q) (hi : exec i s = .next (s.request k p tag q own))
include h hi

theorem exec_of_directed {x : Status} {v : List Byte} (ho : own s = ⟨u, x, v, .reply⟩) :
    exec i s = .next (u.reply k.code p tag x v .reply) := by
  rw [hi, request_directed s k p tag q own h, ho]

theorem answers_of_directed {x : Status} {v : List Byte} (ho : own s = ⟨u, x, v, .reply⟩) : Answers i s u k p tag x v :=
  ⟨_, exec_of_directed h hi ho, reply_replied u k p tag x v .reply MessageRole.noConfusion⟩

end

/-- R201: a reply that is placed is among the last replies of its port. -/
theorem Replied.lastReply {u t : State} {k : ReqKind} {p : Port} {tag : Byte} {x : Status} {v : List Byte}
    (h : Replied u t k p tag x v) : t.lastReply p k tag x v := by
  obtain ⟨m, out, body, _, role⟩ := h.placed
  exact ⟨m, by rw [out]; exact List.mem_append_right _ List.mem_cons_self, role, body⟩

/-! ### The sync tick at a changed period (R179) -/

/-- R179: the runner after a change of the effective period. -/
def State.syncMoved (s : State) : Prr :=
  match s.prr.running with
  | some ⟨n, at_, .sync t tick⟩ =>
    if t.list.any fun x => (s.msu.imu x).syncAt.isSome then
      { s.prr with running := some ⟨n, at_, .sync t (ceilTo s.period tick)⟩ }
    else s.prr
  | _ => s.prr

theorem reformSync_same {s : State} {n : Nat} (h : s.period = n) : s.reformSync n = s := if_pos h

/-- R179, R34: what a changed period moves. -/
theorem reformSync_changed {s : State} {n : Nat} (h : s.period ≠ n) : s.reformSync n = { s with
    msu := { s.msu with
      barred := if s.lt % n = 0 then s.msu.barred else some s.lt
      a := { s.msu.a with syncAt := s.msu.a.syncAt.map (ceilTo s.period) }
      b := { s.msu.b with syncAt := s.msu.b.syncAt.map (ceilTo s.period) } }
    prr := s.syncMoved } := by
  unfold State.reformSync
  rw [if_neg h]
  rfl

theorem syncMoved_free {s : State} (ha : s.msu.a.syncAt = none) (hb : s.msu.b.syncAt = none) : s.syncMoved = s.prr := by
  have free (x : Sensor) : (s.msu.imu x).syncAt.isSome = false := by
    cases x
    · exact congrArg Option.isSome ha
    · exact congrArg Option.isSome hb
  unfold State.syncMoved
  split
  · exact if_neg (by simp [free])
  · rfl

theorem syncMoved_held {s : State} {n at_ : Nat} {t : Targets} {tick : Nat} (h : s.prr.running = some ⟨n, at_, .sync t tick⟩)
    (hx : ∃ x ∈ t.list, (s.msu.imu x).syncAt ≠ none) :
    s.syncMoved = { s.prr with running := some ⟨n, at_, .sync t (ceilTo s.period tick)⟩ } := by
  obtain ⟨x, mem, held⟩ := hx
  unfold State.syncMoved
  rw [h]
  exact if_pos (List.any_eq_true.2 ⟨x, mem, Option.isSome_iff_ne_none.2 held⟩)

/-! ### SET_SENSOR_RATE and SET_WEAR -/

/-- R48: the requested rate taken, before the sync tick moves. -/
def State.rated (s : State) (r : Nat) : State := s.modMsu fun m => { m with requestedRate := r }

theorem setRate_good {s : State} {q : List Byte}
    (h : q.length = 2 ∧ (natAt q 0 2 = 1000 ∨ natAt q 0 2 = 500 ∨ natAt q 0 2 = 250)) : setRate q s =
      .ok ((s.rated (natAt q 0 2)).reformSync s.period) [] := by
  rw [setRate, parseRate, if_pos h]
  rfl

theorem setRate_bad {s : State} {q : List Byte}
    (h : ¬ (q.length = 2 ∧ (natAt q 0 2 = 1000 ∨ natAt q 0 2 = 500 ∨ natAt q 0 2 = 250))) :
    setRate q s = .plain s .badArgument := by
  rw [setRate, parseRate, if_neg h]

/-- R47: the ranges of the wear settings. -/
def WearInRange (q : List Byte) : Prop :=
  q.length = 6 ∧ natAt q 0 2 ≤ 4095 ∧ natAt q 2 2 < natAt q 0 2 ∧ 1 ≤ natAt q 4 2 ∧ natAt q 4 2 ≤ 600

/-- R47: the three settings taken, and both counts zero. -/
def State.wearTaken (s : State) (q : List Byte) : State := { s with msu := { s.msu with
  wornThreshold := natAt q 0 2, removedThreshold := natAt q 2 2, awayTime := natAt q 4 2, wornCount := 0, removedCount := 0 } }

theorem setWear_good {s : State} {q : List Byte} (h : WearInRange q) : setWear q s = .ok (s.wearTaken q).awayExpires [] := by
  obtain ⟨len, worn, below, least, most⟩ := h
  rw [setWear, parseWear, if_pos ⟨len, worn, by dsimp only; omega, least, most, below⟩]
  rfl

theorem setWear_bad {s : State} {q : List Byte} (h : ¬ WearInRange q) : setWear q s = .plain s .badArgument := by
  rw [setWear, parseWear, if_neg fun ⟨len, worn, _, least, most, below⟩ => h ⟨len, worn, below, least, most⟩]

theorem awayExpires_early {s : State} (h : ∀ since, s.msu.wear = .removed since → s.lt < since + s.msu.awayTime * 1000000) :
    s.awayExpires = s := by
  refine if_neg ?_
  unfold Msu.awayAt
  split
  next since hw =>
    simp only [State.expired, decide_eq_true_eq, Nat.not_le]
    exact h since hw
  · exact Bool.false_ne_true

theorem awayExpires_due {s : State} {since : Nat} (hw : s.msu.wear = .removed since)
    (h : since + s.msu.awayTime * 1000000 ≤ s.lt) : s.awayExpires = s.changeWear .away := by
  refine if_pos ?_
  rw [Msu.awayAt, hw]
  exact decide_eq_true h

/-- R118, R45: a wear state AWAY blanks where the profile says so. -/
theorem changeWear_away_dark {s : State} (h : s.fst.profile.awayBlank = true) :
    (s.changeWear .away).ilg.output = .dark := by
  refine judgeDark_dark (x := .away) ?_
  simp [State.causeHolds, h]

/-- Settles O42: each request by its rule, with the change of period or of the wear state that it makes. -/
theorem motionSettingsAreTaken : Obligations.MotionSettingsAreTaken := by
  intro s p tag q
  refine ⟨fun h => ⟨fun good => ?_, fun bad => answers_of_directed h rfl (setRate_bad bad)⟩, fun h => ⟨fun good early => ?_,
    fun good ⟨since, hw, due⟩ => ?_, fun bad => answers_of_directed h rfl (setWear_bad bad)⟩⟩
  · refine ⟨_, answers_of_directed h rfl (setRate_good good), ?_⟩
    by_cases same : (s.rated (natAt q 0 2)).period = s.period
    · rw [reformSync_same same]
      refine ⟨rfl, rfl, fun x => ?_, rfl, (if_pos (.inl same)).symm, fun _ _ => rfl, fun _ => rfl,
        fun _ _ _ _ _ changed => absurd same changed⟩
      rw [if_pos same]
      cases x <;> rfl
    · rw [reformSync_changed same]
      refine ⟨rfl, rfl, fun x => ?_, rfl, ?_, syncMoved_free (s := s.rated (natAt q 0 2)), fun e => absurd e same,
        fun _ _ _ _ hr _ => syncMoved_held (s := s.rated (natAt q 0 2)) hr⟩
      · refine Eq.trans ?_ (if_neg same).symm
        cases x <;> rfl
      · exact if_congr (or_iff_right same).symm rfl rfl
  · have taken : Answers (.setWear p tag q) s (s.wearTaken q).awayExpires .setWear p tag .ok [] :=
      answers_of_directed h rfl (setWear_good good)
    rw [awayExpires_early (s := s.wearTaken q) early] at taken
    exact taken
  · have run : exec (.setWear p tag q) s =
        .next (((s.wearTaken q).changeWear .away).reply ReqKind.setWear.code p tag .ok [] .reply) :=
      exec_of_directed h rfl ((setWear_good good).trans
        (congrArg (Answer.ok · []) (awayExpires_due (s := s.wearTaken q) hw due)))
    have replied := reply_replied ((s.wearTaken q).changeWear .away) .setWear p tag .ok [] .reply MessageRole.noConfusion
    refine ⟨_, run, replied.lastReply, ?_, ?_, ?_, fun blank => ?_⟩
    · rw [replied.rest]
      exact changeWear_msu (s.wearTaken q) .away
    · rw [replied.rest]
      exact changeWear_pending (s.wearTaken q) .away
    · rw [replied.rest]
      exact changeWear_wearChanges (s.wearTaken q) .away
    · rw [replied.rest]
      exact changeWear_away_dark (s := s.wearTaken q) blank

end Sys2Proof.Machine
end

section
/-!
What the MSU's reports to the OIN, the PRR and the NTU leave alone (R59 to R63, R175), said once each; and the start-up exchange,
the entries into RUNNING and FAULT, the retry and the silence watch (O45).
-/

namespace Sys2Proof.Machine

/-- Reports of an IMU or of a sample have been acted on: the MSU is as it was, a block in transmission goes on, counters but those
of failovers and notices stand, and what was pending is, but for POSE_STALE, pending. -/
structure Told (s t : State) : Prop where
  msu : t.msu = s.msu
  step : t.tlc.stepMotion = s.tlc.stepMotion
  sending : s.tlc.tx ≠ none → t.tlc = s.tlc
  counts : ∀ c, c ≠ .imuFailovers → c ≠ .noticesIssued → c ≠ .noticesCoalesced → t.count c = s.count c
  raised : ∀ c, c ≠ .poseStale → s.ntu.pending.has c = true → t.ntu.pending.has c = true

/-- The same where no sample is taken: the pose, its ring and what it is computed with are as they were. -/
structure Reported (s t : State) : Prop extends Told s t where
  oin : t.oin = { s.oin with
    primary := t.oin.primary, residues := t.oin.residues, lastTime := t.oin.lastTime
    failoverPending := t.oin.failoverPending, satRun := t.oin.satRun, silenceAt := t.oin.silenceAt }

/-- The same where the PRR has not acted. -/
structure Rebound (s t : State) : Prop extends Reported s t where
  prr : t.prr = s.prr

theorem Told.trans {s t u : State} (h : Told s t) (g : Told t u) : Told s u := by
  refine ⟨g.msu.trans h.msu, g.step.trans h.step, fun tx => ?_,
    fun c a b d => (g.counts c a b d).trans (h.counts c a b d), fun c a => g.raised c a ∘ h.raised c a⟩
  have kept := h.sending tx
  exact (g.sending (by rw [kept]; exact tx)).trans kept

namespace Reported

section
variable {s t u : State}

theorem trans (h : Reported s t) (g : Reported t u) : Reported s u :=
  ⟨h.toTold.trans g.toTold, by rw [g.oin, h.oin]⟩

/-- What a report to the NTU alone leaves. -/
theorem of_notices (h : SameButNotices s t) (sending : s.tlc.tx ≠ none → t.tlc = s.tlc)
    (raised : ∀ c, c ≠ .poseStale → s.ntu.pending.has c = true → t.ntu.pending.has c = true) : Reported s t :=
  ⟨⟨h.msu, h.stepMotion, sending, fun c _ => h.counts c, raised⟩, by rw [h.oin]⟩

end

variable (s : State)

theorem refl : Reported s s := ⟨⟨rfl, rfl, fun _ => rfl, fun _ _ _ _ => rfl, fun _ _ h => h⟩, rfl⟩

theorem raise (c : Condition) : Reported s (s.raise c) := by
  refine of_notices (sbn_raise s c) (fun tx => raise_tlc_of_not_mayStart ?_ c) fun d _ h => ?_
  · simp [State.mayStart, Option.isNone_eq_false_iff, Option.isSome_iff_ne_none, tx]
  · rw [raise_pending, Masks.has_put, h, Bool.or_true]

theorem modPrr (f : Prr → Prr) : Reported s (s.modPrr f) :=
  ⟨⟨rfl, rfl, fun _ => rfl, fun _ _ _ _ => rfl, fun _ _ h => h⟩, rfl⟩

theorem endProc (r : ProcResult) (v : List ProcValue) : Reported s (s.endProc r v) := by
  unfold State.endProc
  split
  · exact refl s
  · exact (modPrr s _).trans (raise _ _)

theorem targetLeft (x : Sensor) : Reported s (s.targetLeft x) := by
  unfold State.targetLeft
  split
  · exact endProc s _ _
  · exact refl s

theorem collect (x : Sensor) (r : Axes) (t : Int) : Reported s (s.collect x r t) := by
  unfold State.collect
  split
  · split
    · exact modPrr s _
    · exact refl s
  · exact refl s

theorem syncDone (t : Tick) : Reported s (s.syncDone t) := by
  unfold State.syncDone
  split
  · split
    · exact endProc s _ _
    · exact refl s
  · exact refl s

end Reported

namespace Rebound

theorem trans {s t u : State} (h : Rebound s t) (g : Rebound t u) : Rebound s u :=
  ⟨h.toReported.trans g.toReported, g.prr.trans h.prr⟩

variable (s : State)

theorem refl : Rebound s s := ⟨.refl s, rfl⟩

theorem raise (c : Condition) : Rebound s (s.raise c) := ⟨.raise s c, State.raise_prr s c⟩

theorem lowerStale : Rebound s (s.lower .poseStale) := by
  refine ⟨.of_notices (sbn_lower s _) (fun _ => lower_tlc s _) fun d hd h => ?_, State.lower_prr s _⟩
  rw [lower_pending, has_drop_of_ne hd, h]

theorem followStale : Rebound s s.followStale := by
  unfold State.followStale State.follow
  split
  · exact raise s _
  · exact lowerStale s

/-- The binding, the watch and the failure tests of the OIN move. -/
theorem modOin (f : Oin → Oin) (h : f s.oin = { s.oin with
    primary := (f s.oin).primary, residues := (f s.oin).residues, lastTime := (f s.oin).lastTime
    failoverPending := (f s.oin).failoverPending, satRun := (f s.oin).satRun, silenceAt := (f s.oin).silenceAt }) :
    Rebound s (s.modOin f) := ⟨⟨⟨rfl, rfl, fun _ => rfl, fun _ _ _ _ => rfl, fun _ _ h => h⟩, h⟩, rfl⟩

theorem bind (x : Sensor) : Rebound s (s.bind x) := modOin s _ rfl

theorem bumpFailovers : Rebound s (s.bump .imuFailovers) :=
  ⟨⟨⟨rfl, rfl, fun _ => rfl, fun c h _ _ => by rw [count_bump, if_neg h], fun _ _ h => h⟩, rfl⟩, rfl⟩

theorem failover : Rebound s s.failover := ((bind s _).trans (bumpFailovers _)).trans (raise _ _)

theorem primaryFails : Rebound s s.primaryFails := by
  unfold State.primaryFails
  split
  · exact failover s
  · exact modOin s _ rfl

theorem primaryLeft (x : Sensor) : Rebound s (s.primaryLeft x) := by
  unfold State.primaryLeft
  split
  · exact modOin s _ rfl
  · exact refl s

theorem reportFault (x : Sensor) : Rebound s (s.reportFault x) := by
  unfold State.reportFault
  split
  · exact (primaryLeft s x).trans (primaryFails _)
  · exact refl s

theorem reportOff (x : Sensor) : Rebound s (s.reportOff x) := by
  unfold State.reportOff
  split
  · exact (primaryLeft s x).trans (modOin _ _ rfl)
  · exact refl s

theorem testSample (b : Bool) : Rebound s (s.testSample b) := by
  have watched := modOin s (fun o => { o with silenceAt := some (s.lt + Config.silenceLimit) }) rfl
  unfold State.testSample
  dsimp only
  split
  · split
    · exact (watched.trans (modOin _ _ rfl)).trans (primaryFails _)
    · exact watched.trans (modOin _ _ rfl)
  · exact watched.trans (modOin _ _ rfl)

end Rebound

/-! ### An entry into FAULT (R32) -/

/-- What is done to an IMU depends on what it holds. -/
theorem modImu_congr {s : State} {x : Sensor} {f g : Imu → Imu} (h : f (s.msu.imu x) = g (s.msu.imu x)) :
    s.modImu x f = s.modImu x g := congrArg (fun i => { s with msu := s.msu.setImu x i }) h

/-- R32: an IMU has entered FAULT, and the condition and the counter have moved; the OIN and the PRR have still to act. -/
def State.faultRaised (s : State) (x : Sensor) : State :=
  ((s.modImu x fun i => i.toFault (s.lt + Config.imuRetry)).bump (imuFaults x)).raise (imuFault x)

theorem enterFault_eq (s : State) (x : Sensor) : s.enterFault x =
    if s.imuRunning x then ((s.faultRaised x).reportFault x).targetLeft x else (s.faultRaised x).reportFault x := rfl

theorem imuFault_ne_poseStale (x : Sensor) : imuFault x ≠ .poseStale := by cases x <;> exact Condition.noConfusion

theorem faultRaised_pending (s : State) (x : Sensor) : (s.faultRaised x).ntu.pending.has (imuFault x) = true := by
  rw [State.faultRaised, raise_pending, Masks.has_put, decide_eq_true rfl, Bool.true_or]

/-- The counters of an IMU are neither those of failovers nor those of notices. -/
theorem told_imuFaults {s t : State} (h : Told s t) (x : Sensor) : t.count (imuFaults x) = s.count (imuFaults x) := by
  cases x <;> exact h.counts _ Counter.noConfusion Counter.noConfusion Counter.noConfusion

theorem faultRaised_count (s : State) (x : Sensor) :
    (s.faultRaised x).count (imuFaults x) = oneMore (s.count (imuFaults x)) := by
  rw [State.faultRaised, told_imuFaults (Reported.raise _ _).toTold, count_bump, if_pos rfl]
  rfl

/-- R32: what an IMU, its condition and its counter are after an entry into FAULT from `s`. -/
structure Faulted (x : Sensor) (s t : State) : Prop where
  state : (t.msu.imu x).state = .fault (s.lt + 100000)
  held : (t.msu.imu x).faultHeld = true
  raised : t.ntu.pending.has (imuFault x) = true
  counted : t.count (imuFaults x) = oneMore (s.count (imuFaults x))

theorem enterFault_told (s : State) (x : Sensor) : Reported (s.faultRaised x) (s.enterFault x) := by
  rw [enterFault_eq]
  split
  · exact (Rebound.reportFault _ x).toReported.trans (.targetLeft _ x)
  · exact (Rebound.reportFault _ x).toReported

theorem enterFault_faulted (s : State) (x : Sensor) : Faulted x s (s.enterFault x) := by
  have told := enterFault_told s x
  have imu : (s.enterFault x).msu.imu x = (s.msu.imu x).toFault (s.lt + 100000) := by
    rw [enterFault_msu, ReaderStep.imu_modImu]
    rfl
  exact ⟨by rw [imu]; rfl, by rw [imu]; rfl, told.raised _ (imuFault_ne_poseStale x) (faultRaised_pending s x),
    (told_imuFaults told.toTold x).trans (faultRaised_count s x)⟩

theorem enterFault_angles (s : State) (x : Sensor) : (s.enterFault x).oin.angles = s.oin.angles := by
  rw [(enterFault_told s x).oin, State.faultRaised, State.raise_oin]
  rfl

theorem enterFault_queue (s : State) (x : Sensor) : (s.enterFault x).msu.queue = s.msu.queue := by
  rw [enterFault_msu]
  cases x <;> rfl

/-- R175, R180: the PRR is told of an entry into FAULT only where the IMU was RUNNING. -/
theorem enterFault_prr {s : State} {x : Sensor} (h : (s.msu.imu x).state ≠ .running) : (s.enterFault x).prr = s.prr := by
  rw [enterFault_eq, if_neg (by simpa [State.imuRunning] using h), (Rebound.reportFault _ x).prr]
  exact State.raise_prr _ _

/-! ### The start-up exchange (R30, R32) -/

section
variable {s : State} {x : Sensor} {k : StartStep} {e : Nat} (h : (s.msu.imu x).state = .starting k e)
include h

theorem exec_startup_succeeded (ok : Bool) :
    exec (.imuStartupTransaction x (.succeeded ok)) s = .next (s.startupGoesOn x k e ok) := by
  simp only [exec, execImuStartupTransaction, h]

theorem exec_startup_failed : exec (.imuStartupTransaction x .failed) s =
    .next (if 3 ≤ (s.msu.imu x).fails + 1 then (s.modImu x fun i => { i with fails := i.fails + 1 }).enterFault x
      else s.modImu x fun i => { i with fails := i.fails + 1 }) := by
  simp only [exec, execImuStartupTransaction, h, ReaderStep.imu_modImu]

/-- R30: the state after a transaction of the exchange that succeeded. -/
theorem startup_next (n : StartStep) : (s.modImu x fun i => { i with fails := 0 }).modImu x
    (fun i => { i with state := .starting n e }) = s.modImu x fun i => { i with state := .starting n e, fails := 0 } := by
  cases x <;> rfl

/-- R30, R32: an IMU that is starting enters FAULT, whatever its failures. -/
theorem faults_of_starting (f : Nat) : ∃ t, (s.modImu x fun i => { i with fails := f }).enterFault x = t ∧ Faulted x s t ∧
    t.msu.queue = s.msu.queue ∧ t.pmg = s.pmg ∧ t.oin.angles = s.oin.angles ∧ t.prr = s.prr := by
  have starting : (((s.modImu x fun i => { i with fails := f }).msu.imu x).state) ≠ .running := by
    rw [ReaderStep.imu_modImu]
    simp [h]
  obtain ⟨state, held, raised, counted⟩ := enterFault_faulted (s.modImu x fun i => { i with fails := f }) x
  refine ⟨_, rfl, ⟨state, held, raised, counted⟩, ?_, ?_, enterFault_angles _ x, enterFault_prr starting⟩
  · rw [enterFault_queue]
    cases x <;> rfl
  · exact (ReaderStep.enterFault _ x).pmg_eq

end

/-! ### An entry into RUNNING (R30, R59 to R61) -/

/-- R30, R32: an IMU has entered RUNNING and is no longer fault-held; the OIN has still to act. -/
def State.runningTold (s : State) (x : Sensor) : State :=
  (s.modImu x fun i => { i with state := .running, faultHeld := false }).lower (imuFault x)

theorem other_of_ne {x y : Sensor} (h : x ≠ y) : other y = x := by
  cases x <;> cases y <;> first | rfl | exact absurd rfl h

theorem runningTold_oin (s : State) (x : Sensor) : (s.runningTold x).oin = s.oin := State.lower_oin _ _

theorem runningTold_pending (s : State) (x : Sensor) : (s.runningTold x).ntu.pending.has (imuFault x) = false := by
  rw [State.runningTold, lower_pending, Masks.has_drop, decide_eq_true rfl, Bool.not_true, Bool.false_and]

theorem enterRunning_pending (s : State) (x : Sensor) : (s.enterRunning x).ntu.pending.has (imuFault x) = false := by
  show ((s.runningTold x).reportRunning x).ntu.pending.has (imuFault x) = false
  have clear := runningTold_pending s x
  generalize s.runningTold x = u at clear
  unfold State.reportRunning
  split
  · exact clear
  · split
    · rw [State.failover, raise_pending, has_put_of_ne (by cases x <;> exact Condition.noConfusion)]
      exact clear
    · exact clear

theorem enterRunning_primary {s : State} {x : Sensor} (h : x = s.oin.primary) :
    (s.enterRunning x).oin = { s.oin with silenceAt := some (s.lt + 20000), lastTime := none } := by
  show ((s.runningTold x).reportRunning x).oin = _
  rw [State.reportRunning, if_pos (by rw [runningTold_oin]; exact h.symm), State.modOin_oin, runningTold_oin,
    State.runningTold, State.lower_lt]
  rfl

/-- R60: the entry of the other IMU into RUNNING resolves a pending failover. -/
theorem enterRunning_failover {s : State} {x : Sensor} (h : x ≠ s.oin.primary) (hp : s.oin.failoverPending = true) :
    (s.enterRunning x).oin.primary = x ∧ (s.enterRunning x).ntu.pending.has .imuFailover = true := by
  have moved : s.enterRunning x = (s.runningTold x).failover := by
    show (s.runningTold x).reportRunning x = _
    rw [State.reportRunning, if_neg (by rw [runningTold_oin]; exact h.symm), if_pos (by rw [runningTold_oin]; exact hp)]
  rw [moved, State.failover, State.raise_oin, raise_pending, Masks.has_put]
  refine ⟨?_, rfl⟩
  show other (s.runningTold x).oin.primary = x
  rw [runningTold_oin]
  exact other_of_ne h

/-! ### The silence watch (R59, R60) -/

theorem exec_silenceWatchExpiry {s : State} {e : Nat} (h : s.oin.silenceAt = some e) (he : e ≤ s.lt) :
    exec .silenceWatchExpiry s = .next (s.modOin fun o => { o with silenceAt := none }).primaryFails := by
  simp [exec, execSilenceWatchExpiry, State.expired, h, he]

/-- R60: a failure of the primary with the other IMU RUNNING is a failover to it. -/
theorem primaryFails_moves {s : State} (h : (s.msu.imu (other s.oin.primary)).state = .running) :
    s.primaryFails = ((s.modOin fun o =>
      { o with primary := other s.oin.primary, residues := .zero, lastTime := none, failoverPending := false, satRun := 0
               silenceAt := some (s.lt + 20000) }).bump .imuFailovers).raise .imuFailover := by
  have running : s.imuRunning (other s.oin.primary) = true := by simp [State.imuRunning, h]
  rw [State.primaryFails, if_pos running, State.failover, State.bind, if_pos running]
  rfl

theorem primaryFails_marks {s : State} (h : (s.msu.imu (other s.oin.primary)).state ≠ .running) :
    s.primaryFails = s.modOin fun o => { o with failoverPending := true } := if_neg (by simpa [State.imuRunning] using h)

/-- Settles O45: each step of the exchange by its transaction, the faults of an IMU that starts, its retry, and the watch. -/
theorem imuStartsFaultsAndRetries : Obligations.ImuStartsFaultsAndRetries := by
  intro s x e
  refine ⟨fun ok h => ?_, fun h => ?_, fun ok h => ?_, fun h => ?_, fun k h => ⟨fun hk => ?_, fun hf => ?_, fun hf => ?_,
    fun ht => ?_⟩, fun r h hr => ?_, fun m hm he hx => ⟨fun ho => ?_, fun ho => ?_⟩⟩
  · rw [exec_startup_succeeded h]
    exact congrArg _ (startup_next h .identity)
  · rw [exec_startup_succeeded h]
    exact congrArg _ (startup_next h .scales)
  · rw [exec_startup_succeeded h]
    exact congrArg _ (startup_next h .readBack)
  · have imu : ((s.modImu x fun i => { i with fails := 0 }).enterRunning x).msu.imu x =
        { s.msu.imu x with fails := 0, state := .running, faultHeld := false } := by
      rw [enterRunning_msu, ReaderStep.imu_modImu, ReaderStep.imu_modImu]
    refine ⟨_, exec_startup_succeeded h true, ?_, ?_, ?_, fun hp => ?_, fun hp => ?_⟩
    · exact congrArg Imu.state imu
    · exact congrArg Imu.faultHeld imu
    · exact enterRunning_pending _ x
    · exact enterRunning_primary (s := s.modImu x fun i => { i with fails := 0 }) hp
    · exact enterRunning_failover (s := s.modImu x fun i => { i with fails := 0 }) hp
  · obtain ⟨t, ht, ⟨state, held, raised, counted⟩, rest⟩ := faults_of_starting h 0
    refine ⟨t, ?_, state, held, raised, counted, rest⟩
    rw [exec_startup_succeeded h, ← ht]
    obtain rfl | rfl := hk <;> rfl
  · obtain ⟨t, ht, ⟨state, held, raised, counted⟩, rest⟩ := faults_of_starting h 3
    refine ⟨t, ?_, state, held, raised, counted, rest⟩
    rw [exec_startup_failed h, if_pos (by omega), ← ht]
    exact congrArg (fun u : State => Host.Outcome.next (u.enterFault x)) (modImu_congr (by rw [hf]))
  · rw [exec_startup_failed h, if_neg (by omega)]
  · have same : (s.modImu x fun i => { i with fails := (s.msu.imu x).fails }) = s := by cases x <;> rfl
    obtain ⟨t, hfault, ⟨state, held, raised, counted⟩, rest⟩ := faults_of_starting h (s.msu.imu x).fails
    refine ⟨t, ?_, state, held, raised, counted, rest⟩
    rw [same] at hfault
    simp only [exec, execImuStartupTimeout, h]
    rw [if_pos (show e + Config.startupLimit ≤ s.lt from ht), hfault]
  · simp only [exec, execImuRetryExpiry, h]
    rw [if_pos hr]
    rfl
  · subst hx
    have run := exec_silenceWatchExpiry hm he
    rw [primaryFails_moves (s := s.modOin fun o => { o with silenceAt := none }) ho] at run
    exact ⟨_, run, sbn_raise _ _, raise_pending _ _⟩
  · subst hx
    rw [exec_silenceWatchExpiry hm he, primaryFails_marks (s := s.modOin fun o => { o with silenceAt := none }) ho]
    rfl

end Sys2Proof.Machine
end

section
/-!
The motion queue and the completion of ticks (R35 to R41, R53, R180), said once: what a record does to a queue with room and to a
full one, what it leaves alone, and how a tick is finished.
-/

namespace Sys2Proof.Machine

/-! ### The queue (R40) -/

theorem gapOldest_of_none {x : Sensor} {q : List MotionRecord} (h : ∀ m ∈ q, m.sensor ≠ x) : gapOldest x q = q := by
  induction q with
  | nil => rfl
  | cons r q ih =>
    rw [gapOldest, if_neg (h r List.mem_cons_self), ih fun m hm => h m (List.mem_cons_of_mem _ hm)]

/-- R40: the oldest record of a sensor takes GAP. -/
theorem gapOldest_at {x : Sensor} {before after : List MotionRecord} {m : MotionRecord} (hm : m.sensor = x)
    (h : ∀ k ∈ before, k.sensor ≠ x) :
    gapOldest x (before ++ m :: after) = before ++ { m with gap := true } :: after := by
  induction before with
  | nil => exact if_pos hm
  | cons r before ih =>
    rw [List.cons_append, gapOldest, if_neg (h r List.mem_cons_self), ih fun k hk => h k (List.mem_cons_of_mem _ hk)]
    rfl

theorem any_gapOldest (x y : Sensor) (q : List MotionRecord) :
    (gapOldest x q).any (fun m => m.sensor == y) = q.any fun m => m.sensor == y := by
  induction q with
  | nil => rfl
  | cons r q ih =>
    unfold gapOldest
    split
    · rfl
    · rw [List.any_cons, List.any_cons, ih]

/-- Two records are of the same sample and carry SYNC_MARK alike. -/
def MotionRecord.sameSample (r m : MotionRecord) : Prop := m.sensor = r.sensor ∧ m.seq = r.seq ∧ m.syncMark = r.syncMark

theorem mem_gapOldest {x : Sensor} {q : List MotionRecord} {r : MotionRecord} (h : r ∈ q) :
    ∃ m ∈ gapOldest x q, r.sameSample m := by
  induction q with
  | nil => exact absurd h List.not_mem_nil
  | cons k q ih =>
    unfold gapOldest
    split
    · obtain rfl | h := List.mem_cons.1 h
      · exact ⟨_, List.mem_cons_self, rfl, rfl, rfl⟩
      · exact ⟨r, List.mem_cons_of_mem _ h, rfl, rfl, rfl⟩
    · obtain rfl | h := List.mem_cons.1 h
      · exact ⟨r, List.mem_cons_self, rfl, rfl, rfl⟩
      · obtain ⟨m, hm, same⟩ := ih h
        exact ⟨m, List.mem_cons_of_mem _ hm, same⟩

theorem mem_stepOldest {b : Bool} {q : List MotionRecord} {r : MotionRecord} (h : r ∈ q) :
    ∃ m ∈ stepOldest b q, r.sameSample m := by
  cases q with
  | nil => exact absurd h List.not_mem_nil
  | cons k q =>
    obtain rfl | h := List.mem_cons.1 h
    · exact ⟨_, List.mem_cons_self, rfl, rfl, rfl⟩
    · exact ⟨r, List.mem_cons_of_mem _ h, rfl, rfl, rfl⟩

/-- R40: the record that overflows the queue is in it. -/
theorem mem_overflowed (old : MotionRecord) (rest : List MotionRecord) (r : MotionRecord) :
    ∃ m ∈ overflowed old rest r, r.sameSample m := by
  obtain ⟨k, hk, sensor, seq, mark⟩ := mem_stepOldest (b := old.timeStep) (List.mem_append_right rest (List.mem_singleton.2 rfl))
  obtain ⟨m, hm, sensor', seq', mark'⟩ := mem_gapOldest (x := old.sensor) hk
  exact ⟨m, hm, sensor'.trans sensor, seq'.trans seq, mark'.trans mark⟩

/-! ### A beat that waits goes first (R22) -/

/-- R22: the link is sending a beat, or will at its next opportunity. -/
def State.sends (s : State) (b : Beat) : Prop :=
  s.linkActive = true ∧ (s.tlc.tx = some (.beat b) ∨ s.tlc.tx = none ∧ s.tlc.beat = some b)

namespace State.sends
variable {s : State} {b : Beat}

theorem congr {t : State} (h : t.tlc = s.tlc) : s.sends b → t.sends b := by
  unfold State.sends State.linkActive
  rw [h]
  exact id

theorem opportunity_tx (h : s.sends b) : s.opportunity.tlc.tx = some (.beat b) := by
  obtain ⟨active, sent | ⟨idle, waits⟩⟩ := h
  · rw [opportunity_busy (by rw [sent]; exact Option.some_ne_none _)]
    exact sent
  · rw [opportunity_beat_goes active idle waits]
    rfl

theorem opportunity (h : s.sends b) : s.opportunity.sends b := by
  refine ⟨?_, .inl h.opportunity_tx⟩
  rw [State.linkActive, State.opportunity_tlc_link]
  exact h.1

theorem place (h : s.sends b) (p : Port) (r : MessageRole) (v : List Byte) : (s.place p r v).sends b := by
  unfold State.place
  exact congr (uartStart_tlc _) (opportunity (s := s.modCmu _) h)

theorem issue (h : s.sends b) : s.issue.sends b := by
  unfold State.issue
  split
  · exact h
  · dsimp only
    split
    · exact h
    · exact place (by exact h) _ _ _

theorem noticeDue (h : s.sends b) : s.noticeDue.sends b := by
  unfold State.noticeDue
  split
  · exact h
  · split
    · exact h.issue
    · exact h

theorem raise (h : s.sends b) (c : Condition) : (s.raise c).sends b := by
  unfold State.raise
  split
  · exact h
  · refine congr (attend_tlc _) ?_
    split
    · exact noticeDue (by exact h)
    · exact h

end State.sends

/-! ### A record enters the queue (R39, R40) -/

/-- What a record leaves alone: the OIN, the PRR and the pending conditions, and all counters but one and those of notices. -/
structure Recorded (e : Counter) (s t : State) : Prop where
  oin : t.oin = s.oin
  prr : t.prr = s.prr
  counts : ∀ c, c ≠ e → c ≠ .noticesIssued → c ≠ .noticesCoalesced → t.count c = s.count c
  raised : ∀ c, s.ntu.pending.has c = true → t.ntu.pending.has c = true

namespace Recorded
variable {e : Counter}

theorem trans {s t u : State} (h : Recorded e s t) (g : Recorded e t u) : Recorded e s u :=
  ⟨g.oin.trans h.oin, g.prr.trans h.prr, fun c a b d => (g.counts c a b d).trans (h.counts c a b d),
    fun c => g.raised c ∘ h.raised c⟩

variable (s : State)

theorem refl : Recorded e s s := ⟨rfl, rfl, fun _ _ _ _ => rfl, fun _ h => h⟩

theorem modMsu (f : Msu → Msu) : Recorded e s (s.modMsu f) := ⟨rfl, rfl, fun _ _ _ _ => rfl, fun _ h => h⟩

theorem modTlc (f : Tlc → Tlc) : Recorded e s (s.modTlc f) := ⟨rfl, rfl, fun _ _ _ _ => rfl, fun _ h => h⟩

theorem bump : Recorded e s (s.bump e) := ⟨rfl, rfl, fun c h _ _ => by rw [count_bump, if_neg h], fun _ h => h⟩

theorem raise (c : Condition) : Recorded e s (s.raise c) :=
  ⟨State.raise_oin s c, State.raise_prr s c, fun d _ => (sbn_raise s c).counts d,
    fun d h => by rw [raise_pending, Masks.has_put, h, Bool.or_true]⟩

theorem opportunity : Recorded e s s.opportunity :=
  ⟨State.opportunity_oin s, State.opportunity_prr s, fun d _ => (sbn_opportunity s).counts d,
    fun _ h => by rw [opportunity_ntu]; exact h⟩

theorem cutIf (x : Transmission) : Recorded e s (s.cutIf x) := by
  unfold State.cutIf
  split
  · exact modTlc s _
  · exact refl s

end Recorded

theorem enqueueRecord_room {s : State} {r : MotionRecord} (h : s.msu.queue.length < 64) :
    s.enqueueRecord r = (s.modMsu fun m => { m with queue := m.queue ++ [r] }).opportunity := if_pos h

/-- R40: the queue after a record of a full queue is removed; the gap mark of its sensor where no record takes it. -/
def State.queueOverflowed (s : State) (old : MotionRecord) (rest : List MotionRecord) (r : MotionRecord) : State :=
  if (overflowed old rest r).any (fun m => m.sensor == old.sensor) then
    s.modMsu fun m => { m with queue := overflowed old rest r }
  else (s.modMsu fun m => { m with queue := overflowed old rest r }).modImu old.sensor fun i => { i with gapPending := true }

theorem enqueueRecord_full {s : State} {r old : MotionRecord} {rest : List MotionRecord} (h : 64 ≤ s.msu.queue.length)
    (hq : s.msu.queue = old :: rest) : s.enqueueRecord r =
      (((((s.queueOverflowed old rest r).cutIf .motion).bump .motionQueueDrops).raise .queueDrop)).opportunity := by
  have full : ¬ s.msu.queue.length < Config.motionQueueMax := Nat.not_lt.2 h
  unfold State.enqueueRecord
  rw [if_neg full, hq]
  rfl

theorem queueOverflowed_rest (s : State) (old : MotionRecord) (rest : List MotionRecord) (r : MotionRecord) :
    s.queueOverflowed old rest r = { s with msu := (s.queueOverflowed old rest r).msu } := by
  unfold State.queueOverflowed
  split <;> rfl

theorem queueOverflowed_queue (s : State) (old : MotionRecord) (rest : List MotionRecord) (r : MotionRecord) :
    (s.queueOverflowed old rest r).msu.queue = overflowed old rest r := by
  unfold State.queueOverflowed
  split
  · rfl
  · cases old.sensor <;> rfl

theorem queueOverflowed_msu_congr {s u : State} (h : u.msu = s.msu) (old : MotionRecord) (rest : List MotionRecord)
    (r : MotionRecord) : (u.queueOverflowed old rest r).msu = (s.queueOverflowed old rest r).msu := by
  unfold State.queueOverflowed State.modImu State.modMsu
  rw [h]
  split <;> rfl

theorem queueOverflowed_recorded (s : State) (old : MotionRecord) (rest : List MotionRecord) (r : MotionRecord) :
    Recorded .motionQueueDrops s (s.queueOverflowed old rest r) := by
  rw [queueOverflowed_rest]
  exact .modMsu s fun _ => (s.queueOverflowed old rest r).msu

theorem cutIf_msu (s : State) (x : Transmission) : (s.cutIf x).msu = s.msu := by
  unfold State.cutIf
  split <;> rfl

/-- R39, R40: what a record that enters the queue does in the MSU. -/
theorem enqueueRecord_msu_full {s : State} {r old : MotionRecord} {rest : List MotionRecord} (h : 64 ≤ s.msu.queue.length)
    (hq : s.msu.queue = old :: rest) : (s.enqueueRecord r).msu = (s.queueOverflowed old rest r).msu := by
  rw [enqueueRecord_full h hq, State.opportunity_msu, State.raise_msu, State.bump_msu, cutIf_msu]

theorem enqueueRecord_msu_room {s : State} {r : MotionRecord} (h : s.msu.queue.length < 64) :
    (s.enqueueRecord r).msu = { s.msu with queue := s.msu.queue ++ [r] } := by
  rw [enqueueRecord_room h, State.opportunity_msu]
  rfl

/-- R39: a queue has room, or it is full and has an oldest record. -/
theorem queue_cases (q : List MotionRecord) : q.length < 64 ∨ 64 ≤ q.length ∧ ∃ old rest, q = old :: rest := by
  by_cases h : q.length < 64
  · exact .inl h
  · cases q with
    | nil => exact absurd (Nat.zero_lt_succ 63) h
    | cons old rest => exact .inr ⟨Nat.not_lt.1 h, old, rest, rfl⟩

/-- R39 to R41: a record in the queue moves the queue and gap marks in the MSU. -/
theorem enqueueRecord_msu (s : State) (r : MotionRecord) : (s.enqueueRecord r).msu.ticks = s.msu.ticks ∧
    ∀ x, (s.enqueueRecord r).msu.imu x = { s.msu.imu x with gapPending := ((s.enqueueRecord r).msu.imu x).gapPending } := by
  obtain room | ⟨full, old, rest, hq⟩ := queue_cases s.msu.queue
  · rw [enqueueRecord_msu_room room]
    exact ⟨rfl, fun x => by cases x <;> rfl⟩
  · rw [enqueueRecord_msu_full full hq]
    unfold State.queueOverflowed
    split
    · exact ⟨rfl, fun x => by cases x <;> rfl⟩
    · cases old.sensor <;> exact ⟨rfl, fun x => by cases x <;> rfl⟩

theorem enqueueRecord_recorded (s : State) (r : MotionRecord) : Recorded .motionQueueDrops s (s.enqueueRecord r) := by
  obtain room | ⟨full, old, rest, hq⟩ := queue_cases s.msu.queue
  · rw [enqueueRecord_room room]
    exact (Recorded.modMsu s _).trans (.opportunity _)
  · rw [enqueueRecord_full full hq]
    exact ((((queueOverflowed_recorded s old rest r).trans (.cutIf _ _)).trans (.bump _)).trans (.raise _ _)).trans
      (.opportunity _)

theorem cutIf_stepMotion (s : State) (x : Transmission) : (s.cutIf x).tlc.stepMotion = s.tlc.stepMotion := by
  unfold State.cutIf
  split <;> rfl

theorem enqueueRecord_stepMotion (s : State) (r : MotionRecord) : (s.enqueueRecord r).tlc.stepMotion = s.tlc.stepMotion := by
  obtain room | ⟨full, old, rest, hq⟩ := queue_cases s.msu.queue
  · rw [enqueueRecord_room room, State.opportunity_tlc_stepMotion]
    rfl
  · rw [enqueueRecord_full full hq, State.opportunity_tlc_stepMotion, State.raise_tlc_stepMotion, State.bump_tlc,
      cutIf_stepMotion, queueOverflowed_rest]

/-- R40: the loss of a record is counted and reported. -/
theorem enqueueRecord_drop {s : State} {r old : MotionRecord} {rest : List MotionRecord} (h : 64 ≤ s.msu.queue.length)
    (hq : s.msu.queue = old :: rest) :
    (s.enqueueRecord r).count .motionQueueDrops = oneMore (s.count .motionQueueDrops) ∧
      (s.enqueueRecord r).ntu.pending.has .queueDrop = true := by
  have cut (u : State) : (u.cutIf .motion).count .motionQueueDrops = u.count .motionQueueDrops := by
    unfold State.cutIf
    split <;> rfl
  rw [enqueueRecord_full h hq, State.opportunity_count _ _ Counter.noConfusion Counter.noConfusion,
    State.raise_count _ _ _ Counter.noConfusion Counter.noConfusion, count_bump, if_pos rfl, cut, queueOverflowed_rest,
    opportunity_ntu, raise_pending, Masks.has_put]
  exact ⟨rfl, rfl⟩

/-- R22, R40: a record cut off in transmission makes way for a beat that waits. -/
theorem enqueueRecord_cut {s : State} {r old : MotionRecord} {rest : List MotionRecord} {b : Beat}
    (h : 64 ≤ s.msu.queue.length) (hq : s.msu.queue = old :: rest) (ha : s.linkActive = true)
    (htx : s.tlc.tx = some .motion) (hb : s.tlc.beat = some b) : (s.enqueueRecord r).tlc.tx = some (.beat b) := by
  have cut : ((s.queueOverflowed old rest r).cutIf .motion).sends b := by
    rw [queueOverflowed_rest, State.cutIf, if_pos htx]
    exact ⟨ha, .inr ⟨rfl, hb⟩⟩
  rw [enqueueRecord_full h hq]
  exact (State.sends.raise (by exact cut) _).opportunity_tx

/-! ### The record of a read (R36, R37, R41) -/

/-- R41, R19: the marks of a sensor and of the stream have been taken by its record. -/
def State.marksTaken (s : State) (x : Sensor) : State :=
  (s.modImu x fun i => { i with gapPending := false, syncPending := false }).modTlc fun c => { c with stepMotion := false }

/-- R37: a saturated sample is counted and reported. -/
def State.saturationTold (s : State) (b : Bool) : State := if b then (s.bump .saturatedSamples).raise .saturation else s

theorem makeRecord_eq (s : State) (t : Nat) (r : Read) (d : ImuData) : s.makeRecord t r d =
    ((s.marksTaken r.sensor).saturationTold (dataSaturated d)).enqueueRecord (s.recordOf t r d) := rfl

theorem saturationTold_same (s : State) (b : Bool) : (s.saturationTold b).msu = s.msu ∧
    (s.saturationTold b).tlc.stepMotion = s.tlc.stepMotion ∧ (s.tlc.tx ≠ none → (s.saturationTold b).tlc = s.tlc) := by
  cases b
  · exact ⟨rfl, rfl, fun _ => rfl⟩
  · have told := Reported.raise (s.bump .saturatedSamples) .saturation
    exact ⟨told.msu, told.step, told.sending⟩

/-- R41: the queue when the record of a read comes to enter it. -/
theorem recording_queue (s : State) (r : Read) (b : Bool) :
    ((s.marksTaken r.sensor).saturationTold b).msu.queue = s.msu.queue := by
  rw [(saturationTold_same _ _).1]
  cases r.sensor <;> rfl

theorem saturationTold_recorded (s : State) (b : Bool) : Recorded .saturatedSamples s (s.saturationTold b) := by
  cases b
  · exact .refl s
  · exact (Recorded.bump s).trans (.raise _ _)

section
variable (s : State) (t : Nat) (r : Read) (d : ImuData)

theorem makeRecord_oin : (s.makeRecord t r d).oin = s.oin := by
  rw [makeRecord_eq, (enqueueRecord_recorded _ _).oin, (saturationTold_recorded _ _).oin]
  rfl

theorem makeRecord_prr : (s.makeRecord t r d).prr = s.prr := by
  rw [makeRecord_eq, (enqueueRecord_recorded _ _).prr, (saturationTold_recorded _ _).prr]
  rfl

theorem makeRecord_stepMotion : (s.makeRecord t r d).tlc.stepMotion = false := by
  rw [makeRecord_eq, enqueueRecord_stepMotion, (saturationTold_same _ _).2.1]
  rfl

theorem makeRecord_ticks : (s.makeRecord t r d).msu.ticks = s.msu.ticks := by
  rw [makeRecord_eq, (enqueueRecord_msu _ _).1, (saturationTold_same _ _).1]
  cases r.sensor <;> rfl

/-- R41: an IMU after a record is as before but for its marks. -/
theorem makeRecord_imu (x : Sensor) : (s.makeRecord t r d).msu.imu x =
    { (s.marksTaken r.sensor).msu.imu x with gapPending := ((s.makeRecord t r d).msu.imu x).gapPending } := by
  conv_lhs => rw [makeRecord_eq, (enqueueRecord_msu _ _).2, (saturationTold_same _ _).1, ← makeRecord_eq]

variable {s}

theorem makeRecord_room (h : s.msu.queue.length < 64) : (s.makeRecord t r d).msu =
    { (s.marksTaken r.sensor).msu with queue := s.msu.queue ++ [s.recordOf t r d] } := by
  rw [makeRecord_eq, enqueueRecord_msu_room (by rw [recording_queue]; exact h), recording_queue, (saturationTold_same _ _).1]

/-- R37: saturation of a sample that is recorded. -/
theorem makeRecord_saturation (h : dataSaturated d = true) : (s.makeRecord t r d).ntu.pending.has .saturation = true ∧
    (s.makeRecord t r d).count .saturatedSamples = oneMore (s.count .saturatedSamples) := by
  have queued := enqueueRecord_recorded ((s.marksTaken r.sensor).saturationTold true) (s.recordOf t r d)
  have told : (s.marksTaken r.sensor).saturationTold true = ((s.marksTaken r.sensor).bump .saturatedSamples).raise .saturation := rfl
  rw [makeRecord_eq, h]
  refine ⟨queued.raised _ ?_, (queued.counts _ Counter.noConfusion Counter.noConfusion Counter.noConfusion).trans ?_⟩
  · rw [told, raise_pending, Masks.has_put]
    rfl
  · rw [told, State.raise_count _ _ _ Counter.noConfusion Counter.noConfusion, count_bump, if_pos rfl]
    rfl

section
variable {old : MotionRecord} {rest : List MotionRecord} (h : 64 ≤ s.msu.queue.length) (hq : s.msu.queue = old :: rest)
include h hq

/-- R40: the MSU after the record of a read has made the oldest of a full queue go. -/
theorem makeRecord_full : (s.makeRecord t r d).msu =
    ((s.marksTaken r.sensor).queueOverflowed old rest (s.recordOf t r d)).msu := by
  rw [makeRecord_eq, enqueueRecord_msu_full (by rw [recording_queue]; exact h) ((recording_queue s r _).trans hq)]
  exact queueOverflowed_msu_congr (saturationTold_same _ _).1 old rest _

theorem makeRecord_drop : (s.makeRecord t r d).count .motionQueueDrops = oneMore (s.count .motionQueueDrops) ∧
    (s.makeRecord t r d).ntu.pending.has .queueDrop = true := by
  obtain ⟨counted, raised⟩ := enqueueRecord_drop (r := s.recordOf t r d)
    (s := (s.marksTaken r.sensor).saturationTold (dataSaturated d)) (by rw [recording_queue]; exact h)
    ((recording_queue s r _).trans hq)
  have kept := (saturationTold_recorded (s.marksTaken r.sensor) (dataSaturated d)).counts .motionQueueDrops
    Counter.noConfusion Counter.noConfusion Counter.noConfusion
  exact ⟨by rw [makeRecord_eq, counted, kept]; rfl, raised⟩

theorem makeRecord_cut {c : Channel} {b : Beat} (hl : s.tlc.link = .active c) (htx : s.tlc.tx = some .motion)
    (hb : s.tlc.beat = some b) : (s.makeRecord t r d).tlc.tx = some (.beat b) := by
  have kept : ((s.marksTaken r.sensor).saturationTold (dataSaturated d)).tlc = { s.tlc with stepMotion := false } :=
    (saturationTold_same _ _).2.2 (by show s.tlc.tx ≠ none; rw [htx]; exact Option.some_ne_none _)
  rw [makeRecord_eq]
  exact enqueueRecord_cut (by rw [recording_queue]; exact h) ((recording_queue s r _).trans hq)
    (linkActive_of (by rw [kept]; exact hl)) (by rw [kept]; exact htx) (by rw [kept]; exact hb)

end

end

end Sys2Proof.Machine
end

section
/-!
The samples of a completed tick (R53 to R56), the end of a SENSOR_SYNC (R180), and the completion that follows the end of a read
(R35, R36, R41).
-/

namespace Sys2Proof.Machine

/-! ### The end of a procedure (R169, R180) -/

theorem endProc_oin (s : State) (r : ProcResult) (v : List ProcValue) : (s.endProc r v).oin = s.oin := by
  unfold State.endProc
  split
  · rfl
  · exact State.raise_oin _ _

theorem endProc_running {s : State} {run at_ : Nat} {w : Work} (h : s.prr.running = some ⟨run, at_, w⟩) (r : ProcResult)
    (v : List ProcValue) :
    (s.endProc r v).prr = ⟨none, s.prr.runNumber, some ⟨w.kind, run, r, at_, s.lt, v⟩⟩ ∧
      (s.endProc r v).ntu.pending.has .procDone = true := by
  unfold State.endProc
  rw [h]
  dsimp only
  rw [State.raise_prr, raise_pending, Masks.has_put]
  exact ⟨rfl, rfl⟩

theorem syncDone_oin (s : State) (k : Tick) : (s.syncDone k).oin = s.oin := by
  unfold State.syncDone
  split
  · split
    · exact endProc_oin s _ _
    · rfl
  · rfl

/-- R180: a completion with an outcome for each target ends the SENSOR_SYNC of its tick. -/
theorem syncDone_ends {s : State} {run at_ : Nat} {tg : Targets} {k : Tick}
    (h : s.prr.running = some ⟨run, at_, .sync tg k.time⟩) (hk : tg.list.all fun x => (k.outcome x).isSome) :
    s.syncDone k = s.endProc .done (.time k.time :: tg.list.filterMap k.outcome) := by
  unfold State.syncDone
  rw [h]
  exact if_pos ⟨rfl, hk⟩

/-- R180: with no SENSOR_SYNC running a completion ends none. -/
theorem syncDone_idle {s : State} (h : s.prr.running = none) (k : Tick) : s.syncDone k = s := by
  unfold State.syncDone
  rw [h]

/-! ### Samples (R53 to R56, R174) -/

theorem collect_oin (s : State) (x : Sensor) (r : Axes) (t : Int) : (s.collect x r t).oin = s.oin := by
  unfold State.collect
  split
  · split <;> rfl
  · rfl

/-- R174: only a BIAS_CAL collects. -/
theorem collect_of_sync {s : State} {run at_ : Nat} {tg : Targets} {tick : Nat}
    (h : s.prr.running = some ⟨run, at_, .sync tg tick⟩) (x : Sensor) (r : Axes) (t : Int) : s.collect x r t = s := by
  unfold State.collect
  rw [h]

/-- R54 to R56: a sample of the primary is integrated; the OIN has still to judge it. -/
def State.integrated (s : State) (t : Nat) (r : Read) (d : ImuData) : State :=
  if s.oin.primary = r.sensor then s.modOin fun o => o.integrate r.sensor t (dataRates d) else s

theorem takeSample_rebound (s : State) (t : Nat) (r : Read) (d : ImuData) :
    Rebound (s.integrated t r d) (s.takeSample r.sensor t (dataRates d) (dataSaturated d)) := by
  unfold State.integrated State.takeSample
  split
  · exact (Rebound.followStale _).trans (.testSample _ _)
  · exact .refl s

theorem handSample_reported (s : State) (t : Nat) (r : Read) (d : ImuData) :
    Reported (s.integrated t r d) (s.handSample t r d) :=
  (takeSample_rebound s t r d).toReported.trans (.collect _ _ _ _)

theorem handSample_told (s : State) (t : Nat) (r : Read) (d : ImuData) : Told s (s.handSample t r d) := by
  have moved : Told s (s.integrated t r d) := by
    unfold State.integrated
    split <;> exact ⟨rfl, rfl, fun _ => rfl, fun _ _ _ _ => rfl, fun _ _ h => h⟩
  exact moved.trans (handSample_reported s t r d).toTold

theorem handSample_prr {s : State} {run at_ : Nat} {tg : Targets} {tick : Nat}
    (h : s.prr.running = some ⟨run, at_, .sync tg tick⟩) (t : Nat) (r : Read) (d : ImuData) :
    (s.handSample t r d).prr = s.prr := by
  have kept : (s.takeSample r.sensor t (dataRates d) (dataSaturated d)).prr = s.prr := by
    rw [(takeSample_rebound s t r d).prr, State.integrated]
    split <;> rfl
  rw [State.handSample, collect_of_sync (by rw [kept]; exact h), kept]

/-- R53: a sample of an IMU that is not the primary is nothing to the OIN. -/
theorem handSample_oin_other {s : State} {r : Read} (h : s.oin.primary ≠ r.sensor) (t : Nat) (d : ImuData) :
    (s.handSample t r d).oin = s.oin := by
  rw [State.handSample, collect_oin, State.takeSample, if_neg h]

theorem testSample_residues {s : State} {b : Bool} (h : b = false ∨ s.oin.satRun < 9) :
    (s.testSample b).oin.residues = s.oin.residues := by
  unfold State.testSample
  dsimp only
  split
  next saturated =>
    have below : ¬ 10 ≤ s.oin.satRun + 1 := by
      have early := h.resolve_left (by rw [saturated]; exact Bool.noConfusion)
      omega
    rw [if_neg (by exact below)]
    rfl
  · rfl

/-- R54 to R56, R59: what a sample of the primary leaves in the OIN. -/
theorem handSample_oin_primary {s : State} {r : Read} (h : s.oin.primary = r.sensor) (t : Nat) (d : ImuData) :
    (s.handSample t r d).oin = { s.oin.integrate r.sensor t (dataRates d) with
      primary := (s.handSample t r d).oin.primary, residues := (s.handSample t r d).oin.residues
      lastTime := (s.handSample t r d).oin.lastTime, failoverPending := (s.handSample t r d).oin.failoverPending
      satRun := (s.handSample t r d).oin.satRun, silenceAt := (s.handSample t r d).oin.silenceAt } ∧
    (dataSaturated d = false ∨ s.oin.satRun < 9 →
      (s.handSample t r d).oin.residues = (s.oin.integrate r.sensor t (dataRates d)).residues) := by
  have told := (handSample_reported s t r d).oin
  rw [State.integrated, if_pos h] at told
  refine ⟨told, fun early => ?_⟩
  have stale : ((s.modOin fun o => o.integrate r.sensor t (dataRates d)).followStale).oin =
      s.oin.integrate r.sensor t (dataRates d) := State.follow_oin _ _ _
  rw [State.handSample, collect_oin, State.takeSample, if_pos h, testSample_residues (by rw [stale]; exact early), stale]

/-! ### Completion (R35, R36, R41) -/

theorem modImu_self {s : State} {x : Sensor} {f : Imu → Imu} (h : f (s.msu.imu x) = s.msu.imu x) : s.modImu x f = s := by
  rw [modImu_congr (g := id) h]
  cases x <;> rfl

/-- R41: where failed reads have marked their gap, a completion marks none. -/
theorem markGaps_of_marked {s : State} {k : Tick} (h : ∀ x, k.failed x = true → (s.msu.imu x).gapPending = true) :
    s.markGaps k = s := by
  have same (x : Sensor) : { s.msu.imu x with gapPending := (s.msu.imu x).gapPending || k.failed x } = s.msu.imu x := by
    have marked : ((s.msu.imu x).gapPending || k.failed x) = (s.msu.imu x).gapPending := by
      cases hf : k.failed x
      · exact Bool.or_false _
      · rw [h x hf, Bool.true_or]
    rw [marked]
  unfold State.markGaps
  dsimp only
  rw [modImu_self (x := .a) (same .a)]
  exact modImu_self (same .b)

theorem markGaps_rest (s : State) (k : Tick) : s.markGaps k = { s with msu := { s.msu with
    a := (s.markGaps k).msu.a, b := (s.markGaps k).msu.b } } := rfl

theorem markGaps_imu (s : State) (k : Tick) (x : Sensor) : (s.markGaps k).msu.imu x =
    { s.msu.imu x with gapPending := (s.msu.imu x).gapPending || k.failed x } := by cases x <;> rfl

/-- R35: every tick has ended, and all complete in order. -/
theorem completeTicks_all {s : State} {ks : List Tick} (h : s.msu.ticks = ks) (he : ∀ k ∈ ks, k.ended = true) :
    s.completeTicks = ks.foldl State.finishTick (s.modMsu fun m => { m with ticks := [] }) := by
  unfold State.completeTicks
  rw [h, List.takeWhile_eq_self_iff.2 he]
  have none : s.msu.ticks.dropWhile Tick.ended = [] := by
    rw [h]
    exact List.dropWhile_eq_nil_iff.2 he
  exact congrArg (fun q => ks.foldl State.finishTick { s with msu := { s.msu with ticks := q } }) none

/-- R36, R53: a tick of one read that succeeded gives its record, then its sample. -/
theorem finishTick_succeeded (s : State) (t : Nat) (n : Seq) (x : Sensor) (y : Bool) (d : ImuData) :
    s.finishTick ⟨t, [⟨x, n, y, .succeeded d⟩]⟩ =
      (((s.markGaps ⟨t, [⟨x, n, y, .succeeded d⟩]⟩).makeRecord t ⟨x, n, y, .succeeded d⟩ d).handSample t
        ⟨x, n, y, .succeeded d⟩ d).syncDone ⟨t, [⟨x, n, y, .succeeded d⟩]⟩ := by cases y <;> rfl

theorem finishTick_failed (s : State) (t : Nat) (n : Seq) (x : Sensor) (y : Bool) :
    s.finishTick ⟨t, [⟨x, n, y, .failed⟩]⟩ =
      (s.markGaps ⟨t, [⟨x, n, y, .failed⟩]⟩).syncDone ⟨t, [⟨x, n, y, .failed⟩]⟩ := by cases y <;> rfl

/-! ### The end of a read (R28, R35) -/

/-- R28, R35: the read in progress with an IMU has failed, at ticks that are now `ks`; the IMU has still to enter FAULT. -/
def State.readLost (s : State) (x : Sensor) (y : Bool) (ks : List Tick) : State :=
  ((s.modMsu fun m => { m with ticks := ks }).modImu x fun i =>
    { i with fails := i.fails + 1, gapPending := true, syncPending := i.syncPending || y }).bump (readFailures x)

/-- R28, R35: the read in progress with an IMU has succeeded, and no tick is left. -/
def State.readMade (s : State) (x : Sensor) : State :=
  (s.modMsu fun m => { m with ticks := [] }).modImu x fun i => { i with fails := 0 }

/-- R31, R35: the failed read was the third in a row, and the IMU has entered FAULT; no tick is left. -/
def State.readFault (s : State) (x : Sensor) (y : Bool) (ks : List Tick) : State :=
  ((s.readLost x y ks).enterFault x).modMsu fun m => { m with ticks := [] }

section
variable (s : State) (x : Sensor) (y : Bool) (ks : List Tick)

theorem readFault_msu : (s.readFault x y ks).msu = { ((s.readLost x y ks).modImu x fun i =>
    i.toFault (s.lt + 100000)).msu with ticks := [] } := by
  rw [State.readFault, State.modMsu_msu, enterFault_msu]
  rfl

theorem readFault_imu : (s.readFault x y ks).msu.imu x = { s.msu.imu x with
    state := .fault (s.lt + 100000), fails := 0, gapPending := true, syncAt := none, syncPending := false
    faultHeld := true } := by
  rw [readFault_msu]
  cases x <;> rfl

theorem readFault_other : (s.readFault x y ks).msu.imu (other x) = s.msu.imu (other x) := by
  rw [readFault_msu]
  cases x <;> rfl

end

section
variable {s : State} {x : Sensor} (hb : s.msu.busy x = true) {ks : List Tick}
include hb

/-- R35: a read succeeds, and with it every tick has ended. -/
theorem exec_read_succeeded {d : ImuData} (hk : s.msu.ticks.map (Tick.endRead x (.succeeded d)) = ks)
    (he : ∀ k ∈ ks, k.ended = true) :
    exec (.sampleReadEnd x (.succeeded d)) s = .next (ks.foldl State.finishTick (s.readMade x)) := by
  have run : exec (.sampleReadEnd x (.succeeded d)) s = .next (s.readSucceeds x d).completeTicks := by
    simp only [exec, execSampleReadEnd, hb, if_true]
  have ticks : (s.readSucceeds x d).msu.ticks = ks := by cases x <;> exact hk
  have emptied : ((s.readSucceeds x d).modMsu fun m => { m with ticks := [] }) = s.readMade x := by cases x <;> rfl
  rw [run, completeTicks_all ticks he, emptied]

variable {y : Bool} (hy : s.msu.busySync x = y) (hk : s.msu.ticks.map (Tick.endRead x .failed) = ks)
  (he : ∀ k ∈ ks, k.ended = true)
include hy hk he

/-- R28, R35: a read fails for the first or second time in a row, and with it every tick has ended. -/
theorem exec_read_failed (hf : (s.msu.imu x).fails < 2) :
    exec (.sampleReadEnd x .failed) s = .next (ks.foldl State.finishTick (s.readLost x y [])) := by
  subst hy hk
  have fails : ((s.readLost x (s.msu.busySync x) (s.msu.ticks.map (Tick.endRead x .failed))).msu.imu x).fails =
      (s.msu.imu x).fails + 1 := by cases x <;> rfl
  have few : ¬ 3 ≤ ((s.readLost x (s.msu.busySync x) (s.msu.ticks.map (Tick.endRead x .failed))).msu.imu x).fails := by
    rw [fails]
    omega
  have lost : s.readFails x = s.readLost x (s.msu.busySync x) (s.msu.ticks.map (Tick.endRead x .failed)) := if_neg few
  have run : exec (.sampleReadEnd x .failed) s = .next (s.readFails x).completeTicks := by
    simp only [exec, execSampleReadEnd, hb, if_true]
  rw [run, lost, completeTicks_all (by cases x <;> rfl) he]
  cases x <;> rfl

/-- R31, R35: a read fails for the third time in a row, and with it every tick has ended. -/
theorem exec_read_faults (hf : 2 ≤ (s.msu.imu x).fails) : exec (.sampleReadEnd x .failed) s =
    .next (ks.foldl State.finishTick (s.readFault x y ks)) := by
  subst hy hk
  have fails : ((s.readLost x (s.msu.busySync x) (s.msu.ticks.map (Tick.endRead x .failed))).msu.imu x).fails =
      (s.msu.imu x).fails + 1 := by cases x <;> rfl
  have many : 3 ≤ ((s.readLost x (s.msu.busySync x) (s.msu.ticks.map (Tick.endRead x .failed))).msu.imu x).fails := by
    rw [fails]
    omega
  have lost : s.readFails x =
      (s.readLost x (s.msu.busySync x) (s.msu.ticks.map (Tick.endRead x .failed))).enterFault x := if_pos many
  have run : exec (.sampleReadEnd x .failed) s = .next (s.readFails x).completeTicks := by
    simp only [exec, execSampleReadEnd, hb, if_true]
  rw [run, lost, completeTicks_all (by rw [enterFault_msu]; cases x <;> rfl) he]
  rfl

end

/-! ### A tick of one read -/

/-- R35: a read that failed has marked the gap of its IMU. -/
theorem readLost_marked (s : State) (x : Sensor) (n : Seq) (y : Bool) (t0 : Nat) (z : Sensor)
    (h : Tick.failed ⟨t0, [⟨x, n, y, .failed⟩]⟩ z = true) : ((s.readLost x y []).msu.imu z).gapPending = true := by
  obtain rfl : x = z := by simpa [Tick.failed] using h
  cases x <;> rfl

section
variable {s : State} {x : Sensor} {n : Seq} {t0 : Nat} {y : Bool} (h : s.msu.ticks = [⟨t0, [⟨x, n, y, .inProgress⟩]⟩])
include h

theorem busy_one : s.msu.busy x = true := by simp [Msu.busy, h]

theorem busySync_one : s.msu.busySync x = y := by simp [Msu.busySync, h]

theorem endRead_one (st : ReadStatus) : s.msu.ticks.map (Tick.endRead x st) = [⟨t0, [⟨x, n, y, st⟩]⟩] := by
  simp [Tick.endRead, h]

theorem exec_one_succeeded (d : ImuData) : exec (.sampleReadEnd x (.succeeded d)) s =
    .next ((((s.readMade x).makeRecord t0 ⟨x, n, y, .succeeded d⟩ d).handSample t0 ⟨x, n, y, .succeeded d⟩ d).syncDone
      ⟨t0, [⟨x, n, y, .succeeded d⟩]⟩) := by
  rw [exec_read_succeeded (busy_one h) (endRead_one h _) (by simp [Tick.ended]), List.foldl_cons, List.foldl_nil,
    finishTick_succeeded, markGaps_of_marked (by simp [Tick.failed])]

theorem exec_one_failed (hf : (s.msu.imu x).fails < 2) : exec (.sampleReadEnd x .failed) s =
    .next ((s.readLost x y []).syncDone ⟨t0, [⟨x, n, y, .failed⟩]⟩) := by
  rw [exec_read_failed (busy_one h) (busySync_one h) (endRead_one h _) (by simp [Tick.ended]) hf, List.foldl_cons,
    List.foldl_nil, finishTick_failed, markGaps_of_marked (readLost_marked s x n y t0)]

theorem exec_one_faults (hf : 2 ≤ (s.msu.imu x).fails) : exec (.sampleReadEnd x .failed) s =
    .next ((s.readFault x y [⟨t0, [⟨x, n, y, .failed⟩]⟩]).syncDone ⟨t0, [⟨x, n, y, .failed⟩]⟩) := by
  have marked (z : Sensor) (hz : Tick.failed ⟨t0, [⟨x, n, y, .failed⟩]⟩ z = true) :
      ((s.readFault x y [⟨t0, [⟨x, n, y, .failed⟩]⟩]).msu.imu z).gapPending = true := by
    obtain rfl : x = z := by simpa [Tick.failed] using hz
    rw [readFault_imu]
  rw [exec_read_faults (busy_one h) (busySync_one h) (endRead_one h _) (by simp [Tick.ended]) hf, List.foldl_cons,
    List.foldl_nil, finishTick_failed, markGaps_of_marked marked]

end

end Sys2Proof.Machine
end

section
/-! The sampling of the IMUs: the tick, the record of a read and the sample it hands on, and failed reads (O46). -/

namespace Sys2Proof.Machine

/-! ### The tick (R34, R35, R38) -/

theorem exec_sampleTick {s : State} (h0 : s.lt % s.period = 0) (h1 : s.msu.lastTick ≠ some s.lt)
    (h2 : s.msu.barred ≠ some s.lt) : exec .sampleTick s = .next (s.modMsu fun m => m.takeTick s.lt) := by
  have due : s.tickDue = true := by simp [State.tickDue, h0, h1, h2]
  simp only [exec, execSampleTick, due, if_true]

theorem takeTick_imu (m : Msu) (n : Nat) (x : Sensor) : (m.takeTick n).imu x = m.tickImu x n := by cases x <;> rfl

theorem mem_reads_of_starts {m : Msu} {n : Nat} {x : Sensor} (h : m.startsRead x n = true) :
    (⟨x, (m.imu x).seq + 1, (m.imu x).syncDue n, .inProgress⟩ : Read) ∈ m.readsOf .a n ++ m.readsOf .b n := by
  have mem : (⟨x, (m.imu x).seq + 1, (m.imu x).syncDue n, .inProgress⟩ : Read) ∈ m.readsOf x n := by
    rw [Msu.readsOf, if_pos h]
    exact List.mem_singleton.2 rfl
  cases x
  · exact List.mem_append_left _ mem
  · exact List.mem_append_right _ mem

/-- R35: a tick that starts a read is among the ticks not complete. -/
theorem takeTick_ticks {m : Msu} {n : Nat} {x : Sensor} (h : m.startsRead x n = true) :
    (m.takeTick n).ticks = m.ticks ++ [⟨n, m.readsOf .a n ++ m.readsOf .b n⟩] := by
  have some : (m.readsOf .a n ++ m.readsOf .b n).isEmpty = false := by
    rw [Bool.eq_false_iff, ne_eq, List.isEmpty_iff]
    exact List.ne_nil_of_mem (mem_reads_of_starts h)
  show (if _ then _ else _) = _
  rw [some]
  rfl

/-- R38: whether a hold ends at a tick. -/
theorem syncDue_iff {i : Imu} {n : Nat} : i.syncDue n = true ↔ ∃ u, i.syncAt = some u ∧ u ≤ n := by
  unfold Imu.syncDue
  split
  next u hu => simp [hu]
  next hu => simp [hu]

/-- R35, R38: a RUNNING IMU that is free, or at its sync tick, and is not being read, is read. -/
theorem tick_reads {s : State} {x : Sensor} {y : Bool} (hr : (s.msu.imu x).state = .running) (hb : s.msu.busy x = false)
    (h : (s.msu.imu x).syncAt = none ∧ y = false ∨ (s.msu.imu x).syncAt = some s.lt ∧ y = true) :
    s.msu.startsRead x s.lt = true ∧ (s.msu.imu x).syncDue s.lt = y ∧
      s.msu.tickImu x s.lt = { s.msu.imu x with seq := (s.msu.imu x).seq + 1, syncAt := none } := by
  have due : (s.msu.imu x).syncDue s.lt = y := by
    obtain ⟨free, rfl⟩ | ⟨held, rfl⟩ := h
    · rw [Imu.syncDue, free]
    · exact syncDue_iff.2 ⟨_, held, Nat.le_refl _⟩
  have starts : s.msu.startsRead x s.lt = true := by
    rw [Msu.startsRead, hr, hb, due]
    obtain ⟨free, rfl⟩ | ⟨_, rfl⟩ := h
    · rw [free]
      rfl
    · simp
  refine ⟨starts, due, ?_⟩
  unfold Msu.tickImu
  dsimp only
  rw [starts, due]
  obtain ⟨free, rfl⟩ | ⟨_, rfl⟩ := h
  · rw [free]
    rfl
  · rfl

/-- R38: an IMU in sync hold is left alone until its sync tick. -/
theorem tick_holds {s : State} {x : Sensor} {u : Nat} (h : (s.msu.imu x).syncAt = some u) (hu : s.lt < u) :
    s.msu.startsRead x s.lt = false ∧ s.msu.tickImu x s.lt = s.msu.imu x := by
  have late : (s.msu.imu x).syncDue s.lt = false := by
    rw [Bool.eq_false_iff, ne_eq, syncDue_iff]
    rintro ⟨v, hv, le⟩
    rw [h] at hv
    cases hv
    omega
  have idle : s.msu.startsRead x s.lt = false := by
    rw [Msu.startsRead, late, h]
    simp
  refine ⟨idle, ?_⟩
  unfold Msu.tickImu
  dsimp only
  rw [idle, late]
  rfl

/-! ### What the record of a read says (R36, R41) -/

theorem rawLimit_iff {v : Int} : rawLimit v = true ↔ v = 32767 ∨ v = -32767 ∨ v = -32768 := by
  simp [rawLimit, or_assoc]

theorem dataSaturated_iff (d : ImuData) : dataSaturated d = true ↔
    rawLimit d.rateX = true ∨ rawLimit d.rateY = true ∨ rawLimit d.rateZ = true ∨ rawLimit d.forceX = true ∨
      rawLimit d.forceY = true ∨ rawLimit d.forceZ = true := by
  simp [dataSaturated, or_assoc]

/-- R40, R41: a removed record of which no other of its sensor is left leaves its gap to the IMU. -/
theorem queueOverflowed_alone {s : State} {old r : MotionRecord} {rest : List MotionRecord}
    (h : ∀ m ∈ stepOldest old.timeStep (rest ++ [r]), m.sensor ≠ old.sensor) :
    (s.queueOverflowed old rest r).msu.queue = stepOldest old.timeStep (rest ++ [r]) ∧
      ((s.queueOverflowed old rest r).msu.imu old.sensor).gapPending = true := by
  refine ⟨(queueOverflowed_queue s old rest r).trans (gapOldest_of_none h), ?_⟩
  have none : (overflowed old rest r).any (fun m => m.sensor == old.sensor) = false := by
    rw [overflowed, any_gapOldest, List.any_eq_false]
    exact fun m hm => by simpa using h m hm
  rw [State.queueOverflowed, if_neg (by rw [none]; exact Bool.false_ne_true), ReaderStep.imu_modImu]

/-! ### The completion of a tick with one read that succeeded -/

section
variable (s : State) (x : Sensor) (n : Seq) (y : Bool) (t0 : Nat) (d : ImuData)

/-- R36, R53: a tick of one read that succeeded has completed. -/
def State.sampled : State :=
  (((s.readMade x).makeRecord t0 ⟨x, n, y, .succeeded d⟩ d).handSample t0 ⟨x, n, y, .succeeded d⟩ d).syncDone
    ⟨t0, [⟨x, n, y, .succeeded d⟩]⟩

/-- R36, R41: the record of a read that succeeded. -/
def State.sampleRecord : MotionRecord := (s.readMade x).recordOf t0 ⟨x, n, y, .succeeded d⟩ d

theorem sampled_told : Told ((s.readMade x).makeRecord t0 ⟨x, n, y, .succeeded d⟩ d) (s.sampled x n y t0 d) :=
  (handSample_told _ _ _ _).trans (Reported.syncDone _ _).toTold

theorem sampled_ticks : (s.sampled x n y t0 d).msu.ticks = [] := by
  rw [(sampled_told s x n y t0 d).msu, makeRecord_ticks]
  cases x <;> rfl

/-- R28, R41: the IMU after its sample has no failures and no mark but, maybe, a gap. -/
theorem sampled_imu : (s.sampled x n y t0 d).msu.imu x = { s.msu.imu x with
    fails := 0, syncPending := false, gapPending := ((s.sampled x n y t0 d).msu.imu x).gapPending } := by
  rw [(sampled_told s x n y t0 d).msu, makeRecord_imu]
  cases x <;> rfl

theorem sampled_room (h : s.msu.queue.length < 64) :
    (s.sampled x n y t0 d).msu.queue = s.msu.queue ++ [s.sampleRecord x n y t0 d] ∧
      ((s.sampled x n y t0 d).msu.imu x).gapPending = false := by
  have queue : (s.readMade x).msu.queue = s.msu.queue := by cases x <;> rfl
  rw [(sampled_told s x n y t0 d).msu, makeRecord_room _ _ _ (by rw [queue]; exact h), queue]
  exact ⟨rfl, by cases x <;> rfl⟩

theorem sampled_full {old : MotionRecord} {rest : List MotionRecord} (h : 64 ≤ s.msu.queue.length)
    (hq : s.msu.queue = old :: rest) : (s.sampled x n y t0 d).msu =
      (((s.readMade x).marksTaken x).queueOverflowed old rest (s.sampleRecord x n y t0 d)).msu := by
  have queue : (s.readMade x).msu.queue = s.msu.queue := by cases x <;> rfl
  rw [(sampled_told s x n y t0 d).msu, makeRecord_full _ _ _ (by rw [queue]; exact h) (queue.trans hq)]
  rfl

/-- R40: what the loss of the oldest record leaves. -/
theorem sampled_drop {old : MotionRecord} {rest : List MotionRecord} (h : 64 ≤ s.msu.queue.length)
    (hq : s.msu.queue = old :: rest) :
    (s.sampled x n y t0 d).count .motionQueueDrops = oneMore (s.count .motionQueueDrops) ∧
      (s.sampled x n y t0 d).ntu.pending.has .queueDrop = true ∧
      ∀ c b, s.tlc.link = .active c → s.tlc.tx = some .motion → s.tlc.beat = some b →
        (s.sampled x n y t0 d).tlc.tx = some (.beat b) := by
  have told := sampled_told s x n y t0 d
  have queue : (s.readMade x).msu.queue = s.msu.queue := by cases x <;> rfl
  have full : 64 ≤ (s.readMade x).msu.queue.length := by rw [queue]; exact h
  obtain ⟨counted, raised⟩ := makeRecord_drop t0 ⟨x, n, y, .succeeded d⟩ d full (queue.trans hq)
  refine ⟨?_, told.raised _ Condition.noConfusion raised, fun c b hl htx hb => ?_⟩
  · exact (told.counts _ Counter.noConfusion Counter.noConfusion Counter.noConfusion).trans counted
  · have cut := makeRecord_cut (s := s.readMade x) t0 ⟨x, n, y, .succeeded d⟩ d full (queue.trans hq) hl htx hb
    rw [told.sending (by rw [cut]; exact Option.some_ne_none _), cut]

theorem sampled_oin : (s.sampled x n y t0 d).oin =
    (((s.readMade x).makeRecord t0 ⟨x, n, y, .succeeded d⟩ d).handSample t0 ⟨x, n, y, .succeeded d⟩ d).oin :=
  syncDone_oin _ _

/-- R53: a sample of an IMU that is not the primary is discarded. -/
theorem sampled_oin_other (h : x ≠ s.oin.primary) : (s.sampled x n y t0 d).oin = s.oin := by
  rw [sampled_oin, handSample_oin_other (by rw [makeRecord_oin]; exact h.symm), makeRecord_oin]
  rfl

/-- R54 to R56: a sample of the primary is integrated. -/
theorem sampled_oin_primary (h : x = s.oin.primary) :
    (s.sampled x n y t0 d).oin.angles = (s.oin.integrate x t0 (dataRates d)).angles ∧
      (s.sampled x n y t0 d).oin.rates = (s.oin.integrate x t0 (dataRates d)).rates ∧
      (s.sampled x n y t0 d).oin.ring = (s.oin.integrate x t0 (dataRates d)).ring ∧
      (dataSaturated d = false ∨ s.oin.satRun < 9 →
        (s.sampled x n y t0 d).oin.residues = (s.oin.integrate x t0 (dataRates d)).residues) := by
  have oin : ((s.readMade x).makeRecord t0 ⟨x, n, y, .succeeded d⟩ d).oin = s.oin := (makeRecord_oin _ _ _ _).trans rfl
  obtain ⟨kept, residues⟩ := handSample_oin_primary (r := ⟨x, n, y, .succeeded d⟩) (by rw [oin]; exact h.symm) t0 d
  rw [oin] at kept residues
  rw [sampled_oin]
  exact ⟨by rw [kept], by rw [kept], by rw [kept], residues⟩

end

/-! ### The ring (R56) -/

/-- R56: the history entry of a sample. -/
def Oin.entryOf (o : Oin) (x : Sensor) (t : Nat) (rate : Axes) : HistoryEntry :=
  ⟨t, (o.integrate x t rate).angles, (o.integrate x t rate).rates⟩

theorem integrate_ring (o : Oin) (x : Sensor) (t : Nat) (rate : Axes) :
    (o.integrate x t rate).ring = (if Config.ringMax ≤ o.ring.length then
      o.ring.drop (o.ring.length + 1 - Config.ringMax) else o.ring) ++
      [o.entryOf x t rate] := rfl

/-! ### A read of a later tick that failed first (R35, R41) -/

section
variable (s : State) (x : Sensor) (n k : Seq) (t0 t1 : Nat) (d : ImuData)

/-- A tick at which one IMU was read and the read with the other failed. -/
def lateTick : Tick := ⟨t0, [⟨x, n, false, .succeeded d⟩, ⟨other x, k, false, .failed⟩]⟩

/-- R35, R41: the tick has completed after the failed read with the other IMU, and then a later one of a failed read. -/
def State.lateCompleted : State :=
  [lateTick x n k t0 d, ⟨t1, [⟨x, n + 1, false, .failed⟩]⟩].foldl State.finishTick (s.readLost (other x) false [])

/-- R41: the mark of the failed read is set again after the record of the earlier tick has taken it. -/
theorem late_gap : ((s.lateCompleted x n k t0 t1 d).msu.imu x).gapPending = true := by
  rw [State.lateCompleted, List.foldl_cons, List.foldl_cons, List.foldl_nil, finishTick_failed,
    (Reported.syncDone _ _).msu, markGaps_imu]
  simp [Tick.failed]

theorem lateCompleted_queue (h : s.msu.queue.length < 64) :
    (s.lateCompleted x n k t0 t1 d).msu.queue = s.msu.queue ++
        [(s.readLost (other x) false []).recordOf t0 ⟨x, n, false, .succeeded d⟩ d] ∧
      (s.lateCompleted x n k t0 t1 d).msu.ticks = [] := by
  have first (u : State) : u.finishTick (lateTick x n k t0 d) =
      (((u.markGaps (lateTick x n k t0 d)).makeRecord t0 ⟨x, n, false, .succeeded d⟩ d).handSample t0
        ⟨x, n, false, .succeeded d⟩ d).syncDone (lateTick x n k t0 d) := rfl
  have marked (z : Sensor) (hz : (lateTick x n k t0 d).failed z = true) :
      ((s.readLost (other x) false []).msu.imu z).gapPending = true := by
    obtain rfl : other x = z := by simpa [Tick.failed, lateTick] using hz
    cases x <;> rfl
  have queue : (s.readLost (other x) false []).msu.queue = s.msu.queue := by cases x <;> rfl
  have told := (handSample_told ((s.readLost (other x) false []).makeRecord t0 ⟨x, n, false, .succeeded d⟩ d) t0
    ⟨x, n, false, .succeeded d⟩ d).trans (Reported.syncDone _ (lateTick x n k t0 d)).toTold
  rw [State.lateCompleted, List.foldl_cons, List.foldl_cons, List.foldl_nil, finishTick_failed,
    (Reported.syncDone _ _).msu, markGaps_rest, first, markGaps_of_marked marked, told.msu,
    makeRecord_room _ _ _ (by rw [queue]; exact h), queue]
  exact ⟨rfl, by cases x <;> rfl⟩

variable {s x n k t0 t1 d}

theorem exec_late_failed (h : s.msu.ticks =
    [⟨t0, [⟨x, n, false, .succeeded d⟩, ⟨other x, k, false, .inProgress⟩]⟩, ⟨t1, [⟨x, n + 1, false, .failed⟩]⟩])
    (hf : (s.msu.imu (other x)).fails < 2) :
    exec (.sampleReadEnd (other x) .failed) s = .next (s.lateCompleted x n k t0 t1 d) := by
  have busy : s.msu.busy (other x) = true := by cases x <;> simp [Msu.busy, h, other]
  have plain : s.msu.busySync (other x) = false := by cases x <;> simp [Msu.busySync, h, other]
  have ended : s.msu.ticks.map (Tick.endRead (other x) .failed) =
      [lateTick x n k t0 d, ⟨t1, [⟨x, n + 1, false, .failed⟩]⟩] := by
    cases x <;> simp [Tick.endRead, h, other, lateTick]
  exact exec_read_failed busy plain ended (by simp [Tick.ended, lateTick]) hf

end

/-- Settles O46: the tick, the read that succeeds with its record and its sample, and the reads that fail. -/
theorem samplesAreReadAndIntegrated : Obligations.SamplesAreReadAndIntegrated := by
  intro s x n t0 y
  refine ⟨fun h0 h1 h2 hr hb => ⟨fun hold => ?_, fun u hu late => ?_⟩, fun d h => ?_, fun h => ⟨fun hf => ?_, fun hf => ?_⟩,
    fun d k t1 h hq hf => ?_⟩
  · obtain ⟨starts, due, imu⟩ := tick_reads hr hb hold
    refine ⟨_, _, exec_sampleTick h0 h1 h2, rfl, ?_, takeTick_ticks starts, rfl, ?_, rfl⟩
    · rw [State.modMsu_msu, takeTick_imu, imu]
    · rw [← due]
      exact mem_reads_of_starts starts
  · obtain ⟨idle, imu⟩ := tick_holds hu late
    refine ⟨_, exec_sampleTick h0 h1 h2, rfl, ?_, ?_, rfl⟩
    · rw [State.modMsu_msu, takeTick_imu, imu]
    · rw [Bool.eq_false_iff]
      intro busy
      obtain old | starts := busy_takeTick busy
      · exact Bool.eq_false_iff.1 hb old
      · exact Bool.eq_false_iff.1 idle starts
  · have told := sampled_told s x n y t0 d
    have imu := sampled_imu s x n y t0 d
    refine ⟨_, s.sampleRecord x n y t0 d, exec_one_succeeded h d, sampled_ticks s x n y t0 d, rfl, rfl, rfl, rfl, rfl, rfl, ?_,
      rfl, ?_, ?_, fun saturated => ?_, told.step.trans (makeRecord_stepMotion _ _ _ _), beq_iff_eq, ?_, ?_, fun room => ?_,
      fun old rest full hq => ?_, sampled_oin_other s x n y t0 d, fun primary => ?_⟩
    · cases x <;> rfl
    · simp only [← rawLimit_iff]
      exact dataSaturated_iff d
    · rw [← Bool.or_eq_true]
      cases x <;> rfl
    · simp only [← rawLimit_iff] at saturated
      obtain ⟨raised, counted⟩ := makeRecord_saturation (s := s.readMade x) t0 ⟨x, n, y, .succeeded d⟩ d
        ((dataSaturated_iff d).2 saturated)
      exact ⟨told.raised _ Condition.noConfusion raised,
        (told.counts _ Counter.noConfusion Counter.noConfusion Counter.noConfusion).trans counted⟩
    · exact congrArg Imu.fails imu
    · exact congrArg Imu.syncPending imu
    · exact sampled_room s x n y t0 d room
    · obtain ⟨counted, raised, cut⟩ := sampled_drop s x n y t0 d full hq
      have msu := sampled_full s x n y t0 d full hq
      refine ⟨counted, raised, cut, fun head tail hl => ⟨fun before m after hs hm others => ?_, fun alone => ?_⟩⟩
      · refine (congrArg Msu.queue msu).trans ((queueOverflowed_queue _ _ _ _).trans ?_)
        rw [overflowed, hl]
        exact (congrArg (gapOldest old.sensor) hs).trans (gapOldest_at hm others)
      · have left := queueOverflowed_alone (s := (s.readMade x).marksTaken x) (old := old) (rest := rest)
          (r := s.sampleRecord x n y t0 d) (by rw [hl]; exact alone)
        rw [hl, ← msu] at left
        exact left
    · obtain ⟨angles, rates, ring, residues⟩ := sampled_oin_primary s x n y t0 d primary
      refine ⟨⟨congrArg Angles.yaw angles, congrArg Angles.yaw rates, fun early => congrArg Angles.yaw (residues early)⟩,
        ⟨congrArg Angles.pitch angles, congrArg Angles.pitch rates, fun early => congrArg Angles.pitch (residues early)⟩,
        ⟨congrArg Angles.roll angles, congrArg Angles.roll rates, fun early => congrArg Angles.roll (residues early)⟩,
        ⟨s.oin.entryOf x t0 (dataRates d), ?_, rfl, angles.symm, rates.symm⟩,
        fun room => ⟨s.oin.entryOf x t0 (dataRates d), ?_⟩, ?_⟩
      · exact (congrArg List.getLast? (ring.trans (integrate_ring _ _ _ _))).trans List.getLast?_concat
      · exact (ring.trans (integrate_ring _ _ _ _)).trans (congrArg (· ++ _) (if_neg (Nat.not_le.2 room)))
      · exact le_of_eq_of_le (congrArg List.length ring) (length_integrate_ring _ _ _ _)
  · have told := Reported.syncDone (s.readLost x false []) ⟨t0, [⟨x, n, false, .failed⟩]⟩
    refine ⟨_, exec_one_failed h hf, ?_, ?_, ?_, ?_, ?_⟩
    · rw [told.msu]
      cases x <;> rfl
    · exact syncDone_oin _ _
    · rw [told.msu]
      cases x <;> rfl
    · rw [told.msu]
      cases x <;> rfl
    · refine (told.counts _ ?_ ?_ ?_).trans ?_
      iterate 3 exact by cases x <;> exact Counter.noConfusion
      · rw [State.readLost, count_bump, if_pos rfl]
        cases x <;> rfl
  · have told := Reported.syncDone (s.readFault x false [⟨t0, [⟨x, n, false, .failed⟩]⟩]) ⟨t0, [⟨x, n, false, .failed⟩]⟩
    have faulted := enterFault_faulted (s.readLost x false [⟨t0, [⟨x, n, false, .failed⟩]⟩]) x
    refine ⟨_, exec_one_faults h hf, ?_, ?_, ?_, told.raised _ (imuFault_ne_poseStale x) faulted.raised⟩
    iterate 3 rw [told.msu, readFault_imu]
  · obtain ⟨queue, ticks⟩ := lateCompleted_queue s x n k t0 t1 d hq
    exact ⟨_, _, exec_late_failed h hf, queue, ticks, rfl, rfl, late_gap s x n k t0 t1 d⟩

end Sys2Proof.Machine
end

section
/-!
How the procedures end: a BIAS_CAL by its judgement (R175), a WRITE_STORE by its read-back (R182), and a SENSOR_SYNC at the
completion of its sync tick or with a target that leaves RUNNING (R180) (O59).
-/

namespace Sys2Proof.Machine

/-! ### What the end of a procedure leaves alone -/

theorem endProc_kept (s : State) (r : ProcResult) (v : List ProcValue) : (s.endProc r v).oin = s.oin ∧
    (s.endProc r v).pmg = s.pmg ∧ (s.endProc r v).msu = s.msu ∧ (s.endProc r v).loaded = s.loaded :=
  ⟨endProc_oin s r v, (ReaderStep.endProc s r v).pmg_eq, endProc_msu s r v, (ReaderStep.endProc s r v).loaded⟩

/-- R169, R182: a procedure has ended with its result, and the blocks that it used are as they were. -/
theorem endProc_ended {s : State} {run at_ : Nat} {w : Work} (h : s.prr.running = some ⟨run, at_, w⟩) (r : ProcResult)
    (v : List ProcValue) :
    (s.endProc r v).prr = ⟨none, s.prr.runNumber, some ⟨w.kind, run, r, at_, s.lt, v⟩⟩ ∧
      (s.endProc r v).ntu.pending.has .procDone = true ∧ (s.endProc r v).oin.angles = s.oin.angles ∧
      (s.endProc r v).oin.ring = s.oin.ring ∧ (s.endProc r v).pmg = s.pmg ∧ (s.endProc r v).msu = s.msu ∧
      (s.endProc r v).loaded = s.loaded := by
  obtain ⟨prr, done⟩ := endProc_running h r v
  obtain ⟨oin, pmg, msu, loaded⟩ := endProc_kept s r v
  exact ⟨prr, done, by rw [oin], by rw [oin], pmg, msu, loaded⟩

/-! ### BIAS_CAL (R175) -/

theorem collectionOf_eq (a b : Collection) (x : Sensor) : collectionOf a b x = if x = .a then a else b := by
  cases x <;> rfl

/-- R175: the ranges of a collection that has not moved. -/
def Collection.still (c : Collection) (thr : Nat) : Prop :=
  c.maxs.x - c.mins.x ≤ 2 * (thr : Int) ∧ c.maxs.y - c.mins.y ≤ 2 * (thr : Int) ∧ c.maxs.z - c.mins.z ≤ 2 * (thr : Int)

theorem moved_iff (c : Collection) (thr : Nat) : c.moved thr = true ↔ ¬ c.still thr := by
  have apart : c.moved thr = true ↔ 2 * (thr : Int) < c.maxs.x - c.mins.x ∨ 2 * (thr : Int) < c.maxs.y - c.mins.y ∨
      2 * (thr : Int) < c.maxs.z - c.mins.z := by
    unfold Collection.moved
    dsimp only
    rw [Bool.or_eq_true, Bool.or_eq_true, decide_eq_true_iff, decide_eq_true_iff, decide_eq_true_iff, or_assoc]
    rfl
  rw [apart, Collection.still]
  omega

section
variable {s : State} {run at_ endAt thr : Nat} {tg : Targets} {ca cb : Collection}

theorem exec_biasCalCollectionEnd (h : s.prr.running = some ⟨run, at_, .biasCal tg endAt thr ca cb⟩) (he : endAt ≤ s.lt) :
    exec .biasCalCollectionEnd s = .next (s.judgeBias tg thr ca cb) := by
  simp [exec, execBiasCalCollectionEnd, h, he]

/-- R175: the targets without a sample. -/
def emptyTargets (tg : Targets) (ca cb : Collection) : List Sensor :=
  tg.list.filter fun x => (collectionOf ca cb x).count == 0

theorem mem_emptyTargets {x : Sensor} : x ∈ emptyTargets tg ca cb ↔ x ∈ tg.list ∧ (collectionOf ca cb x).count = 0 := by
  rw [emptyTargets, List.mem_filter, beq_iff_eq]

theorem judgeBias_empty {x : Sensor} (hx : x ∈ tg.list) (h : (collectionOf ca cb x).count = 0) :
    s.judgeBias tg thr ca cb = s.endProc .failed ((emptyTargets tg ca cb).map .target) := by
  have some : (emptyTargets tg ca cb).isEmpty = false := by
    rw [Bool.eq_false_iff, ne_eq, List.isEmpty_iff]
    exact List.ne_nil_of_mem (mem_emptyTargets.2 ⟨hx, h⟩)
  exact if_pos (by rw [← emptyTargets, some]; rfl)

variable (full : ∀ x ∈ tg.list, (collectionOf ca cb x).count ≠ 0)
include full

theorem emptyTargets_nil : emptyTargets tg ca cb = [] := by
  rw [emptyTargets, List.filter_eq_nil_iff]
  exact fun x hx => by simpa using full x hx

/-- R175: every target has samples, and one has moved. -/
theorem judgeBias_moved {x : Sensor} (hx : x ∈ tg.list) (h : ¬ (collectionOf ca cb x).still thr) :
    s.judgeBias tg thr ca cb = s.endProc .moved (tg.list.flatMap fun x => (collectionOf ca cb x).values) := by
  have moved : (tg.list.any fun x => (collectionOf ca cb x).moved thr) = true :=
    List.any_eq_true.2 ⟨x, hx, (moved_iff _ _).2 h⟩
  unfold State.judgeBias
  dsimp only
  rw [← emptyTargets, emptyTargets_nil full, if_neg (by exact Bool.false_ne_true), if_pos moved]

/-- R57, R175: every target has samples and has been still: its means are its biases. -/
theorem judgeBias_done (h : ∀ x ∈ tg.list, (collectionOf ca cb x).still thr) : s.judgeBias tg thr ca cb =
    (tg.list.foldl (fun s x => s.writeBias x (collectionOf ca cb x)) s).endProc .done
      (tg.list.flatMap fun x => (collectionOf ca cb x).values) := by
  have still : ¬ (tg.list.any fun x => (collectionOf ca cb x).moved thr) = true := by
    rw [List.any_eq_true]
    rintro ⟨x, hx, moved⟩
    exact (moved_iff _ _).1 moved (h x hx)
  unfold State.judgeBias
  dsimp only
  rw [← emptyTargets, emptyTargets_nil full, if_neg (by exact Bool.false_ne_true), if_neg still]

end

/-- R57: the biases of the targets are written, and those of no other IMU. -/
theorem writeBiases_bias (s : State) (tg : Targets) (col : Sensor → Collection) (x : Sensor) :
    (tg.list.foldl (fun s x => s.writeBias x (col x)) s).oin.bias x =
      if x ∈ tg.list then ⟨(col x).biases, (col x).temp⟩ else s.oin.bias x := by
  obtain ⟨a, b⟩ := tg
  cases a <;> cases b <;> cases x <;> rfl

theorem writeBiases_rest (s : State) (tg : Targets) (col : Sensor → Collection) :
    tg.list.foldl (fun s x => s.writeBias x (col x)) s = { s with oin := { s.oin with
      biasA := (tg.list.foldl (fun s x => s.writeBias x (col x)) s).oin.biasA
      biasB := (tg.list.foldl (fun s x => s.writeBias x (col x)) s).oin.biasB } } := by
  obtain ⟨a, b⟩ := tg
  cases a <;> cases b <;> rfl

theorem values_eq (tg : Targets) (ca cb : Collection) : (tg.list.flatMap fun x => (collectionOf ca cb x).values) =
    (if tg.a = true then ca.values else []) ++ (if tg.b = true then cb.values else []) := by
  obtain ⟨a, b⟩ := tg
  cases a <;> cases b <;> simp [Targets.list, collectionOf]

/-! ### WRITE_STORE (R182) -/

theorem firstDiff_self (xs : List Byte) : firstDiff xs xs = none := by
  induction xs with
  | nil => rfl
  | cons x xs ih => rw [firstDiff, if_pos rfl, ih]; rfl

theorem firstDiff_at {x y : Byte} (h : x ≠ y) (before after after' : List Byte) :
    firstDiff (before ++ x :: after) (before ++ y :: after') = some before.length := by
  induction before with
  | nil => exact if_neg h
  | cons b before ih =>
    rw [List.cons_append, List.cons_append, firstDiff, if_pos rfl, ih]
    rfl

section
variable {s : State} {run at_ : Nat} {image back : List Byte} (h : s.prr.running = some ⟨run, at_, .store image true⟩)
include h

theorem readback_same (hd : firstDiff image back = none) :
    exec (.storeReadbackComplete back) s = .next (s.endProc .done [.number image.length]) := by
  simp only [exec, execStoreReadbackComplete, h, hd]

theorem readback_differs {k : Nat} (hd : firstDiff image back = some k) :
    exec (.storeReadbackComplete back) s = .next (s.endProc .failed [.number image.length, .number k]) := by
  simp only [exec, execStoreReadbackComplete, h, hd]

end

/-! ### SENSOR_SYNC at its sync tick (R36, R38, R180) -/

theorem eachSucceeded_keeps {P : State → Prop} {f : State → Read → ImuData → State} (h : ∀ s r d, P s → P (f s r d))
    (rs : List Read) {s : State} (hs : P s) : P (eachSucceeded f rs s) := by
  unfold Machine.eachSucceeded
  induction rs generalizing s with
  | nil => exact hs
  | cons r rs ih =>
    rw [List.foldl_cons]
    refine ih ?_
    split
    · exact h s r _ hs
    · exact hs

/-- R180: the completion of the sync tick with an outcome for each target ends the SENSOR_SYNC, whatever records and samples
come of it. -/
theorem finishTick_ends {s : State} {run at_ : Nat} {tg : Targets} {k : Tick}
    (h : s.prr.running = some ⟨run, at_, .sync tg k.time⟩) (hk : tg.list.all fun x => (k.outcome x).isSome) :
    (s.finishTick k).prr = ⟨none, s.prr.runNumber, some ⟨.sensorSync, run, .done, at_, s.lt,
      .time k.time :: tg.list.filterMap k.outcome⟩⟩ ∧ (s.finishTick k).ntu.pending.has .procDone = true := by
  have recorded := eachSucceeded_keeps (P := fun u => u.prr = s.prr ∧ u.lt = s.lt) (f := fun s r d => s.makeRecord k.time r d)
    (fun u r d ⟨prr, lt⟩ => ⟨(makeRecord_prr u k.time r d).trans prr, (ReaderStep.makeRecord u k.time r d).lt.trans lt⟩)
    k.order (s := s.markGaps k) ⟨rfl, rfl⟩
  have sampled := eachSucceeded_keeps (P := fun u => u.prr = s.prr ∧ u.lt = s.lt) (f := fun s r d => s.handSample k.time r d)
    (fun u r d ⟨prr, lt⟩ => ⟨(handSample_prr (by rw [prr]; exact h) k.time r d).trans prr,
      (ReaderStep.handSample u k.time r d).lt.trans lt⟩) k.order recorded
  obtain ⟨prr, lt⟩ := sampled
  have ended := endProc_running (s := eachSucceeded (fun s r d => s.handSample k.time r d) k.order
    (eachSucceeded (fun s r d => s.makeRecord k.time r d) k.order (s.markGaps k))) (by rw [prr]; exact h) .done
    (.time k.time :: tg.list.filterMap k.outcome)
  rw [prr, lt] at ended
  unfold State.finishTick
  dsimp only
  rw [syncDone_ends (by rw [prr]; exact h) hk]
  exact ended

theorem sampled_eq (s : State) (x : Sensor) (n : Seq) (y : Bool) (t0 : Nat) (d : ImuData) :
    s.sampled x n y t0 d = (s.readMade x).finishTick ⟨t0, [⟨x, n, y, .succeeded d⟩]⟩ := by
  rw [finishTick_succeeded, markGaps_of_marked (by simp [Tick.failed])]
  rfl

/-- R36, R40: the record of a sample is in the queue, whatever room there was. -/
theorem sampled_recorded (s : State) (x : Sensor) (n : Seq) (y : Bool) (t0 : Nat) (d : ImuData) :
    ∃ m ∈ (s.sampled x n y t0 d).msu.queue, (s.sampleRecord x n y t0 d).sameSample m := by
  obtain room | ⟨full, old, rest, hq⟩ := queue_cases s.msu.queue
  · rw [(sampled_room s x n y t0 d room).1]
    exact ⟨_, List.mem_append_right _ (List.mem_singleton.2 rfl), rfl, rfl, rfl⟩
  · rw [sampled_full s x n y t0 d full hq, queueOverflowed_queue]
    exact mem_overflowed old rest _

/-! ### A target leaves RUNNING (R29, R32, R180) -/

theorem mem_targets {tg : Targets} {x : Sensor} : x ∈ tg.list ↔ tg.has x = true := by
  obtain ⟨a, b⟩ := tg
  cases a <;> cases b <;> cases x <;> decide

section
variable {s : State} {run at_ : Nat} {tg : Targets} {tick : Nat} (h : s.prr.running = some ⟨run, at_, .sync tg tick⟩)
include h

theorem targetLeft_ends {x : Sensor} (hx : x ∈ tg.list) : s.targetLeft x = s.endProc .failed [.target x] := by
  refine if_pos ?_
  unfold Prr.watches
  rw [h]
  exact mem_targets.1 hx

/-- R31, R180: the third failed read in a row of a target ends the SENSOR_SYNC. -/
theorem readFault_ends {x : Sensor} (hx : x ∈ tg.list) (hs : (s.msu.imu x).state = .running) (y : Bool) (ks : List Tick) :
    (s.readFault x y ks).prr = ⟨none, s.prr.runNumber, some ⟨.sensorSync, run, .failed, at_, s.lt, [.target x]⟩⟩ ∧
      (s.readFault x y ks).ntu.pending.has .procDone = true := by
  have running : (s.readLost x y ks).imuRunning x = true := by
    have state : ((s.readLost x y ks).msu.imu x).state = (s.msu.imu x).state := by cases x <;> rfl
    rw [State.imuRunning, state, hs]
    rfl
  have prr : (((s.readLost x y ks).faultRaised x).reportFault x).prr = s.prr :=
    (Rebound.reportFault _ x).prr.trans (State.raise_prr _ _)
  have lt : (((s.readLost x y ks).faultRaised x).reportFault x).lt = s.lt :=
    (ReaderStep.reportFault _ x).lt.trans (State.raise_lt _ _)
  have ended := endProc_running (by rw [prr]; exact h) .failed [.target x]
  rw [prr, lt] at ended
  rw [State.readFault, enterFault_eq, if_pos running, targetLeft_ends (by rw [prr]; exact h) hx]
  exact ended

end

end Sys2Proof.Machine
end

section
/-!
What a lost SENSOR rail leaves of a SENSOR_SYNC: the IMUs go OFF, the first target ends it, and what follows leaves the runner alone
(R29, R158, R159, R180); and the ends of all procedures (O59).
-/

namespace Sys2Proof.Machine

/-- The runner is as it was, and PROC_DONE, where it was pending, is. -/
structure RunnerKept (s t : State) : Prop where
  prr : t.prr = s.prr
  done : s.ntu.pending.has .procDone = true → t.ntu.pending.has .procDone = true

namespace RunnerKept

theorem trans {s t u : State} (h : RunnerKept s t) (g : RunnerKept t u) : RunnerKept s u :=
  ⟨g.prr.trans h.prr, g.done ∘ h.done⟩

theorem of_rebound {s t : State} (h : Rebound s t) : RunnerKept s t := ⟨h.prr, h.raised _ Condition.noConfusion⟩

variable (s : State)

theorem refl : RunnerKept s s := ⟨rfl, id⟩

theorem raise (c : Condition) : RunnerKept s (s.raise c) := of_rebound (.raise s c)

theorem lower {c : Condition} (h : c ≠ .procDone) : RunnerKept s (s.lower c) :=
  ⟨State.lower_prr s c, fun done => by rw [lower_pending, has_drop_of_ne h.symm, done]⟩

theorem judgeDark : RunnerKept s s.judgeDark := by
  refine ⟨?_, fun done => by rw [judgeDark_ntu]; exact done⟩
  unfold State.judgeDark
  split <;> split <;> rfl

theorem scanOff : RunnerKept s s.scanOff := by
  unfold State.scanOff
  split
  · exact refl s
  · exact RunnerKept.trans (t := s.modSou _) ⟨rfl, id⟩ (judgeDark _)

theorem stopCapture : RunnerKept s s.stopCapture := by
  unfold State.stopCapture
  dsimp only
  split
  · exact RunnerKept.trans (t := s.modAud _) ⟨rfl, id⟩ (raise _ _)
  · exact ⟨rfl, id⟩

theorem railLeft {x : Rail} (h : x ≠ .sensor) (b : Bool) : RunnerKept s (s.railLeft x b) := by
  have stopped : RunnerKept s s.stopPlayback := ⟨rfl, id⟩
  cases x with
  | sensor => exact absurd rfl h
  | audio =>
    cases b
    · exact stopped
    · exact stopped.trans (stopCapture _)
  | panelL | panelR => exact scanOff s
  | illum => exact judgeDark s

theorem railTaken (x : Rail) (st : RailState) : RunnerKept s (s.railTaken x st) := by
  have put : RunnerKept s (s.putRail x st) := ⟨rfl, id⟩
  unfold State.railTaken State.followRail
  split
  · exact put.trans (raise _ _)
  · split
    · exact put.trans (lower _ (by cases x <;> exact Condition.noConfusion))
    · exact put

/-- R29: a rail that reaches no ON, and is not a SENSOR rail that leaves it, is nothing to the runner. -/
theorem setRail {x : Rail} {st : RailState} (h : x ≠ .sensor ∨ s.pmg.rails.get x ≠ .on) (hst : st ≠ .on) :
    RunnerKept s (s.setRail x st) := by
  rw [setRail_eq]
  split
  next leaves => exact (railTaken s x st).trans (railLeft _ (h.resolve_right (not_not.2 leaves.1)) _)
  next =>
    rw [if_neg fun reaches => hst reaches.1]
    exact railTaken s x st

theorem foldl {α : Type} (f : State → α → State) (xs : List α) (h : ∀ s, ∀ x ∈ xs, RunnerKept s (f s x)) :
    RunnerKept s (xs.foldl f s) := by
  induction xs generalizing s with
  | nil => exact refl s
  | cons x xs ih => exact (h s x List.mem_cons_self).trans (ih _ fun s y hy => h s y (List.mem_cons_of_mem x hy))

theorem takeDown {xs : List Rail} (h : Rail.sensor ∉ xs) : RunnerKept s (s.takeDown xs) := by
  refine foldl s _ xs fun u x hx => ?_
  split
  · exact refl u
  · exact setRail u (.inl fun e => h (e ▸ hx)) RailState.noConfusion

theorem sequence : RunnerKept s s.sequence := by
  refine foldl s _ railOrder fun u x _ => ?_
  split
  next may =>
    simp only [Pmg.mayRamp, Bool.and_eq_true, beq_iff_eq] at may
    obtain ⟨⟨off, _⟩, _⟩ := may
    exact setRail u (.inr (by rw [off]; exact RailState.noConfusion)) RailState.noConfusion
  · exact refl u

theorem changeWear (w : Wear) : RunnerKept s (s.changeWear w) := by
  have changed : RunnerKept s ((s.modMsu fun m => { m with wear := w, wornCount := 0, removedCount := 0 }).bump
    .wearChanges) := ⟨rfl, id⟩
  exact (changed.trans (raise _ _)).trans (judgeDark _)

theorem wearStops : RunnerKept s s.wearStops := by
  unfold State.wearStops
  dsimp only
  split
  · exact RunnerKept.trans (t := s.modMsu _) ⟨rfl, id⟩ (changeWear _ _)
  · exact ⟨rfl, id⟩

end RunnerKept

theorem wearStops_imu (s : State) (x : Sensor) : s.wearStops.msu.imu x = s.msu.imu x := by
  unfold State.wearStops
  dsimp only
  split
  · rw [changeWear_msu]
    cases x <;> rfl
  · cases x <;> rfl

/-! ### The IMUs go OFF (R29, R180) -/

/-- R29, R33: an IMU has entered OFF, and the OIN has been told; the PRR has still to act. -/
def State.offTold (s : State) (x : Sensor) : State := ((s.modImu x Imu.toOff).lower (imuFault x)).reportOff x

theorem enterOff_eq (s : State) (x : Sensor) : s.enterOff x =
    if (s.msu.imu x).state = .off then s
    else if s.imuRunning x then (s.offTold x).targetLeft x else s.offTold x := rfl

theorem offTold_kept (s : State) (x : Sensor) : RunnerKept s (s.offTold x) := by
  have moved : RunnerKept s (s.modImu x Imu.toOff) := ⟨rfl, id⟩
  have clear : imuFault x ≠ .procDone := by cases x <;> exact Condition.noConfusion
  exact (moved.trans (.lower _ clear)).trans (.of_rebound (.reportOff _ x))

theorem offTold_lt (s : State) (x : Sensor) : (s.offTold x).lt = s.lt :=
  (ReaderStep.reportOff _ x).lt.trans (State.lower_lt _ _)

/-- R180: an IMU that the runner does not watch enters OFF without it. -/
theorem enterOff_kept {s : State} {x : Sensor} (h : s.prr.watches x = false) : RunnerKept s (s.enterOff x) := by
  have told := offTold_kept s x
  rw [enterOff_eq]
  split
  · exact .refl s
  · split
    · rw [State.targetLeft, told.prr, if_neg (by rw [h]; exact Bool.false_ne_true)]
      exact told
    · exact told

theorem enterOff_imu (s : State) (x : Sensor) :
    ((s.enterOff x).msu.imu x).state = .off ∧ (s.enterOff x).msu.imu (other x) = s.msu.imu (other x) := by
  rw [enterOff_msu]
  split
  next off => exact ⟨off, rfl⟩
  · rw [ReaderStep.imu_modImu, imu_modImu_of_ne s _ (by cases x <;> exact Sensor.noConfusion)]
    exact ⟨rfl, rfl⟩

theorem enterOff_syncAt {s : State} {x : Sensor} (h : (s.msu.imu x).state ≠ .off) :
    ((s.enterOff x).msu.imu x).syncAt = none := by
  rw [enterOff_msu, if_neg h, ReaderStep.imu_modImu]
  rfl

/-- R29: with no tick left the IMUs go OFF at once, A first. -/
theorem imusOff_of_no_ticks {s : State} (h : s.msu.ticks = []) : s.imusOff = (s.enterOff .a).enterOff .b := by
  have same : s.modMsu (fun m => { m with ticks := [] }) = s := by
    show { s with msu := { s.msu with ticks := [] } } = s
    rw [← h]
  have emptied : (s.modMsu fun m => { m with ticks := m.ticks.map fun t => (t.endRead .a .discarded).endRead .b .discarded })
      = s := by
    show { s with msu := { s.msu with ticks := s.msu.ticks.map _ } } = s
    rw [h, List.map_nil, ← h]
  unfold State.imusOff
  dsimp only
  rw [emptied, completeTicks_all h (by simp), List.foldl_nil, same]

section
variable {s : State} {run at_ : Nat} {tg : Targets} {tick : Nat} (h : s.prr.running = some ⟨run, at_, .sync tg tick⟩)
include h

/-- R29, R180: a target that enters OFF from RUNNING ends the SENSOR_SYNC. -/
theorem enterOff_ends {x : Sensor} (hx : x ∈ tg.list) (hs : (s.msu.imu x).state = .running) :
    (s.enterOff x).prr = ⟨none, s.prr.runNumber, some ⟨.sensorSync, run, .failed, at_, s.lt, [.target x]⟩⟩ ∧
      (s.enterOff x).ntu.pending.has .procDone = true := by
  have told := offTold_kept s x
  have running : s.imuRunning x = true := by rw [State.imuRunning, hs]; rfl
  have ended := endProc_running (by rw [told.prr]; exact h) .failed [.target x]
  rw [told.prr, offTold_lt] at ended
  rw [enterOff_eq, if_neg (by rw [hs]; exact ImuState.noConfusion), if_pos running,
    targetLeft_ends (by rw [told.prr]; exact h) hx]
  exact ended

/-- R180: of the targets the first in the order A then B is named. -/
theorem imusOff_ends {x : Sensor} {later : List Sensor} (hl : tg.list = x :: later) (hs : (s.msu.imu x).state = .running)
    (hk : s.msu.ticks = []) :
    (s.imusOff.prr = ⟨none, s.prr.runNumber, some ⟨.sensorSync, run, .failed, at_, s.lt, [.target x]⟩⟩ ∧
      s.imusOff.ntu.pending.has .procDone = true) ∧
      (s.imusOff.msu.imu x).state = .off ∧ (s.imusOff.msu.imu x).syncAt = none := by
  have named : x ∈ tg.list := by rw [hl]; exact List.mem_cons_self
  have up : (s.msu.imu x).state ≠ .off := by rw [hs]; exact ImuState.noConfusion
  rw [imusOff_of_no_ticks hk]
  cases x with
  | a =>
    obtain ⟨prr, done⟩ := enterOff_ends h named hs
    have kept := enterOff_kept (s := s.enterOff .a) (x := .b) (by rw [prr]; rfl)
    have imu : ((s.enterOff .a).enterOff .b).msu.imu .a = (s.enterOff .a).msu.imu .a := (enterOff_imu _ .b).2
    rw [imu]
    exact ⟨⟨kept.prr.trans prr, kept.done done⟩, (enterOff_imu s .a).1, enterOff_syncAt up⟩
  | b =>
    have alone : tg.has .a = false := by
      obtain ⟨a, b⟩ := tg
      cases a
      · rfl
      · exact absurd (List.head_eq_of_cons_eq hl) Sensor.noConfusion
    have first := enterOff_kept (s := s) (x := .a) (by rw [Prr.watches, h]; exact alone)
    have imu : (s.enterOff .a).msu.imu .b = s.msu.imu .b := (enterOff_imu s .a).2
    have ended := enterOff_ends (s := s.enterOff .a) (by rw [first.prr]; exact h) named (by rw [imu]; exact hs)
    rw [first.prr, (ReaderStep.enterOff s .a).lt] at ended
    exact ⟨ended, (enterOff_imu _ .b).1, enterOff_syncAt (by rw [imu]; exact up)⟩

/-- R158, R180: the SENSOR rail loses its power, and with it the SENSOR_SYNC its first target. -/
theorem sensorLost_ends {x : Sensor} {later : List Sensor} (hl : tg.list = x :: later)
    (hs : (s.msu.imu x).state = .running) (hr : s.pmg.rails.sensor = .on) (hk : s.msu.ticks = []) :
    ∃ t, exec (.powerGoodWithdrawn .sensor) s = .next t ∧
      (t.prr = ⟨none, s.prr.runNumber, some ⟨.sensorSync, run, .failed, at_, s.lt, [.target x]⟩⟩ ∧
        t.ntu.pending.has .procDone = true) ∧ (t.msu.imu x).state = .off ∧ (t.msu.imu x).syncAt = none := by
  have lost : exec (.powerGoodWithdrawn .sensor) s = .next (s.railFails .sensor) :=
    congrArg Host.Outcome.next (if_pos hr)
  have left : s.setRail .sensor .fault = (s.railTaken .sensor .fault).imusOff.wearStops := by
    rw [setRail_eq, if_pos ⟨hr, RailState.noConfusion⟩]
    rfl
  have prr := (RunnerKept.railTaken s .sensor .fault).prr
  have same : (s.railTaken .sensor .fault).msu = s.msu := State.raise_msu _ _
  have lt : (s.railTaken .sensor .fault).lt = s.lt := State.raise_lt _ _
  obtain ⟨⟨ended, done⟩, off, free⟩ := imusOff_ends (s := s.railTaken .sensor .fault) (by rw [prr]; exact h) hl
    (by rw [same]; exact hs) (by rw [same]; exact hk)
  rw [prr, lt] at ended
  have later (u : State) (xs : List Rail) (hx : Rail.sensor ∉ xs) : RunnerKept u (u.takeDown xs).sequence ∧
      (u.takeDown xs).sequence.msu = u.msu :=
    ⟨(RunnerKept.takeDown u hx).trans (.sequence _), ((LoadStep.takeDown u hx).trans (.sequence _)).msu⟩
  have outside (f : Rail → Bool) : Rail.sensor ∉ (laterRails .sensor).filter f := fun mem =>
    absurd (List.mem_filter.1 mem).1 (by decide)
  obtain ⟨kept, msu⟩ := later ((s.setRail .sensor .fault).bump .railFaults) _ (outside _)
  have stopped := RunnerKept.wearStops (s.railTaken .sensor .fault).imusOff
  refine ⟨_, lost, ⟨?_, kept.done ?_⟩, ?_, ?_⟩
  · rw [← ended, ← stopped.prr, ← left]
    exact kept.prr
  · rw [left]
    exact stopped.done done
  · show ((((s.setRail .sensor .fault).bump .railFaults).takeDown _).sequence.msu.imu x).state = .off
    rw [msu, left, State.bump_msu, wearStops_imu, off]
  · show ((((s.setRail .sensor .fault).bump .railFaults).takeDown _).sequence.msu.imu x).syncAt = none
    rw [msu, left, State.bump_msu, wearStops_imu, free]

end

/-! ### The sync tick of two targets -/

/-- A sync tick at which both IMUs are read. -/
def pairTick (tick : Nat) (n k : Seq) (ra rb : ReadStatus) : Tick := ⟨tick, [⟨.a, n, true, ra⟩, ⟨.b, k, true, rb⟩]⟩

/-- R36, R38: the records of the targets enter the queue in descending order. -/
theorem pair_queue {s : State} (h : s.msu.queue.length < 63) (tick : Nat) (n k : Seq) (da db : ImuData) :
    ∃ r q, (s.finishTick (pairTick tick n k (.succeeded da) (.succeeded db))).msu.queue = s.msu.queue ++ [r, q] ∧
      r.sensor = .b ∧ q.sensor = .a ∧ r.syncMark = true ∧ q.syncMark = true := by
  have inOrder : s.finishTick (pairTick tick n k (.succeeded da) (.succeeded db)) =
      (((((s.markGaps (pairTick tick n k (.succeeded da) (.succeeded db))).makeRecord tick ⟨.b, k, true, .succeeded db⟩
        db).makeRecord tick ⟨.a, n, true, .succeeded da⟩ da).handSample tick ⟨.b, k, true, .succeeded db⟩ db).handSample
          tick ⟨.a, n, true, .succeeded da⟩ da).syncDone (pairTick tick n k (.succeeded da) (.succeeded db)) := rfl
  have queue : (s.markGaps (pairTick tick n k (.succeeded da) (.succeeded db))).msu.queue = s.msu.queue := rfl
  rw [inOrder]
  generalize s.markGaps (pairTick tick n k (.succeeded da) (.succeeded db)) = u at queue
  have first := makeRecord_room tick ⟨.b, k, true, .succeeded db⟩ db (s := u) (by rw [queue]; omega)
  have room : (u.makeRecord tick ⟨.b, k, true, .succeeded db⟩ db).msu.queue.length < 64 := by
    simp only [first, queue, List.length_append, List.length_singleton]
    omega
  have second := makeRecord_room tick ⟨.a, n, true, .succeeded da⟩ da room
  refine ⟨u.recordOf tick ⟨.b, k, true, .succeeded db⟩ db,
    (u.makeRecord tick ⟨.b, k, true, .succeeded db⟩ db).recordOf tick ⟨.a, n, true, .succeeded da⟩ da, ?_, rfl, rfl, rfl, rfl⟩
  rw [(Reported.syncDone _ _).msu, (handSample_told _ _ _ _).msu, (handSample_told _ _ _ _).msu, second, first, queue,
    List.append_assoc]
  rfl

section
variable {s : State} {tick : Nat} {n k : Seq} {ra : ReadStatus} (h : s.msu.ticks = [pairTick tick n k ra .inProgress])
include h

theorem busy_pair : s.msu.busy .b = true := by simp [Msu.busy, h, pairTick]

theorem busySync_pair : s.msu.busySync .b = true := by simp [Msu.busySync, h, pairTick]

theorem endRead_pair (st : ReadStatus) : s.msu.ticks.map (Tick.endRead .b st) = [pairTick tick n k ra st] := by
  simp [Tick.endRead, h, pairTick]

end

/-- R180: the outcome of a read that has ended. -/
def ReadStatus.outcome : ReadStatus → Option ProcValue
  | .succeeded _ => some .recorded
  | .failed => some .pendingMark
  | _ => none

theorem outcome_one (tick : Nat) (n : Seq) (x : Sensor) (st : ReadStatus) :
    Tick.outcome ⟨tick, [⟨x, n, true, st⟩]⟩ x = st.outcome := by
  cases st <;> simp [Tick.outcome, ReadStatus.outcome]

theorem outcome_pair (tick : Nat) (n k : Seq) (ra rb : ReadStatus) :
    (pairTick tick n k ra rb).outcome .a = ra.outcome ∧ (pairTick tick n k ra rb).outcome .b = rb.outcome := by
  cases ra <;> cases rb <;> exact ⟨rfl, rfl⟩

/-- R35, R41: a tick of one read that failed gives nothing but the end of a SENSOR_SYNC. -/
theorem lost_eq (s : State) (x : Sensor) (n : Seq) (y : Bool) (t0 : Nat) :
    (s.readLost x y []).syncDone ⟨t0, [⟨x, n, y, .failed⟩]⟩ = (s.readLost x y []).finishTick ⟨t0, [⟨x, n, y, .failed⟩]⟩ := by
  rw [finishTick_failed, markGaps_of_marked (readLost_marked s x n y t0)]

/-- R180: a SENSOR_SYNC of one target ends at the completion of its sync tick. -/
theorem finish_one {s : State} {run at_ tick : Nat} {tg : Targets} {x : Sensor} {n : Seq} {st : ReadStatus} {v : ProcValue}
    (h : s.prr.running = some ⟨run, at_, .sync tg tick⟩) (hl : tg.list = [x]) (ho : st.outcome = some v) :
    (s.finishTick ⟨tick, [⟨x, n, true, st⟩]⟩).prr =
        ⟨none, s.prr.runNumber, some ⟨.sensorSync, run, .done, at_, s.lt, [.time tick, v]⟩⟩ ∧
      (s.finishTick ⟨tick, [⟨x, n, true, st⟩]⟩).ntu.pending.has .procDone = true := by
  have ended := finishTick_ends (k := ⟨tick, [⟨x, n, true, st⟩]⟩) h (by simp [hl, outcome_one, ho])
  rw [hl] at ended
  simpa [outcome_one, ho] using ended

/-- R180: a SENSOR_SYNC of both targets ends at the completion of its sync tick. -/
theorem finish_pair {s : State} {run at_ tick : Nat} {tg : Targets} {n k : Seq} {ra rb : ReadStatus} {va vb : ProcValue}
    (h : s.prr.running = some ⟨run, at_, .sync tg tick⟩) (hl : tg.list = [.a, .b]) (ha : ra.outcome = some va)
    (hb : rb.outcome = some vb) :
    (s.finishTick (pairTick tick n k ra rb)).prr =
        ⟨none, s.prr.runNumber, some ⟨.sensorSync, run, .done, at_, s.lt, [.time tick, va, vb]⟩⟩ ∧
      (s.finishTick (pairTick tick n k ra rb)).ntu.pending.has .procDone = true := by
  obtain ⟨oa, ob⟩ := outcome_pair tick n k ra rb
  have ended := finishTick_ends (k := pairTick tick n k ra rb) h (by simp [hl, oa, ob, ha, hb])
  rw [hl, show (pairTick tick n k ra rb).time = tick from rfl] at ended
  simpa [oa, ob, ha, hb] using ended

/-- Settles O59: the judgement of a BIAS_CAL, the write and the read-back of a store, and the ends of a SENSOR_SYNC. -/
theorem proceduresEnd : Obligations.ProceduresEnd := by
  intro s run at_
  refine ⟨fun tg endAt thr ca cb h he => ?_, fun image h => ?_,
    fun image back h => ⟨fun same => ?_, fun before x y after after' hi hb hne => ?_⟩, fun tg tick h =>
    ⟨fun x n hl hk => ⟨fun d => ?_, fun hf => ?_, fun hf hs => ?_⟩, fun n k ra oa hl ho hk => ?_,
      fun x n t0 hx hs hf hk => ?_, fun x later hl hs hr hk => sensorLost_ends h hl hs hr hk⟩⟩
  · have happens := exec_biasCalCollectionEnd h he
    simp only [← collectionOf_eq]
    refine ⟨fun x hx none => ?_, fun full ⟨x, hx, moved⟩ => ?_, fun all => ?_⟩
    · rw [judgeBias_empty hx none] at happens
      refine ⟨_, _, happens, endProc_ended h _ _, fun y => ?_, endProc_oin _ _ _⟩
      rw [List.mem_map_of_injective fun _ _ e => ProcValue.target.inj e]
      exact mem_emptyTargets
    · rw [judgeBias_moved full hx moved, values_eq] at happens
      exact ⟨_, happens, endProc_ended h _ _, endProc_oin _ _ _⟩
    · rw [judgeBias_done (fun x hx => (all x hx).1) fun x hx => (all x hx).2, values_eq] at happens
      have rest := writeBiases_rest s tg (collectionOf ca cb)
      have bias := writeBiases_bias s tg (collectionOf ca cb)
      generalize tg.list.foldl (fun s x => s.writeBias x (collectionOf ca cb x)) s = u at happens rest bias
      have prr : u.prr = s.prr := by rw [rest]
      have ended := endProc_ended (s := u) (by rw [prr]; exact h) .done
        ((if tg.a = true then ca.values else []) ++ (if tg.b = true then cb.values else []))
      refine ⟨_, happens, ?_, fun x => ?_⟩
      · rw [rest] at ended ⊢
        exact ended
      · rw [endProc_oin]
        exact ⟨fun hx => (bias x).trans (if_pos hx), fun hx => (bias x).trans (if_neg hx)⟩
  · simp only [exec, execStoreWriteComplete, h, State.work, State.modPrr, State.modCmu, Option.map_some]
  · exact ⟨_, readback_same h (by rw [same]; exact firstDiff_self _), endProc_ended h _ _⟩
  · have differs : firstDiff image back = some before.length := by rw [hi, hb]; exact firstDiff_at hne before after after'
    exact ⟨_, readback_differs h differs, endProc_ended h _ _⟩
  · obtain ⟨m, mem, sensor, seq, mark⟩ := sampled_recorded s x n true tick d
    have ended := finish_one (s := s.readMade x) (x := x) (n := n) (st := .succeeded d) h hl rfl
    rw [← sampled_eq] at ended
    exact ⟨_, exec_one_succeeded hk d, ended, m, mem, sensor, seq, mark⟩
  · have told := Reported.syncDone (s.readLost x true []) ⟨tick, [⟨x, n, true, .failed⟩]⟩
    have ended := finish_one (s := s.readLost x true []) (x := x) (n := n) (st := .failed) h hl rfl
    rw [← lost_eq] at ended
    refine ⟨_, exec_one_failed hk hf, ended, ?_⟩
    rw [told.msu]
    cases x <;> exact Bool.or_true _
  · have idle := readFault_ends h (by rw [hl]; exact List.mem_cons_self) hs true [⟨tick, [⟨x, n, true, .failed⟩]⟩]
    have happens := exec_one_faults hk hf
    rw [syncDone_idle (by rw [idle.1])] at happens
    exact ⟨_, happens, idle, by rw [readFault_imu]⟩
  · have ended : ra ≠ .inProgress ∧ ra.outcome = some oa := by
      obtain ⟨rfl, rfl⟩ | ⟨⟨d, rfl⟩, rfl⟩ := ho <;> exact ⟨ReadStatus.noConfusion, rfl⟩
    obtain ⟨stopped, outcome⟩ := ended
    refine ⟨fun d => ⟨_, exec_read_succeeded (busy_pair hk) (endRead_pair hk _) (by simp [Tick.ended, pairTick, stopped]),
      finish_pair (s := s.readMade .b) h hl outcome rfl, fun recorded room => ?_⟩, fun hf =>
      ⟨_, exec_read_failed (busy_pair hk) (busySync_pair hk) (endRead_pair hk _) (by simp [Tick.ended, pairTick, stopped]) hf,
        finish_pair (s := s.readLost .b true []) h hl outcome rfl⟩⟩
    obtain ⟨rfl, rfl⟩ | ⟨⟨da, rfl⟩, _⟩ := ho
    · exact absurd recorded ProcValue.noConfusion
    · exact pair_queue (s := s.readMade .b) room tick n k da d
  · have idle := readFault_ends h hx hs false [⟨t0, [⟨x, n, false, .failed⟩]⟩]
    have happens := exec_one_faults hk hf
    rw [syncDone_idle (by rw [idle.1])] at happens
    exact ⟨_, happens, idle, by rw [readFault_imu], readFault_other s x _ _⟩

end Sys2Proof.Machine
end

section
/-!
The operations that leave the OIN as it is, in the order of the model's files: it is told of samples, of IMU states and of requests
alone (R53 to R66), and every other operation is one of other blocks.
-/

namespace Sys2Proof.Machine

theorem foldl_oin {α : Type} {f : State → α → State} (h : ∀ s a, (f s a).oin = s.oin) (xs : List α) (s : State) :
    (xs.foldl f s).oin = s.oin := by
  induction xs generalizing s with
  | nil => rfl
  | cons x xs ih => exact (ih _).trans (h s x)

section
variable (s : State)

/-! ### Messages and notices (R183 to R203) -/

@[simp] theorem reply_oin (k : Byte) (p : Port) (tag : Byte) (x : Status) (v : List Byte) (r : MessageRole) :
    (s.reply k p tag x v r).oin = s.oin := State.place_oin _ _ _ _

@[simp] theorem cutIf_oin (x : Transmission) : (s.cutIf x).oin = s.oin := by
  unfold State.cutIf
  split <;> rfl

@[simp] theorem release_oin (p : Port) : (s.release p).oin = s.oin := State.attend_oin _

@[simp] theorem roleTaken_oin : s.roleTaken.oin = s.oin := by
  unfold State.roleTaken
  dsimp only
  split <;> simp

@[simp] theorem arrive_oin (p : Port) (b : List Byte) : (s.arrive p b).oin = s.oin := by
  unfold State.arrive
  split <;> simp

@[simp] theorem hunt_oin (late : Bool) (n : Nat) (rx : List Byte) : (s.hunt late n rx).oin = s.oin := by
  induction n generalizing s rx with
  | zero => rfl
  | succ n ih =>
    cases rx with
    | nil => rfl
    | cons b bs =>
      unfold State.hunt
      split
      · exact ih s bs
      · split
        · exact (ih _ _).trans (arrive_oin _ _ _)
        · exact ih _ _
        · split
          · exact ih _ _
          · rfl

@[simp] theorem timeOutBytes_oin : s.timeOutBytes.oin = s.oin := by
  unfold State.timeOutBytes
  split
  · exact hunt_oin s _ _ _
  · rfl

@[simp] theorem hearBytes_oin (b : List Byte) : (s.hearBytes b).oin = s.oin := hunt_oin _ _ _ _

@[simp] theorem dueFor_oin (cs : List Condition) : (s.dueFor cs).oin = s.oin :=
  foldl_oin (fun t _ => State.noticeDue_oin t) cs s

@[simp] theorem holdoffExpires_oin : s.holdoffExpires.oin = s.oin := by
  unfold State.holdoffExpires
  dsimp only
  split <;> simp

theorem clearCounts_oin (cs : List Counter) : (s.clearCounts cs).oin = s.oin :=
  foldl_oin (f := fun t c => t.setCount c 0) (fun _ _ => rfl) cs s

@[simp] theorem followStale_oin : s.followStale.oin = s.oin := State.follow_oin _ _ _

/-! ### The runner (R169 to R182) -/

@[simp] theorem targetLeft_oin (x : Sensor) : (s.targetLeft x).oin = s.oin := by
  unfold State.targetLeft
  split
  · exact endProc_oin s _ _
  · rfl

theorem hold_oin (t : Targets) (tick : Nat) : (s.hold t tick).oin = s.oin := by
  unfold State.hold
  exact foldl_oin (by exact fun _ _ => rfl) _ s

theorem unhold_oin (t : Targets) : (s.unhold t).oin = s.oin := by
  unfold State.unhold
  exact foldl_oin (by exact fun _ _ => rfl) _ s

@[simp] theorem startCheck_oin (a : StartArgs) : (s.startCheck a).oin = s.oin := by
  unfold State.startCheck
  cases a with
  | biasCal t d n => dsimp only; split <;> simp [endProc_oin]
  | cableMeasure => dsimp only; split <;> simp [endProc_oin]
  | sensorSync t => dsimp only; split <;> simp [endProc_oin, hold_oin]
  | writeStore => dsimp only; split <;> simp [endProc_oin]

@[simp] theorem stopWork_oin (w : Work) : (s.stopWork w).oin = s.oin := by
  cases w with
  | sync t _ => exact unhold_oin s t
  | _ => rfl

theorem cableEnd_oin (v1 i1 v2 i2 v3 i3 : Nat) : (s.cableEnd v1 i1 v2 i2 v3 i3).oin = s.oin := by
  unfold State.cableEnd
  dsimp only
  split <;> simp [endProc_oin]

@[simp] theorem cableStep_oin (m : Measurement) : (s.cableStep m).oin = s.oin := by
  unfold State.cableStep
  dsimp only
  repeat' split
  all_goals simp [endProc_oin, cableEnd_oin, State.load, State.work]

/-! ### Motion and wear (R34 to R47) -/

@[simp] theorem modImu_oin (x : Sensor) (f : Imu → Imu) : (s.modImu x f).oin = s.oin := rfl

@[simp] theorem markGaps_oin (t : Tick) : (s.markGaps t).oin = s.oin := rfl

@[simp] theorem startImus_oin : s.startImus.oin = s.oin := by rw [startImus_rest]

@[simp] theorem reformSync_oin (n : Nat) : (s.reformSync n).oin = s.oin := by
  unfold State.reformSync
  split <;> rfl

@[simp] theorem judgeDark_oin : s.judgeDark.oin = s.oin := by
  unfold State.judgeDark
  repeat' split
  all_goals rfl

@[simp] theorem changeWear_oin (w : Wear) : (s.changeWear w).oin = s.oin := by simp [State.changeWear]

@[simp] theorem awayExpires_oin : s.awayExpires.oin = s.oin := by
  unfold State.awayExpires
  split <;> simp

@[simp] theorem judgeWear_oin : s.judgeWear.oin = s.oin := by
  unfold State.judgeWear
  repeat' split
  all_goals simp

@[simp] theorem wearRead_oin (r : WearResult) : (s.wearRead r).oin = s.oin := by
  cases r with
  | failed =>
    unfold State.wearRead
    dsimp only
    split <;> simp
  | succeeded r => exact judgeWear_oin _

@[simp] theorem wearStops_oin : s.wearStops.oin = s.oin := by
  unfold State.wearStops
  dsimp only
  split <;> simp

/-! ### Pictures (R72 to R104) -/

@[simp] theorem modSlots_oin (f : Slots → Slots) : (s.modSlots f).oin = s.oin := rfl

@[simp] theorem frameBegin_oin (b : Option FrameBegin) : (s.frameBegin b).oin = s.oin := by
  unfold State.frameBegin
  repeat' split
  all_goals simp

@[simp] theorem lines_oin (b : Option LinesBlock) : (s.lines b).oin = s.oin := by
  unfold State.lines
  repeat' split
  all_goals rfl

@[simp] theorem frameEnd_oin (b : Option FrameNo) : (s.frameEnd b).oin = s.oin := by
  unfold State.frameEnd
  repeat' split
  all_goals simp

@[simp] theorem dropFrames_oin (n : Nat) : (s.dropFrames n).oin = s.oin := by
  unfold State.dropFrames
  split <;> simp

@[simp] theorem countZeroed_oin (b : ShiftBasis) : (s.countZeroed b).oin = s.oin := by
  unfold State.countZeroed
  split <;> rfl

@[simp] theorem lateShift_oin : s.lateShift.oin = s.oin := by
  unfold State.lateShift
  split
  · rfl
  · dsimp only
    split <;> simp

@[simp] theorem beginScan_oin : s.beginScan.oin = s.oin := rfl

@[simp] theorem scanIdle_oin : s.scanIdle.oin = s.oin := rfl

@[simp] theorem selectFrame_oin : s.selectFrame.oin = s.oin := by
  unfold State.selectFrame
  dsimp only
  repeat' split
  all_goals simp

@[simp] theorem takeBlank_oin : s.takeBlank.oin = s.oin := rfl

@[simp] theorem copyAtBlank_oin : s.copyAtBlank.oin = s.oin := rfl

@[simp] theorem freeShown_oin : s.freeShown.oin = s.oin := dropFrames_oin _ _

@[simp] theorem outputAtBlank_oin : s.outputAtBlank.oin = s.oin := by
  unfold State.outputAtBlank
  split <;> simp

@[simp] theorem restartScan_oin : s.restartScan.oin = s.oin := by
  unfold State.restartScan
  split <;> rfl

@[simp] theorem scanOff_oin : s.scanOff.oin = s.oin := by
  unfold State.scanOff
  split <;> simp

@[simp] theorem scanStart_oin : s.scanStart.oin = s.oin := by rw [scanStart_rest]

/-! ### Sound (R126 to R142) -/

@[simp] theorem stopPlayback_oin : s.stopPlayback.oin = s.oin := rfl

@[simp] theorem stopCapture_oin : s.stopCapture.oin = s.oin := by
  unfold State.stopCapture
  dsimp only
  split <;> simp

@[simp] theorem appendFrames_oin (f : List Stereo) : (s.appendFrames f).oin = s.oin := by
  unfold State.appendFrames
  dsimp only
  split <;> simp

@[simp] theorem takeSound_oin (b : Option (Seq × List Stereo)) : (s.takeSound b).oin = s.oin := by
  unfold State.takeSound
  repeat' split
  all_goals simp

@[simp] theorem adjusted_oin (d : Adjust) : (s.adjusted d).oin = s.oin := by
  unfold State.adjusted
  cases d <;> dsimp only <;> split <;> simp

@[simp] theorem playInstant_oin : s.playInstant.oin = s.oin := by
  unfold State.playInstant State.underrun
  repeat' split
  all_goals simp

@[simp] theorem tryPlay_oin (f : Aud → Aud) : (s.tryPlay f).oin = s.oin := by
  unfold State.tryPlay
  split <;> simp

@[simp] theorem playback_oin : s.playback.oin = s.oin := by
  unfold State.playback
  repeat' split
  all_goals simp

@[simp] theorem enqueueCapture_oin (b : CaptureBlock) : (s.enqueueCapture b).oin = s.oin := by
  unfold State.enqueueCapture
  repeat' split
  all_goals simp

@[simp] theorem queueBlock_oin (b : CaptureBlock) (o : Bool) : (s.queueBlock b o).oin = s.oin := enqueueCapture_oin _ _

@[simp] theorem gateBlock_oin : s.gateBlock.oin = s.oin := rfl

@[simp] theorem gate_oin (b : CaptureBlock) : (s.gate b).oin = s.oin := by
  unfold State.gate
  dsimp only
  repeat' split
  all_goals simp

@[simp] theorem completeBlock_oin (g : Forming) : (s.completeBlock g).oin = s.oin := by
  unfold State.completeBlock
  dsimp only
  split <;> simp

@[simp] theorem capture_oin (m1 m2 : Int) : (s.capture m1 m2).oin = s.oin := by
  unfold State.capture
  dsimp only
  repeat' split
  all_goals simp

@[simp] theorem takeCapture_oin (c : CaptureArgs) : (s.takeCapture c).oin = s.oin := by
  unfold State.takeCapture State.setGate
  dsimp only
  repeat' split
  all_goals simp

/-! ### Power (R146 to R156) -/

@[simp] theorem formBudget_oin : s.formBudget.oin = s.oin := rfl

@[simp] theorem judgePower_oin (m : Measurement) : (s.judgePower m).oin = s.oin := by simp [State.judgePower]

@[simp] theorem changeLevel_oin (l : Level) : (s.changeLevel l).oin = s.oin := by
  unfold State.changeLevel State.setLevel State.capGain
  split <;> simp

@[simp] theorem riseTest_oin (m : Measurement) : (s.riseTest m).oin = s.oin := by
  unfold State.riseTest
  dsimp only
  repeat' split
  all_goals simp

@[simp] theorem fallTest_oin (m : Measurement) : (s.fallTest m).oin = s.oin := by
  unfold State.fallTest
  dsimp only
  repeat' split
  all_goals simp

@[simp] theorem shed_oin (m : Measurement) : (s.shed m).oin = s.oin := by
  unfold State.shed State.jump
  repeat' split
  all_goals simp

/-! ### The link (R1 to R25) -/

@[simp] theorem linkStep_oin : s.linkStep.oin = s.oin := by
  unfold State.linkStep
  split <;> rfl

@[simp] theorem leaveActive_oin : s.leaveActive.oin = s.oin := rfl

@[simp] theorem enterActive_oin (c : Channel) (n : Nat) : (s.enterActive c n).oin = s.oin := rfl

@[simp] theorem enterDown_oin : s.enterDown.oin = s.oin := by
  unfold State.enterDown
  dsimp only
  split <;> simp

@[simp] theorem trainingFails_oin : s.trainingFails.oin = s.oin := by
  unfold State.trainingFails
  repeat' split
  all_goals simp

@[simp] theorem retrainFails_oin : s.retrainFails.oin = s.oin := by
  unfold State.retrainFails
  repeat' split
  all_goals simp

@[simp] theorem moveOffset_oin (e : Int) : (s.moveOffset e).oin = s.oin := by
  unfold State.moveOffset
  repeat' split
  all_goals simp

@[simp] theorem lockBasis_oin : s.lockBasis.oin = s.oin := State.lower_oin _ _

@[simp] theorem takeBeat_oin : s.takeBeat.oin = s.oin := by
  unfold State.takeBeat
  dsimp only
  split <;> simp

end
end Sys2Proof.Machine
end

section
/-!
The angles, the history ring and the pose override stay wrapped, and the residues in range (O6): the arithmetic of R55 and R65, what
each operation of the OIN does to them, and the operations of other blocks through which the OIN is told.
-/

namespace Sys2Proof.Machine

/-! ### Wrapped angles and residues (R55, R65, R66) -/

theorem inTurn_wrapAngle (x : Int) : InTurn (wrapAngle x) := by
  unfold InTurn wrapAngle turn halfTurn
  omega

theorem isResidue_leftOver (n : Int) : IsResidue (leftOver n) := by
  unfold IsResidue leftOver
  omega

theorem isResidue_zero : IsResidue 0 := ⟨Int.le_refl 0, by decide⟩

theorem angleOk_iff (x : Int) : angleOk x = true ↔ InTurn x := by
  unfold angleOk InTurn halfTurn
  simp only [Bool.and_eq_true, decide_eq_true_eq]
  omega

theorem Angles.ok_iff (a : Angles) : a.ok = true ↔ a.inTurn := by
  simp only [Angles.ok, Angles.inTurn, Bool.and_eq_true, angleOk_iff, and_assoc]

theorem Angles.inTurn_correct (a c : Angles) : (a.correct c).inTurn :=
  ⟨inTurn_wrapAngle _, inTurn_wrapAngle _, inTurn_wrapAngle _⟩

/-- R55, R56: a sample leaves wrapped angles, appended to a ring of such, and residues in range, whatever its rates. -/
theorem Oin.integrate_wrapped {o : Oin} (h : o.wrapped) (x : Sensor) (t : Nat) (rate : Axes) :
    (o.integrate x t rate).wrapped := by
  obtain ⟨_, ring, pose, _⟩ := h
  have angles : (o.integrate x t rate).angles.inTurn :=
    ⟨inTurn_wrapAngle _, inTurn_wrapAngle _, inTurn_wrapAngle _⟩
  refine ⟨angles, fun e he => ?_, pose, isResidue_leftOver _, isResidue_leftOver _, isResidue_leftOver _⟩
  obtain old | new := List.mem_append.1 he
  · split at old
    · exact ring e (List.mem_of_mem_drop old)
    · exact ring e old
  · rw [List.mem_singleton.1 new]
    exact angles

/-- R65: the correction wraps the angles and every entry of the ring. -/
theorem Oin.anchor_wrapped {o : Oin} (h : o.wrapped) (c : Angles) : (o.anchor c).wrapped := by
  obtain ⟨_, _, pose, residues⟩ := h
  refine ⟨Angles.inTurn_correct _ c, fun e he => ?_, pose, residues⟩
  obtain ⟨_, _, rfl⟩ := List.mem_map.1 he
  exact Angles.inTurn_correct _ c

theorem Oin.reset_wrapped (v : Loaded) : (Oin.reset v).wrapped := by
  have zero : InTurn 0 := by unfold InTurn; decide
  exact ⟨⟨zero, zero, zero⟩, fun _ he => absurd he List.not_mem_nil, fun _ ha => (nomatch ha),
    isResidue_zero, isResidue_zero, isResidue_zero⟩

/-! ### The relation that operations compose -/

/-- 3.1: an OIN that was wrapped is so afterwards. -/
def KeepsWrapped (s t : State) : Prop := s.oin.wrapped → t.oin.wrapped

namespace KeepsWrapped

section
variable {s t u : State}

theorem trans (h : KeepsWrapped s t) (g : KeepsWrapped t u) : KeepsWrapped s u := g ∘ h

theorem of_same (e : t.oin = s.oin) : KeepsWrapped s t := fun h => e ▸ h

/-- An operation that comes after others that leave the OIN. -/
theorem after_same (h : KeepsWrapped t u) (e : t.oin = s.oin := by simp) : KeepsWrapped s u := (of_same e).trans h

/-- An operation that others come after, which leave the OIN. -/
theorem then_same (h : KeepsWrapped s t) (e : u.oin = t.oin := by simp) : KeepsWrapped s u := h.trans (of_same e)

end

variable (s : State)

theorem refl : KeepsWrapped s s := id

theorem foldl {α : Type} (f : State → α → State) (h : ∀ s a, KeepsWrapped s (f s a)) (xs : List α) :
    KeepsWrapped s (xs.foldl f s) := by
  induction xs generalizing s with
  | nil => exact refl s
  | cons x xs ih => exact (h s x).trans (ih _)

/-! ### What the OIN is told of (R53 to R62) -/

/-- R60, R62: a new binding sets the residues to zero and leaves the angles. -/
theorem bind (x : Sensor) : KeepsWrapped s (s.bind x) := fun ⟨angles, ring, pose, _⟩ =>
  ⟨angles, ring, pose, isResidue_zero, isResidue_zero, isResidue_zero⟩

theorem failover : KeepsWrapped s s.failover := (bind s _).then_same (State.raise_oin _ _)

theorem primaryFails : KeepsWrapped s s.primaryFails := by
  unfold State.primaryFails
  split
  · exact failover s
  · exact id

theorem primaryLeft (x : Sensor) : KeepsWrapped s (s.primaryLeft x) := by
  unfold State.primaryLeft
  split <;> exact id

theorem reportRunning (x : Sensor) : KeepsWrapped s (s.reportRunning x) := by
  unfold State.reportRunning
  split
  · exact id
  · split
    · exact failover s
    · exact id

theorem reportFault (x : Sensor) : KeepsWrapped s (s.reportFault x) := by
  unfold State.reportFault
  split
  · exact (primaryLeft s x).trans (primaryFails _)
  · exact id

theorem reportOff (x : Sensor) : KeepsWrapped s (s.reportOff x) := by
  unfold State.reportOff
  split
  · exact primaryLeft s x
  · exact id

theorem testSample (b : Bool) : KeepsWrapped s (s.testSample b) := by
  unfold State.testSample
  dsimp only
  split
  · split
    · exact fun h => primaryFails _ h
    · exact id
  · exact id

theorem takeSample (x : Sensor) (t : Nat) (r : Axes) (b : Bool) : KeepsWrapped s (s.takeSample x t r b) := by
  have taken : KeepsWrapped s (s.modOin fun o => o.integrate x t r).followStale :=
    then_same (fun h => Oin.integrate_wrapped h x t r) (State.follow_oin _ _ _)
  unfold State.takeSample
  split
  · exact taken.trans (testSample _ b)
  · exact id

/-! ### Ticks and IMU states (R29 to R37) -/

theorem eachSucceeded (f : State → Read → ImuData → State) (h : ∀ s r d, KeepsWrapped s (f s r d)) (rs : List Read) :
    KeepsWrapped s (eachSucceeded f rs s) := by
  unfold Machine.eachSucceeded
  refine foldl s _ (fun s r => ?_) rs
  split
  · exact h s r _
  · exact refl s

theorem handSample (t : Nat) (r : Read) (d : ImuData) : KeepsWrapped s (s.handSample t r d) :=
  (takeSample s _ _ _ _).then_same (collect_oin _ _ _ _)

theorem finishTick (t : Tick) : KeepsWrapped s (s.finishTick t) :=
  (((eachSucceeded _ _ (fun s r d => of_same (makeRecord_oin s t.time r d)) _).after_same).trans
    (eachSucceeded _ _ (fun s r d => handSample s t.time r d) _)).then_same (syncDone_oin _ t)

theorem completeTicks : KeepsWrapped s s.completeTicks := (foldl _ _ finishTick _).after_same

theorem enterRunning (x : Sensor) : KeepsWrapped s (s.enterRunning x) :=
  (reportRunning _ x).after_same

theorem enterFault (x : Sensor) : KeepsWrapped s (s.enterFault x) := by
  have told := (reportFault (((s.modImu x fun i => i.toFault (s.lt + Config.imuRetry)).bump (imuFaults x)).raise
    (imuFault x)) x).after_same (s := s) (by simp)
  unfold State.enterFault
  dsimp only
  split
  · exact told.then_same (targetLeft_oin _ x)
  · exact told

theorem enterOff (x : Sensor) : KeepsWrapped s (s.enterOff x) := by
  have told := (reportOff ((s.modImu x Imu.toOff).lower (imuFault x)) x).after_same (s := s) (by simp)
  unfold State.enterOff
  dsimp only
  split
  · exact refl s
  · split
    · exact told.then_same (targetLeft_oin _ x)
    · exact told

theorem imusOff : KeepsWrapped s s.imusOff :=
  (((completeTicks _).after_same).trans (enterOff _ .a)).trans (enterOff _ .b)

theorem readFails (x : Sensor) : KeepsWrapped s (s.readFails x) := by
  unfold State.readFails
  dsimp only
  split
  · exact (enterFault _ x).after_same
  · exact of_same rfl

theorem startupGoesOn (x : Sensor) (k : StartStep) (e : Nat) (ok : Bool) : KeepsWrapped s (s.startupGoesOn x k e ok) := by
  have ends (good : Bool) {t u : State} (ht : KeepsWrapped s t) (hu : KeepsWrapped s u) :
      KeepsWrapped s (if good then t else u) := by
    split
    · exact ht
    · exact hu
  unfold State.startupGoesOn
  cases k with
  | reset | scales => exact of_same rfl
  | identity => exact ends ok (of_same rfl) ((enterFault _ x).after_same)
  | readBack => exact ends ok ((enterRunning _ x).after_same) ((enterFault _ x).after_same)

/-! ### Rails and the measurement (R146 to R162) -/

theorem railLeft (x : Rail) (b : Bool) : KeepsWrapped s (s.railLeft x b) := by
  cases x with
  | sensor => exact (imusOff s).then_same (wearStops_oin _)
  | audio => cases b <;> exact of_same (by simp [State.railLeft])
  | panelL | panelR | illum => exact of_same (by simp [State.railLeft])

theorem setRail (x : Rail) (st : RailState) : KeepsWrapped s (s.setRail x st) := by
  have taken : (s.railTaken x st).oin = s.oin := by
    unfold State.railTaken State.followRail State.putRail
    repeat' split
    all_goals simp
  have reached (t : State) : (t.railReached x).oin = t.oin := by cases x <;> simp [State.railReached]
  rw [setRail_eq]
  split
  · exact (railLeft _ x _).after_same taken
  · split
    · exact of_same ((reached _).trans taken)
    · exact of_same taken

theorem sequence : KeepsWrapped s s.sequence := by
  refine foldl s _ (fun s x => ?_) _
  split
  · exact setRail s x _
  · exact refl s

theorem takeDown (xs : List Rail) : KeepsWrapped s (s.takeDown xs) := by
  refine foldl s _ (fun s x => ?_) _
  split
  · exact refl s
  · exact setRail s x _

theorem railFails (x : Rail) : KeepsWrapped s (s.railFails x) :=
  ((setRail s x .fault).trans ((takeDown _ _).after_same)).trans (sequence _)

theorem formTarget : KeepsWrapped s s.formTarget := ((takeDown _ _).after_same).trans (sequence _)

theorem tellPmg (b : Bool) : KeepsWrapped s (s.tellPmg b) := (formTarget _).after_same

theorem enterNormal : KeepsWrapped s s.enterNormal := ((formTarget _).after_same).then_same (linkStep_oin _)

theorem leaveStart (m : Measurement) : KeepsWrapped s (s.leaveStart m) := by
  unfold State.leaveStart
  split
  · exact enterNormal s
  · exact refl s

theorem enterBrownout : KeepsWrapped s s.enterBrownout := by
  unfold State.enterBrownout
  exact (formTarget (s.modPmg fun p => { p with supply := .brownout, testLoad := false })).after_same.then_same

theorem brownoutTest (m : Measurement) : KeepsWrapped s (s.brownoutTest m) := by
  unfold State.brownoutTest
  dsimp only
  split
  · exact (enterBrownout _).after_same
  · exact id

theorem recover : KeepsWrapped s s.recover := (enterNormal _).after_same.then_same (State.opportunity_oin _)

theorem recoveryTest (m : Measurement) : KeepsWrapped s (s.recoveryTest m) := by
  unfold State.recoveryTest
  dsimp only
  split
  · exact (recover _).after_same
  · exact id

theorem supplyTests (m : Measurement) : KeepsWrapped s (s.supplyTests m) := by
  unfold State.supplyTests
  split
  · exact recoveryTest s m
  · exact (leaveStart s m).trans (brownoutTest _ m)
  · exact (leaveStart s m).trans (brownoutTest _ m)

theorem measure (m : Measurement) : KeepsWrapped s (s.measure m) :=
  ((supplyTests _ m).after_same).then_same (cableStep_oin _ m)

/-! ### The reset and the entries of the link (R10 to R15, R207 to R210) -/

theorem reportLive_oin : s.reportLive.oin = s.oin := by
  have told := foldl_oin (f := fun t x => t.follow (railFault x) (t.pmg.rails.get x == .fault))
    (fun t x => State.follow_oin t _ _) railOrder ((s.follow .timeFree (s.tlc.basis == .free)).followStale)
  exact told.trans (by simp [State.followStale])

theorem doRestart : KeepsWrapped s s.doRestart := fun _ => by
  have reset : s.doRestart.oin = .reset s.loaded := by
    unfold State.doRestart
    rw [scanStart_oin, startImus_oin, reportLive_oin, reformSync_oin]
    rfl
  rw [reset]
  exact Oin.reset_wrapped _

theorem restartOnLeave : KeepsWrapped s s.restartOnLeave := by
  unfold State.restartOnLeave
  split
  · exact doRestart s
  · exact refl s

theorem enterRetrain (c : Channel) : KeepsWrapped s (s.enterRetrain c) := by
  unfold State.enterRetrain
  exact (restartOnLeave _).after_same

theorem enterSleep : KeepsWrapped s s.enterSleep :=
  ((((tellPmg _ true).after_same).trans (imusOff _)).then_same (scanOff_oin _)).trans (restartOnLeave _)

theorem wake_oin : s.wake.oin = s.oin := by simp [State.wake]

theorem endLoad (x : StoreState) (v : Loaded) : KeepsWrapped s (s.endLoad x v) := by
  have taken : KeepsWrapped s (s.takeLoaded v) := id
  unfold State.endLoad
  dsimp only
  split <;> exact taken.then_same

end KeepsWrapped
end Sys2Proof.Machine
end

section
/-! Every command keeps the OIN wrapped, row by row, and with it every step (O6). -/

namespace Sys2Proof.Machine

namespace KeepsWrapped
variable (s : State)

/-! ### What the rows share -/

/-- A row that acts under a condition, and otherwise has no effect. -/
theorem only {p : Prop} [Decidable p] {t : State} (h : KeepsWrapped s t) : KeepsWrapped s (if p then t else s) := by
  split
  · exact h
  · exact refl s

theorem request (k : ReqKind) (p : Port) (tag : Byte) (q : List Byte) (own : State → Answer)
    (h : KeepsWrapped s (own s).state) : KeepsWrapped s (s.request k p tag q own) := by
  refine only s ?_
  split
  · exact of_same (reply_oin _ _ _ _ _ _ _)
  · exact h.then_same

theorem withoutArgs (q : List Byte) (own : State → Answer) (h : KeepsWrapped s (own s).state) :
    KeepsWrapped s (withoutArgs q own s).state := by
  unfold Machine.withoutArgs
  split
  · exact h
  · exact refl s

/-! ### Power rows -/

theorem storeLoadComplete (r : Option (List Byte)) : Lands KeepsWrapped (.storeLoadComplete r) s := ⟨_, rfl, by
  refine only s ?_
  repeat' split
  all_goals exact endLoad s _ _⟩

theorem inputMeasurement (v i : Nat) : Lands KeepsWrapped (.inputMeasurement v i) s := ⟨_, rfl, by
  split
  · exact refl s
  · exact (measure _ _).after_same⟩

theorem railPowerGood (x : Rail) : Lands KeepsWrapped (.railPowerGood x) s := ⟨_, rfl, by
  split
  · exact (setRail s x _).trans (sequence _)
  · exact refl s⟩

theorem railRampTimeout (x : Rail) : Lands KeepsWrapped (.railRampTimeout x) s := ⟨_, rfl, by
  split
  · exact only s (railFails s x)
  · exact refl s⟩

/-! ### Link rows -/

theorem trainingRecordReceived (r : BaseRecord) (l : BitVec 4) : Lands KeepsWrapped (.trainingRecordReceived r l) s :=
  ⟨_, rfl, of_same (by
    split
    · split <;> simp
    · rfl)⟩

theorem trainingAttemptSucceeds (n : Nat) : Lands KeepsWrapped (.trainingAttemptSucceeds n) s := ⟨_, rfl, by
  split
  · exact only s ((tellPmg _ false).after_same.then_same (State.opportunity_oin _))
  · exact refl s⟩

theorem trainingAttemptTimeout : Lands KeepsWrapped .trainingAttemptTimeout s := ⟨_, rfl, by
  split
  · exact only s (of_same (trainingFails_oin s))
  · exact refl s⟩

theorem symbolLockLost (l : Fin 4) : Lands KeepsWrapped (.symbolLockLost l) s := ⟨_, rfl, by
  split
  next c _ => exact only s (enterRetrain s c)
  · exact only s (of_same (retrainFails_oin s))
  · exact only s (of_same (trainingFails_oin s))
  · exact refl s⟩

theorem retrainAttemptSucceeds (n : Nat) : Lands KeepsWrapped (.retrainAttemptSucceeds n) s := ⟨_, rfl, by
  split
  · exact only s ((tellPmg _ false).after_same.then_same (State.opportunity_oin _))
  · exact refl s⟩

theorem retrainAttemptTimeout : Lands KeepsWrapped .retrainAttemptTimeout s := ⟨_, rfl, by
  split
  · exact only s (of_same (retrainFails_oin s))
  · exact refl s⟩

theorem retryTimerExpiry : Lands KeepsWrapped .retryTimerExpiry s := ⟨_, rfl, by
  split
  · exact only s id
  · exact refl s⟩

theorem crcError : KeepsWrapped s s.crcError := by
  unfold State.crcError
  dsimp only
  split
  next c _ => exact (only _ (enterRetrain _ c)).after_same
  next => exact id

theorem discard (d : Discard) : KeepsWrapped s (s.discard d) := by
  cases d with
  | crc => exact crcError s
  | stream | linkKind | pictureKind => exact id

theorem linkBlockDiscarded (b : List Byte) : Lands KeepsWrapped (.linkBlockDiscarded b) s := ⟨_, rfl, by
  split
  · split
    · exact discard s _
    · exact refl s
  · exact only s id⟩

theorem timeMark (q : List Byte) : Lands KeepsWrapped (.timeMark q) s :=
  ⟨_, rfl, only s (of_same (by split <;> simp))⟩

theorem timeBasisFree : Lands KeepsWrapped .timeBasisFree s := ⟨_, rfl, by
  split
  · exact only s (of_same (State.raise_oin _ _))
  · exact refl s⟩

theorem sleepMark (q : List Byte) : Lands KeepsWrapped (.sleepMark q) s := ⟨_, rfl, only s (by
  split
  · exact enterSleep s
  · exact id)⟩

theorem messageLeft (p : Port) (r : MessageRole) : KeepsWrapped s (s.messageLeft p r) := by
  cases r with
  | notice | reply => exact id
  | restartReply => exact (doRestart _).after_same rfl
  | sleepReply =>
    unfold State.messageLeft
    dsimp only
    split
    · exact (enterSleep (s.replyLeft p)).after_same rfl
    · exact id

theorem blockSent (x : Transmission) : KeepsWrapped s (s.blockSent x) := by
  unfold State.blockSent
  dsimp only
  split
  · exact id
  · exact id
  · exact id
  · exact id
  · split
    · exact id
    · exact (messageLeft _ _ _).after_same

theorem upstreamBlockSent : Lands KeepsWrapped .upstreamBlockSent s := ⟨_, rfl, by
  refine only s ?_
  split
  · exact (blockSent s _).then_same (State.opportunity_oin _)
  · exact refl s⟩

theorem serviceFrameSent : Lands KeepsWrapped .serviceFrameSent s := ⟨_, rfl, by
  have sent : KeepsWrapped s s.frameSent := by
    unfold State.frameSent
    dsimp only
    split
    · exact (messageLeft _ _ _).after_same
    · exact id
  split
  · exact refl s
  · exact sent.then_same⟩

/-! ### Requests -/

section
variable (p : Port) (tag : Byte) (q : List Byte)

theorem attach : Lands KeepsWrapped (.attach p tag q) s := ⟨_, rfl, by
  have asked := request s .attach p tag q _ (withoutArgs s q (attachTo p) (of_same (by
    unfold attachTo
    repeat' split
    all_goals rfl)))
  split
  · exact asked.then_same
  · exact asked⟩

theorem detach : Lands KeepsWrapped (.detach p tag q) s := ⟨_, rfl, by
  have asked := request s .detach p tag q _ (withoutArgs s q (fun s => .ok s []) id)
  split
  · exact asked.then_same
  · exact asked⟩

theorem restart : Lands KeepsWrapped (.restart p tag q) s := ⟨_, rfl, by
  have asked := request s .restart p tag q _ (withoutArgs s q (restartBy p) id)
  split
  · exact asked.trans (doRestart _)
  · exact asked⟩

theorem startProcedure : Lands KeepsWrapped (.startProcedure p tag q) s := ⟨_, rfl, by
  have asked := request s .startProcedure p tag q (startBy q) (of_same (by
    unfold startBy
    repeat' split
    all_goals rfl))
  split
  · split
    · exact asked.then_same
    · exact asked
  · exact asked⟩

/-- R58: the map empties the ring and sets the residues to zero. -/
theorem mapAxes : KeepsWrapped s (mapAxes q s).state := by
  unfold Machine.mapAxes
  split
  · exact refl s
  next m _ =>
    have mapped : KeepsWrapped s (s.modOin fun o =>
        { o with axisMap := m, ring := [], residues := .zero, lastTime := none, rates := .zero }) :=
      fun ⟨angles, _, pose, _⟩ =>
        ⟨angles, fun _ he => absurd he List.not_mem_nil, pose, isResidue_zero, isResidue_zero, isResidue_zero⟩
    exact mapped.then_same (followStale_oin _)

theorem select : KeepsWrapped s (select q s).state := by
  unfold Machine.select
  split
  · exact refl s
  · split
    · exact refl s
    · split
      · exact id
      · exact bind s _

theorem anchorBy : KeepsWrapped s (anchorBy q s).state := by
  unfold Machine.anchorBy
  split
  · exact refl s
  · split
    · exact refl s
    · dsimp only
      split
      · exact id
      · exact fun h => Oin.anchor_wrapped h _

theorem parsePose_inTurn {a : Angles} (h : parsePose q = some a) : a.inTurn := by
  unfold parsePose at h
  split at h
  next good =>
    obtain rfl := Option.some.inj h
    exact (Angles.ok_iff _).1 good.2
  · exact absurd h (by simp)

/-- R66: an override out of range is refused. -/
theorem setPose : KeepsWrapped s (setPose q s).state := by
  unfold Machine.setPose
  split
  · exact refl s
  next a parsed =>
    refine fun ⟨angles, ring, _, residues⟩ => ⟨angles, ring, fun b hb => ?_, residues⟩
    obtain rfl := Option.some.inj hb
    exact parsePose_inTurn q parsed

/-- R66: a cleared override is none. -/
theorem clearPose : KeepsWrapped s (s.modOin fun o => { o with pose := none }) := fun ⟨angles, ring, _, residues⟩ =>
  ⟨angles, ring, fun _ hb => (nomatch hb), residues⟩

theorem restartRails : KeepsWrapped s (restartRails s).state := by
  unfold Machine.restartRails
  dsimp only
  split
  · exact refl s
  · exact (takeDown s _).trans ((sequence (State.bump _ .railRestarts)).after_same rfl)

end

/-! ### Requests that leave the OIN -/

section
variable (p : Port) (q : List Byte)

theorem statusOf_oin : (statusOf q s).state.oin = s.oin := by
  unfold statusOf
  split <;> rfl

theorem linkSleepBy_oin : (linkSleepBy s).state.oin = s.oin := by
  unfold linkSleepBy
  repeat' split
  all_goals rfl

theorem setRate_oin : (setRate q s).state.oin = s.oin := by
  unfold setRate
  split
  · rfl
  · exact reformSync_oin _ _

theorem setWear_oin : (setWear q s).state.oin = s.oin := by
  unfold setWear
  split
  · rfl
  · exact awayExpires_oin _

theorem setProfile_oin : (setProfile q s).state.oin = s.oin := by
  unfold setProfile
  split
  · rfl
  · simp [Answer.ok]

theorem stage_oin : (stage q s).state.oin = s.oin := by
  unfold stage
  split <;> rfl

theorem setVolume_oin : (setVolume q s).state.oin = s.oin := by
  unfold setVolume
  repeat' split
  all_goals rfl

theorem setCapture_oin : (setCapture q s).state.oin = s.oin := by
  unfold setCapture
  split
  · rfl
  · exact takeCapture_oin _ _

theorem setLimits_oin : (setLimits q s).state.oin = s.oin := by
  unfold setLimits
  split <;> rfl

theorem setResistance_oin : (setResistance q s).state.oin = s.oin := by
  unfold setResistance
  split <;> rfl

theorem abortBy_oin : (abortBy s).state.oin = s.oin := by
  unfold abortBy
  split
  · rfl
  · exact (endProc_oin _ _ _).trans (stopWork_oin s _)

theorem readCountersBy_oin : (readCountersBy p q s).state.oin = s.oin := by
  unfold readCountersBy
  split
  · rfl
  · split
    · rfl
    next clear _ =>
      cases clear
      · rfl
      · exact clearCounts_oin s _

theorem clearBy_oin : (clearBy q s).state.oin = s.oin := by
  unfold clearBy
  split
  · rfl
  · exact State.attend_oin _

theorem maskBy_oin : (maskBy q s).state.oin = s.oin := by
  unfold maskBy
  split
  · rfl
  · simp [Answer.ok]

end

/-! ### Procedures and sensors -/

theorem biasCalCollectionEnd : Lands KeepsWrapped .biasCalCollectionEnd s := ⟨_, rfl, by
  have written (x : Sensor) (c : Collection) (t : State) : KeepsWrapped t (t.writeBias x c) := by cases x <;> exact id
  have judged (t : Targets) (n : Nat) (a b : Collection) : KeepsWrapped s (s.judgeBias t n a b) := by
    unfold State.judgeBias
    dsimp only
    split
    · exact of_same (endProc_oin _ _ _)
    · split
      · exact of_same (endProc_oin _ _ _)
      · exact (foldl s _ (fun s x => written x _ s) _).then_same (endProc_oin _ _ _)
  split
  · exact only s (judged _ _ _ _)
  · exact refl s⟩

theorem storeWriteComplete : Lands KeepsWrapped .storeWriteComplete s := ⟨_, rfl, by split <;> exact id⟩

theorem storeReadbackComplete (b : List Byte) : Lands KeepsWrapped (.storeReadbackComplete b) s :=
  ⟨_, rfl, of_same (by
    split
    · split <;> exact endProc_oin _ _ _
    · rfl)⟩

theorem sampleReadEnd (x : Sensor) (r : ReadResult) : Lands KeepsWrapped (.sampleReadEnd x r) s := ⟨_, rfl, by
  refine only s ?_
  cases r with
  | failed => exact (readFails s x).trans (completeTicks _)
  | succeeded d => exact (completeTicks (s.readSucceeds x d)).after_same rfl⟩

theorem imuStartupTransaction (x : Sensor) (r : StartupResult) : Lands KeepsWrapped (.imuStartupTransaction x r) s :=
  ⟨_, rfl, by
    split
    · dsimp only
      split
      · exact (enterFault _ x).after_same
      · exact id
    · exact startupGoesOn s x _ _ _
    · exact refl s⟩

theorem imuStartupTimeout (x : Sensor) : Lands KeepsWrapped (.imuStartupTimeout x) s := ⟨_, rfl, by
  split
  · exact only s (enterFault s x)
  · exact refl s⟩

theorem imuRetryExpiry (x : Sensor) : Lands KeepsWrapped (.imuRetryExpiry x) s := ⟨_, rfl, by
  split
  · exact only s id
  · exact refl s⟩

theorem silenceWatchExpiry : Lands KeepsWrapped .silenceWatchExpiry s :=
  ⟨_, rfl, only s fun h => primaryFails (s.modOin fun o => { o with silenceAt := none }) h⟩

theorem wearReadDone (r : WearResult) : Lands KeepsWrapped (.wearReadDone r) s := ⟨_, rfl, only s (of_same (by
  unfold State.wearWakes
  split <;> simp [wake_oin]))⟩

theorem powerOn (x : Straps) : Lands KeepsWrapped (.powerOn x) s := ⟨_, rfl, by
  have on : KeepsWrapped s (s.powerOn x) := fun _ => reset_wrapped
  split
  · exact on
  · exact on.trans (endLoad _ _ _)⟩

/-! ### Every command -/

theorem exec (i : Instr) : Lands KeepsWrapped i s := by
  cases i with
  | powerOn x => exact powerOn s x
  | storeLoadComplete r => exact storeLoadComplete s r
  | inputMeasurement v i => exact inputMeasurement s v i
  | railPowerGood x => exact railPowerGood s x
  | railRampTimeout x => exact railRampTimeout s x
  | powerGoodWithdrawn x => exact ⟨_, rfl, only s (railFails s x)⟩
  | trainingRecordReceived r l => exact trainingRecordReceived s r l
  | trainingAttemptSucceeds n => exact trainingAttemptSucceeds s n
  | trainingAttemptTimeout => exact trainingAttemptTimeout s
  | symbolLockLost l => exact symbolLockLost s l
  | retrainAttemptSucceeds n => exact retrainAttemptSucceeds s n
  | retrainAttemptTimeout => exact retrainAttemptTimeout s
  | retryTimerExpiry => exact retryTimerExpiry s
  | lineEnergyDetected => exact ⟨_, rfl, only s (of_same (wake_oin s))⟩
  | linkBlockDiscarded b => exact linkBlockDiscarded s b
  | crcWindowBoundary => exact ⟨_, rfl, only s id⟩
  | timeMark q => exact timeMark s q
  | timeBasisFree => exact timeBasisFree s
  | sleepMark q => exact sleepMark s q
  | statusBeatDue => exact ⟨_, rfl, only s (of_same (takeBeat_oin s))⟩
  | upstreamBlockSent => exact upstreamBlockSent s
  | frameBegin q => exact ⟨_, rfl, only s (of_same (frameBegin_oin s _))⟩
  | lines q => exact ⟨_, rfl, only s (of_same (lines_oin s _))⟩
  | frameEnd q => exact ⟨_, rfl, only s (of_same (frameEnd_oin s _))⟩
  | sound q => exact ⟨_, rfl, only s (of_same (takeSound_oin s _))⟩
  | controlBlockReceived q => exact ⟨_, rfl, only s (of_same (by split <;> simp))⟩
  | serviceFrameReceived b => exact ⟨_, rfl, only s (of_same (by simp))⟩
  | serviceByteTimeout => exact ⟨_, rfl, of_same (timeOutBytes_oin s)⟩
  | serviceFrameSent => exact serviceFrameSent s
  | unknownKind p tag k q => exact ⟨_, rfl, only s (of_same (reply_oin s _ _ _ _ _ _))⟩
  | attach p tag q => exact attach s p tag q
  | detach p tag q => exact detach s p tag q
  | getInfo p tag q => exact ⟨_, rfl, request s _ p tag q _ (withoutArgs s q (fun s => .ok s (s.infoBytes p)) id)⟩
  | getStatus p tag q => exact ⟨_, rfl, request s _ p tag q _ (of_same (statusOf_oin s q))⟩
  | restart p tag q => exact restart s p tag q
  | linkSleep p tag q => exact ⟨_, rfl, request s _ p tag q _ (withoutArgs s q _ (of_same (linkSleepBy_oin s)))⟩
  | setSensorRate p tag q => exact ⟨_, rfl, request s _ p tag q _ (of_same (setRate_oin s q))⟩
  | setWear p tag q => exact ⟨_, rfl, request s _ p tag q _ (of_same (setWear_oin s q))⟩
  | setAxisMap p tag q => exact ⟨_, rfl, request s _ p tag q _ (mapAxes s q)⟩
  | selectPrimary p tag q => exact ⟨_, rfl, request s _ p tag q _ (select s q)⟩
  | anchor p tag q => exact ⟨_, rfl, request s _ p tag q _ (anchorBy s q)⟩
  | setPoseOverride p tag q => exact ⟨_, rfl, request s _ p tag q _ (setPose s q)⟩
  | clearPoseOverride p tag q => exact ⟨_, rfl, request s _ p tag q _ (withoutArgs s q _ (clearPose s))⟩
  | setProfile p tag q => exact ⟨_, rfl, request s _ p tag q _ (of_same (setProfile_oin s q))⟩
  | stagePulses p tag q => exact ⟨_, rfl, request s _ p tag q _ (of_same (stage_oin s q))⟩
  | setVolume p tag q => exact ⟨_, rfl, request s _ p tag q _ (of_same (setVolume_oin s q))⟩
  | setCapture p tag q => exact ⟨_, rfl, request s _ p tag q _ (of_same (setCapture_oin s q))⟩
  | setPowerLimits p tag q => exact ⟨_, rfl, request s _ p tag q _ (of_same (setLimits_oin s q))⟩
  | setCableResistance p tag q => exact ⟨_, rfl, request s _ p tag q _ (of_same (setResistance_oin s q))⟩
  | railRestart p tag q => exact ⟨_, rfl, request s _ p tag q _ (withoutArgs s q _ (restartRails s))⟩
  | startProcedure p tag q => exact startProcedure s p tag q
  | abortProcedure p tag q => exact ⟨_, rfl, request s _ p tag q _ (withoutArgs s q _ (of_same (abortBy_oin s)))⟩
  | getProcedureResult p tag q => exact ⟨_, rfl, request s _ p tag q _ (withoutArgs s q (fun s => .ok s s.prr.bytes) id)⟩
  | readConditions p tag q => exact ⟨_, rfl, request s _ p tag q _ (withoutArgs s q (fun s => .ok s s.conditionBytes) id)⟩
  | readCounters p tag q => exact ⟨_, rfl, request s _ p tag q _ (of_same (readCountersBy_oin s p q))⟩
  | clearConditions p tag q => exact ⟨_, rfl, request s _ p tag q _ (of_same (clearBy_oin s q))⟩
  | setNoticeMask p tag q => exact ⟨_, rfl, request s _ p tag q _ (of_same (maskBy_oin s q))⟩
  | biasCalCollectionEnd => exact biasCalCollectionEnd s
  | storeWriteComplete => exact storeWriteComplete s
  | storeReadbackComplete b => exact storeReadbackComplete s b
  | sampleTick => exact ⟨_, rfl, only s id⟩
  | sampleReadEnd x r => exact sampleReadEnd s x r
  | imuStartupTransaction x r => exact imuStartupTransaction s x r
  | imuStartupTimeout x => exact imuStartupTimeout s x
  | imuRetryExpiry x => exact imuRetryExpiry s x
  | silenceWatchExpiry => exact silenceWatchExpiry s
  | poseStale => exact ⟨_, rfl, of_same (State.follow_oin s _ _)⟩
  | wearReadTick => exact ⟨_, rfl, only s id⟩
  | wearReadDone r => exact wearReadDone s r
  | awayTimerExpiry => exact ⟨_, rfl, of_same (awayExpires_oin s)⟩
  | blankStart => exact ⟨_, rfl, only s (of_same (by simp))⟩
  | illumPulseStart x => exact ⟨_, rfl, only s id⟩
  | illumPulseEnd x => exact ⟨_, rfl, only s id⟩
  | outputInstant m1 m2 => exact ⟨_, rfl, only s (of_same (by simp))⟩
  | attenuationRampStep => exact ⟨_, rfl, only s id⟩
  | holdoffExpiry => exact ⟨_, rfl, only s (of_same (holdoffExpires_oin s))⟩
  | quietHoldEnd => exact ⟨_, rfl, only s (of_same (by simp))⟩

end KeepsWrapped

/-- Settles O6: a step is a command, which keeps the OIN wrapped, or the passing of a microsecond, which leaves it. -/
theorem anglesStayWrapped : Obligations.AnglesStayWrapped := by
  intro s t wrapped h
  obtain ⟨c, rest, _, he⟩ | ⟨_, rfl⟩ := step_cases h
  · exact (KeepsWrapped.exec _ c).of_exec he wrapped
  · exact wrapped

end Sys2Proof.Machine
end

section
/-!
The directed requests of the OIN: ANCHOR (O44), and SET_AXIS_MAP, SELECT_PRIMARY and the pose override (O43), each from what its
payload decodes to.
-/

namespace Sys2Proof.Machine

/-! ### The nearest entry (R64) -/

/-- R64: the entry chosen stands in the ring with none nearer before it and none as near after it. -/
theorem nearest_split (t : Int) (e : HistoryEntry) (es : List HistoryEntry) :
    ∃ before after, e :: es = before ++ nearest t e es :: after ∧
      (∀ x ∈ before, (nearest t e es).distance t ≤ x.distance t) ∧
      (∀ x ∈ after, (nearest t e es).distance t < x.distance t) := by
  induction es generalizing e with
  | nil => exact ⟨[], [], rfl, fun _ h => absurd h List.not_mem_nil, fun _ h => absurd h List.not_mem_nil⟩
  | cons f es ih =>
    unfold nearest
    split
    next nearer =>
      obtain ⟨before, after, ring, older, newer⟩ := ih f
      have best : (nearest t f es).distance t ≤ f.distance t := by
        have mem : f ∈ before ++ nearest t f es :: after := ring ▸ List.mem_cons_self
        obtain h | h := List.mem_append.1 mem
        · exact older f h
        · obtain h | h := List.mem_cons.1 h
          · rw [← h]
          · exact Nat.le_of_lt (newer f h)
      refine ⟨e :: before, after, congrArg (e :: ·) ring, fun x hx => ?_, newer⟩
      obtain rfl | hx := List.mem_cons.1 hx
      · exact Nat.le_trans best nearer
      · exact older x hx
    next farther =>
      obtain ⟨before, after, ring, older, newer⟩ := ih e
      have passed : e.distance t < f.distance t := Nat.not_le.1 farther
      cases before with
      | nil =>
        obtain ⟨chosen, rest⟩ := List.cons.inj ring
        refine ⟨[], f :: es, by rw [← chosen]; rfl, fun _ h => absurd h List.not_mem_nil, fun x hx => ?_⟩
        obtain rfl | hx := List.mem_cons.1 hx
        · rw [← chosen]
          exact passed
        · exact newer x (rest ▸ hx)
      | cons b before =>
        obtain ⟨rfl, rest⟩ := List.cons.inj ring
        refine ⟨e :: f :: before, after, congrArg (e :: f :: ·) rest, fun x hx => ?_, newer⟩
        have best := older e List.mem_cons_self
        obtain rfl | hx := List.mem_cons.1 hx
        · exact best
        · obtain rfl | hx := List.mem_cons.1 hx
          · exact Nat.le_of_lt (Nat.lt_of_le_of_lt best passed)
          · exact older x (List.mem_cons_of_mem _ hx)

/-- R64: of a ring in the order of its times, all before `t`, none is newer than the entry nearest to `t`. -/
theorem newest_of_all_before {t : Int} {n : HistoryEntry} {before after : List HistoryEntry}
    (newer : ∀ x ∈ after, n.distance t < x.distance t)
    (order : (before ++ n :: after).Pairwise fun x y => x.time < y.time)
    (past : ∀ x ∈ before ++ n :: after, (x.time : Int) < t) : after = [] := by
  obtain ⟨_, sorted, _⟩ := List.pairwise_append.1 order
  obtain ⟨later, _⟩ := List.pairwise_cons.1 sorted
  refine List.eq_nil_iff_forall_not_mem.2 fun x hx => ?_
  have order := later x hx
  have past := past x (by simp [hx])
  have nearer := newer x hx
  unfold HistoryEntry.distance at nearer
  omega

/-! ### The correction (R65) -/

theorem wrapAngle_add_correction {a : Int} (h : InTurn a) (u : Int) : wrapAngle (u + wrapAngle (a - u)) = a := by
  obtain ⟨low, high⟩ := h
  unfold wrapAngle turn halfTurn
  omega

/-- R65: the anchor entry's angles become the anchor's. -/
theorem Angles.correct_correction {a : Angles} (h : a.inTurn) (u : Angles) : u.correct (correction a u) = a := by
  obtain ⟨yaw, pitch, roll⟩ := h
  simp only [Angles.correct, correction, Angles.zip, wrapAngle_add_correction, yaw, pitch, roll]

theorem correction_inTurn (a u : Angles) : (correction a u).inTurn :=
  ⟨inTurn_wrapAngle _, inTurn_wrapAngle _, inTurn_wrapAngle _⟩

/-! ### ANCHOR (R64, R65) -/

section
variable {s : State} {q : List Byte}

/-- R215: the payload of an ANCHOR that is taken. -/
def AnchorInRange (q : List Byte) : Prop := q.length = 20 ∧ (anglesAt q 8).inTurn

theorem parseAnchor_good (h : AnchorInRange q) : parseAnchor q = some (natAt q 0 8, anglesAt q 8) :=
  if_pos ⟨h.1, (Angles.ok_iff _).2 h.2⟩

theorem anchorBy_bad (h : ¬ AnchorInRange q) : anchorBy q s = .plain s .badArgument := by
  have refused : parseAnchor q = none := if_neg fun ⟨len, ok⟩ => h ⟨len, (Angles.ok_iff _).1 ok⟩
  rw [anchorBy, refused]

theorem anchorBy_empty (h : AnchorInRange q) (hr : s.oin.ring = []) : anchorBy q s = .plain s .wrongState := by
  simp only [anchorBy, parseAnchor_good h, hr]

variable {e : HistoryEntry} {es : List HistoryEntry}

theorem anchorBy_early (h : AnchorInRange q) (hr : s.oin.ring = e :: es)
    (ht : (natAt q 0 8 : Int) - s.tlc.offset < e.time) : anchorBy q s = .plain (s.bump .anchorsTooOld) .tooOld := by
  simp only [anchorBy, parseAnchor_good h, hr, if_pos ht]

theorem anchorBy_taken (h : AnchorInRange q) (hr : s.oin.ring = e :: es)
    (ht : (e.time : Int) ≤ (natAt q 0 8 : Int) - s.tlc.offset) :
    let n := nearest ((natAt q 0 8 : Int) - s.tlc.offset) e es
    let c := correction (anglesAt q 8) n.angles
    anchorBy q s = .ok ((s.bump .anchorsTaken).modOin fun o => o.anchor c) (timeBytes n.time ++ c.bytes) := by
  simp only [anchorBy, parseAnchor_good h, hr, if_neg (Int.not_lt.2 ht)]
  rfl

end

/-- Settles O44: the refusals in their order, and the entry nearest the anchor, by which the ring is corrected. -/
theorem anchorCorrectsTheRing : Obligations.AnchorCorrectsTheRing := by
  intro s p tag q turn a t good
  refine ⟨fun role => ?_, fun role => ?_⟩
  · have refused := request_refused s .anchor p tag q (anchorBy q) turn rfl role
    exact ⟨_, congrArg Host.Outcome.next refused, reply_replied s .anchor p tag .notController [] .reply MessageRole.noConfusion⟩
  have directed : s.directed .anchor p tag q := ⟨turn, role⟩
  refine ⟨fun bad => answers_of_directed directed rfl (anchorBy_bad bad),
    fun ok empty => answers_of_directed directed rfl (anchorBy_empty ok empty),
    fun e es ok ring early => answers_of_directed directed rfl (anchorBy_early ok ring early), fun e es ok ring taken => ?_⟩
  obtain ⟨before, after, split, older, newer⟩ := nearest_split t e es
  rw [ring]
  refine ⟨before, nearest t e es, after, split, older, newer, ?_, correction_inTurn _ _, Angles.correct_correction ok.2 _,
    answers_of_directed directed rfl (anchorBy_taken ok ring taken)⟩
  rw [split]
  exact newest_of_all_before newer

/-! ### Axis maps (R58, R215) -/

theorem parseAxisName_iff (b : Byte) (n : AxisName) : parseAxisName b = some n ↔ b = BitVec.ofNat 8 n.ctorIdx := by
  constructor
  · intro parsed
    unfold parseAxisName at parsed
    split_ifs at parsed with hx hy hz
    · cases parsed
      exact BitVec.eq_of_toNat_eq hx
    · cases parsed
      exact BitVec.eq_of_toNat_eq hy
    · cases parsed
      exact BitVec.eq_of_toNat_eq hz
  · rintro rfl
    cases n <;> rfl

theorem parseBool_iff (b : Byte) (m : Bool) : parseBool b = some m ↔ b = if m then 1 else 0 := by
  constructor
  · intro parsed
    unfold parseBool at parsed
    split_ifs at parsed with clear set
    · cases parsed
      exact BitVec.eq_of_toNat_eq clear
    · cases parsed
      exact BitVec.eq_of_toNat_eq set
  · rintro rfl
    cases m <;> rfl

theorem parseAxisEntry_iff (q : List Byte) (off : Nat) (e : AxisEntry) : parseAxisEntry q off = some e ↔
    byteAt q off = BitVec.ofNat 8 e.source.ctorIdx ∧ byteAt q (off + 1) = if e.minus then 1 else 0 := by
  rw [← parseAxisName_iff, ← parseBool_iff]
  unfold parseAxisEntry
  obtain ⟨source, minus⟩ := e
  cases parseAxisName (byteAt q off) <;> cases parseBool (byteAt q (off + 1)) <;> simp

theorem AxisMap.ok_iff (m : AxisMap) : m.ok = true ↔
    m.yaw.source ≠ m.pitch.source ∧ m.yaw.source ≠ m.roll.source ∧ m.pitch.source ≠ m.roll.source := by
  simp only [AxisMap.ok, Bool.and_eq_true, bne_iff_ne, and_assoc]

theorem AxisMap.bytes_eq (m : AxisMap) : m.bytes =
    [BitVec.ofNat 8 m.yaw.source.ctorIdx, if m.yaw.minus then 1 else 0, BitVec.ofNat 8 m.pitch.source.ctorIdx,
      if m.pitch.minus then 1 else 0, BitVec.ofNat 8 m.roll.source.ctorIdx, if m.roll.minus then 1 else 0] := by
  have sign (b : Bool) : boolByte b = [if b then 1 else 0] := by cases b <;> rfl
  simp only [AxisMap.bytes, codeByte, sign]
  rfl

theorem eq_bytes_iff (q : List Byte) (m : AxisMap) : q = m.bytes ↔ q.length = 6 ∧
    parseAxisEntry q 0 = some m.yaw ∧ parseAxisEntry q 2 = some m.pitch ∧ parseAxisEntry q 4 = some m.roll := by
  simp only [parseAxisEntry_iff, AxisMap.bytes_eq]
  constructor
  · rintro rfl
    exact ⟨rfl, ⟨rfl, rfl⟩, ⟨rfl, rfl⟩, rfl, rfl⟩
  · rintro ⟨len, ⟨y, ys⟩, ⟨p, ps⟩, r, rs⟩
    match q, len with
    | [_, _, _, _, _, _], _ => rw [← y, ← ys, ← p, ← ps, ← r, ← rs]; rfl

/-- R58: the payloads that are taken are those of the maps of three different axes. -/
theorem parseAxisMap_iff (q : List Byte) (m : AxisMap) : parseAxisMap q = some m ↔ q = m.bytes ∧ m.ok = true := by
  rw [eq_bytes_iff]
  unfold parseAxisMap
  constructor
  · split
    next y p r hy hp hr =>
      split
      next good =>
        rintro ⟨⟩
        exact ⟨⟨good.1, hy, hp, hr⟩, good.2⟩
      · rintro ⟨⟩
    · rintro ⟨⟩
  · rintro ⟨⟨len, hy, hp, hr⟩, ok⟩
    rw [hy, hp, hr]
    exact if_pos ⟨len, ok⟩

/-! ### SET_AXIS_MAP, SELECT_PRIMARY and the override (R58, R62, R66) -/

section
variable {s : State} {q : List Byte}

/-- R58: the map taken, before POSE_STALE is raised. -/
def State.mapped (s : State) (m : AxisMap) : State := s.modOin fun o =>
  { o with axisMap := m, ring := [], residues := .zero, lastTime := none, rates := .zero }

theorem mapAxes_good {m : AxisMap} (h : m.ok = true) : mapAxes m.bytes s = .ok ((s.mapped m).raise .poseStale) [] := by
  rw [mapAxes, (parseAxisMap_iff _ m).2 ⟨rfl, h⟩]
  rfl

theorem mapAxes_bad (h : ∀ m : AxisMap, m.ok = true → q ≠ m.bytes) : mapAxes q s = .plain s .badArgument := by
  have refused : parseAxisMap q = none := by
    rw [Option.eq_none_iff_forall_ne_some]
    intro m parsed
    obtain ⟨bytes, ok⟩ := (parseAxisMap_iff q m).1 parsed
    exact h m ok bytes
  rw [mapAxes, refused]

theorem parseSensor_code (x : Sensor) : parseSensor [if x = .a then 0 else 1] = some x := by cases x <;> rfl

theorem parseSensor_bad (ha : q ≠ [0]) (hb : q ≠ [1]) : parseSensor q = none := by
  unfold parseSensor
  split
  next len =>
    match q, len with
    | [b], _ =>
      have value : natAt [b] 0 1 = b.toNat := by simp [natAt, slice, leNat]
      rw [value, if_neg fun zero => ha ?_, if_neg fun one => hb ?_]
      · exact congrArg ([·]) (BitVec.eq_of_toNat_eq one)
      · exact congrArg ([·]) (BitVec.eq_of_toNat_eq zero)
  · rfl

theorem imuRunning_iff (x : Sensor) : s.imuRunning x = true ↔ (s.msu.imu x).state = .running := beq_iff_eq

variable {x : Sensor}

theorem select_idle (h : parseSensor q = some x) (hx : (s.msu.imu x).state ≠ .running) :
    select q s = .plain s .wrongState := by
  simp only [select, h, Bool.eq_false_iff.2 (mt (imuRunning_iff x).1 hx), Bool.not_false, if_true]

theorem select_same (h : parseSensor q = some x) (hx : (s.msu.imu x).state = .running) (hp : x = s.oin.primary) :
    select q s = .ok (s.modOin fun o => { o with failoverPending := false }) [] := by
  simp only [select, h, (imuRunning_iff x).2 hx, Bool.not_true, if_neg Bool.false_ne_true, if_pos hp.symm]

/-- R62: the binding to a RUNNING IMU that is not the primary, and its silence watch. -/
theorem select_other (h : parseSensor q = some x) (hx : (s.msu.imu x).state = .running) (hp : x ≠ s.oin.primary) :
    select q s = .ok { s with oin := { s.oin with
      primary := x, residues := ⟨0, 0, 0⟩, lastTime := none, failoverPending := false, satRun := 0
      silenceAt := some (s.lt + 20000) } } [] := by
  have running := (imuRunning_iff x).2 hx
  simp only [select, h, running, Bool.not_true, if_neg Bool.false_ne_true, if_neg hp.symm, State.bind, if_true]
  rfl

/-- R66: the payload of an override that is taken. -/
def PoseInRange (q : List Byte) : Prop := q.length = 12 ∧ (anglesAt q 0).inTurn

theorem setPose_good (h : PoseInRange q) :
    setPose q s = .ok (s.modOin fun o => { o with pose := some (anglesAt q 0) }) [] := by
  have taken : parsePose q = some (anglesAt q 0) := if_pos ⟨h.1, (Angles.ok_iff _).2 h.2⟩
  rw [setPose, taken]

theorem setPose_bad (h : ¬ PoseInRange q) : setPose q s = .plain s .badArgument := by
  have refused : parsePose q = none := if_neg fun ⟨len, ok⟩ => h ⟨len, (Angles.ok_iff _).1 ok⟩
  rw [setPose, refused]

end

/-- R58, R63: SET_AXIS_MAP raises POSE_STALE for its empty ring before its reply. -/
theorem answers_mapped {s : State} {p : Port} {tag : Byte} {m : AxisMap} (h : s.directed .setAxisMap p tag m.bytes)
    (ok : m.ok = true) : AnswersWithNotices (.setAxisMap p tag m.bytes) s (s.mapped m) .setAxisMap p tag .ok []
      (s.ntu.pending.put .poseStale) :=
  ⟨(s.mapped m).raise .poseStale, _, exec_of_directed h rfl (mapAxes_good ok), sbn_raise _ _, raise_pending _ _,
    reply_replied _ _ _ _ _ _ _ MessageRole.noConfusion⟩

/-- Settles O43: each request by what its payload decodes to. -/
theorem orientationSettingsAreTaken : Obligations.OrientationSettingsAreTaken := by
  intro s p tag q
  refine ⟨fun h => ⟨fun m yp yr pr bytes => ?_, fun bad => ?_⟩, fun h => ⟨fun x bytes => ?_, fun ha hb => ?_⟩,
    fun h => ⟨fun good => answers_of_directed h rfl (setPose_good good), fun bad => answers_of_directed h rfl (setPose_bad bad)⟩,
    fun h => answers_of_directed h rfl rfl⟩
  · subst bytes
    exact answers_mapped h (m.ok_iff.2 ⟨yp, yr, pr⟩)
  · refine answers_of_directed h rfl (mapAxes_bad fun m ok => ?_)
    obtain ⟨yp, yr, pr⟩ := m.ok_iff.1 ok
    exact bad m yp yr pr
  · have parsed : parseSensor q = some x := by rw [bytes, parseSensor_code]
    exact ⟨fun idle => answers_of_directed h rfl (select_idle parsed idle),
      fun running same => answers_of_directed h rfl (select_same parsed running same),
      fun running moved => answers_of_directed h rfl (select_other parsed running moved)⟩
  · exact answers_of_directed h rfl (by rw [select, parseSensor_bad ha hb]; rfl)

end Sys2Proof.Machine
end

section
/-!
The four slots (R74): what the operations on them do, said once each, and which of them keep the order of the frame numbers and the
canonical form of frame memory.
-/

namespace Sys2Proof.Machine

/-! ### States and their counts -/

section
variable {q : Slots} {x : SlotState}

theorem Slots.count_eq_zero : q.count x = 0 ↔ ∀ t ∈ q.toList, t.state ≠ x := by
  simp only [Slots.count, List.countP_eq_zero, beq_iff_eq]

theorem Slots.count_pos : 0 < q.count x ↔ ∃ t ∈ q.toList, t.state = x := by
  simp only [Slots.count, List.countP_pos_iff, beq_iff_eq]

/-- R74: of a state that at most one slot is in, there is one slot. -/
theorem Slots.eq_of_count_le_one (h : q.count x ≤ 1) {t u : Slot} (ht : t ∈ q.toList) (hu : u ∈ q.toList) (hx : t.state = x)
    (hy : u.state = x) : t = u := by
  have one : q.count x = 1 := Nat.le_antisymm h (count_pos.2 ⟨t, ht, hx⟩)
  exact Option.some.inj ((find_of_count_one one ht hx).symm.trans (find_of_count_one one hu hy))

theorem Slots.find_of_count_one {t : Slot} (h : q.count x = 1) (ht : t ∈ q.toList) (hx : t.state = x) : q.find x = some t :=
  Machine.find_of_count_one h ht hx

theorem Slots.find_some {t : Slot} (h : q.find x = some t) : t ∈ q.toList ∧ t.state = x :=
  ⟨List.mem_of_find?_eq_some h, beq_iff_eq.1 (List.find?_some (p := fun t : Slot => t.state == x) h)⟩

theorem Slots.find_eq_none : q.find x = none ↔ q.count x = 0 := by
  simp only [Slots.find, List.find?_eq_none, Slots.count_eq_zero, beq_iff_eq, ne_eq]

end

/-! ### Slots changed one by one -/

section
variable (q : Slots) (f : Slot → Slot) (x : SlotState)

@[simp] theorem Slots.toList_map : (q.map f).toList = q.toList.map f := rfl

theorem Slots.mem_map {u : Slot} : u ∈ (q.map f).toList ↔ ∃ t ∈ q.toList, f t = u := by rw [Slots.toList_map, List.mem_map]

theorem Slots.count_map : (q.map f).count x = q.toList.countP fun t => (f t).state == x := by
  rw [Slots.count, Slots.toList_map, List.countP_map]
  rfl

/-- A state that no slot enters or leaves keeps its count. -/
theorem Slots.count_map_same (h : ∀ t ∈ q.toList, (f t).state = x ↔ t.state = x) : (q.map f).count x = q.count x := by
  rw [Slots.count_map]
  exact List.countP_congr fun t ht => by rw [beq_iff_eq, beq_iff_eq, h t ht]

theorem Slots.count_map_le (h : ∀ t, (f t).state = x → t.state = x) : (q.map f).count x ≤ q.count x := by
  rw [Slots.count_map]
  exact List.countP_mono_left fun t _ => by rw [beq_iff_eq, beq_iff_eq]; exact h t

theorem Slots.mem_change {u : Slot} : u ∈ (q.change x f).toList ↔ ∃ t ∈ q.toList, (if t.state = x then f t else t) = u :=
  q.mem_map _

/-- A slot in another state stays. -/
theorem Slots.mem_change_of_ne {t : Slot} (ht : t ∈ q.toList) (h : t.state ≠ x) : t ∈ (q.change x f).toList :=
  (q.mem_change f x).2 ⟨t, ht, if_neg h⟩

theorem Slots.mem_change_of_eq {t : Slot} (ht : t ∈ q.toList) (h : t.state = x) : f t ∈ (q.change x f).toList :=
  (q.mem_change f x).2 ⟨t, ht, if_pos h⟩

/-- Slots that leave a state for another leave the count of a third. -/
theorem Slots.count_change_other {y : SlotState} (hx : y ≠ x) (hf : ∀ t ∈ q.toList, t.state = x → (f t).state ≠ y) :
    (q.change x f).count y = q.count y := by
  refine q.count_map_same _ y fun t ht => ?_
  split
  next e => exact iff_of_false (hf t ht e) (e ▸ hx.symm)
  · rfl

/-- A change that leaves the state of a slot leaves every count. -/
theorem Slots.count_change_same {y : SlotState} (hf : ∀ t ∈ q.toList, (f t).state = t.state) :
    (q.change x f).count y = q.count y := by
  refine q.count_map_same _ y fun t ht => ?_
  split
  · rw [hf t ht]
  · rfl

/-- Slots that leave a state leave none in it. -/
theorem Slots.count_change_left (hf : ∀ t ∈ q.toList, t.state = x → (f t).state ≠ x) : (q.change x f).count x = 0 := by
  refine Slots.count_eq_zero.2 fun u hu => ?_
  obtain ⟨t, ht, rfl⟩ := (q.mem_change f x).1 hu
  split
  next e => exact hf t ht e
  next e => exact e

end

/-! ### The slot that begins to fill (R76) -/

/-- R76: the new slot stands in the place of a FREE one, and every other slot stays. -/
theorem Slots.fillLowest_split {q : Slots} (h : q.count .free ≠ 0) (t : Slot) : ∃ before x after,
    q.toList = before ++ x :: after ∧ x.state = .free ∧ (q.fillLowest t).toList = before ++ t :: after := by
  unfold Slots.fillLowest
  split_ifs with h0 h1 h2 h3
  · exact ⟨[], q.s0, [q.s1, q.s2, q.s3], rfl, h0, rfl⟩
  · exact ⟨[q.s0], q.s1, [q.s2, q.s3], rfl, h1, rfl⟩
  · exact ⟨[q.s0, q.s1], q.s2, [q.s3], rfl, h2, rfl⟩
  · exact ⟨[q.s0, q.s1, q.s2], q.s3, [], rfl, h3, rfl⟩
  · refine absurd (Slots.count_eq_zero.2 ?_) h
    simp [Slots.toList, h0, h1, h2, h3]

section
variable {q : Slots} (h : q.count .free ≠ 0) (t : Slot)
include h

theorem Slots.mem_fillLowest_new : t ∈ (q.fillLowest t).toList := by
  obtain ⟨before, _, after, _, _, filled⟩ := q.fillLowest_split h t
  rw [filled]
  exact List.mem_append_right _ List.mem_cons_self

theorem Slots.mem_fillLowest_old {u : Slot} (hu : u ∈ q.toList) (used : u.state ≠ .free) : u ∈ (q.fillLowest t).toList := by
  obtain ⟨before, x, after, split, free, filled⟩ := q.fillLowest_split h t
  have away : u ≠ x := by rintro rfl; exact used free
  rw [split] at hu
  rw [filled]
  simpa [away, or_left_comm] using Or.inr (a := u = t) (by simpa [away] using hu)

theorem Slots.of_mem_fillLowest {u : Slot} (hu : u ∈ (q.fillLowest t).toList) : u = t ∨ u ∈ q.toList := by
  obtain ⟨before, x, after, split, _, filled⟩ := q.fillLowest_split h t
  rw [filled] at hu
  rw [split]
  simp only [List.mem_append, List.mem_cons] at hu ⊢
  tauto

/-- The new slot counts in its own state, and the FREE one that it takes in no other. -/
theorem Slots.count_fillLowest {x : SlotState} (hx : x ≠ .free) :
    (q.fillLowest t).count x = q.count x + if t.state = x then 1 else 0 := by
  obtain ⟨before, y, after, split, free, filled⟩ := q.fillLowest_split h t
  simp only [Slots.count, split, filled, List.countP_append, List.countP_cons, free, beq_iff_eq, if_neg hx.symm]
  omega

end

/-! ### Selection (R85) -/

/-- The slots with their numbers. -/
def Slots.numbered (q : Slots) : List (Nat × Slot) := [(0, q.s0), (1, q.s1), (2, q.s2), (3, q.s3)]

theorem Slots.newestReady_eq (q : Slots) : q.newestReady = (q.numbered.foldl better none).map (·.1) := rfl

theorem Slots.toList_eq_numbered (q : Slots) : q.toList = q.numbered.map (·.2) := rfl

theorem Slots.exists_number {q : Slots} {t : Slot} (h : t ∈ q.toList) : ∃ k, (k, t) ∈ q.numbered := by
  rw [q.toList_eq_numbered] at h
  obtain ⟨⟨k, u⟩, hc, rfl⟩ := List.mem_map.1 h
  exact ⟨k, hc⟩

theorem Slots.mem_of_number {q : Slots} {k : Nat} {t : Slot} (h : (k, t) ∈ q.numbered) : t ∈ q.toList := by
  rw [q.toList_eq_numbered]
  exact List.mem_map.2 ⟨_, h, rfl⟩

/-- A number belongs to one slot. -/
theorem Slots.number_inj {q : Slots} {k : Nat} {t u : Slot} (h : (k, t) ∈ q.numbered) (g : (k, u) ∈ q.numbered) : t = u := by
  simp only [Slots.numbered, List.mem_cons, Prod.mk.injEq, List.not_mem_nil, or_false] at h g
  rcases h with ⟨rfl, rfl⟩ | ⟨rfl, rfl⟩ | ⟨rfl, rfl⟩ | ⟨rfl, rfl⟩ <;> simpa [eq_comm] using g

theorem Slots.countP_number {q : Slots} {k : Nat} {t : Slot} (h : (k, t) ∈ q.numbered) :
    q.numbered.countP (fun c => decide (c.1 = k)) = 1 := by
  simp only [Slots.numbered, List.mem_cons, Prod.mk.injEq, List.not_mem_nil, or_false] at h
  rcases h with ⟨rfl, _⟩ | ⟨rfl, _⟩ | ⟨rfl, _⟩ | ⟨rfl, _⟩ <;> rfl

/-- R85: a candidate that the fold ends with is READY, or was there before. -/
theorem foldl_better_some {xs : List (Nat × Slot)} {best : Option (Nat × Slot)} {c : Nat × Slot}
    (h : xs.foldl better best = some c) : best = some c ∨ c ∈ xs ∧ c.2.state = .ready := by
  induction xs generalizing best with
  | nil => exact .inl h
  | cons x xs ih =>
    obtain kept | ⟨mem, ready⟩ := ih h
    · unfold better at kept
      split_ifs at kept with hx
      · split at kept
        · exact .inr ⟨Option.some.inj kept ▸ List.mem_cons_self, Option.some.inj kept ▸ hx⟩
        · split_ifs at kept
          · exact .inr ⟨Option.some.inj kept ▸ List.mem_cons_self, Option.some.inj kept ▸ hx⟩
          · exact .inl kept
      · exact .inl kept
    · exact .inr ⟨List.mem_cons_of_mem x mem, ready⟩

theorem better_isSome {best : Option (Nat × Slot)} (c : Nat × Slot) (h : best.isSome ∨ c.2.state = .ready) :
    (better best c).isSome := by
  unfold better
  split_ifs with hc
  · split
    · rfl
    · split_ifs <;> rfl
  · exact h.resolve_right hc

theorem foldl_better_isSome {xs : List (Nat × Slot)} {best : Option (Nat × Slot)}
    (h : best.isSome ∨ ∃ c ∈ xs, c.2.state = .ready) : (xs.foldl better best).isSome := by
  induction xs generalizing best with
  | nil => exact h.resolve_right (by simp)
  | cons x xs ih =>
    refine ih ?_
    obtain some | ⟨c, hc, ready⟩ := h
    · exact .inl (better_isSome x (.inl some))
    · obtain rfl | hc := List.mem_cons.1 hc
      · exact .inl (better_isSome c (.inr ready))
      · exact .inr ⟨c, hc, ready⟩

/-- R85: what is selected is a READY slot. -/
theorem Slots.newestReady_some {q : Slots} {k : Nat} (h : q.newestReady = some k) :
    ∃ t, (k, t) ∈ q.numbered ∧ t.state = .ready := by
  rw [q.newestReady_eq] at h
  obtain ⟨⟨_, t⟩, hc, rfl⟩ := Option.map_eq_some_iff.1 h
  obtain none | ⟨mem, ready⟩ := foldl_better_some hc
  · exact absurd none (by simp)
  · exact ⟨t, mem, ready⟩

/-- R85: with none READY nothing is selected. -/
theorem Slots.newestReady_none {q : Slots} : q.newestReady = none ↔ q.count .ready = 0 := by
  constructor
  · intro none
    refine Slots.count_eq_zero.2 fun t ht ready => ?_
    obtain ⟨k, hk⟩ := Slots.exists_number ht
    have some := foldl_better_isSome (best := .none) (.inr ⟨_, hk, ready⟩)
    rw [q.newestReady_eq, Option.map_eq_none_iff] at none
    rw [none] at some
    exact absurd some (by simp)
  · intro none
    refine Option.eq_none_iff_forall_ne_some.2 fun k h => ?_
    obtain ⟨t, mem, ready⟩ := Slots.newestReady_some h
    exact Slots.count_eq_zero.1 none t (Slots.mem_of_number mem) ready

/-- 4.4: of two frame numbers at most one is greater than the other. -/
theorem frameGreater_asymm {x y : FrameNo} (h : frameGreater x y = true) : frameGreater y x = false := by
  unfold frameGreater at h ⊢
  simp only [Bool.and_eq_true, decide_eq_true_eq, Bool.and_eq_false_iff, decide_eq_false_iff_not] at h ⊢
  bv_omega

/-- R85: a slot whose frame is greater than that of every other READY one is what the fold ends with, once it is met. -/
theorem foldl_better_newest {u : Slot} {xs : List (Nat × Slot)} {best : Option (Nat × Slot)} (hu : u.state = .ready)
    (newest : ∀ c ∈ xs, c.2.state = .ready → c.2 = u ∨ frameGreater u.frame c.2.frame = true)
    (before : ∀ b, best = some b → b.2 = u ∨ frameGreater u.frame b.2.frame = true)
    (met : (∃ b, best = some b ∧ b.2 = u) ∨ ∃ c ∈ xs, c.2 = u) : ∃ k, xs.foldl better best = some (k, u) := by
  induction xs generalizing best with
  | nil =>
    obtain ⟨⟨k, _⟩, hb, rfl⟩ := met.resolve_right (by simp)
    exact ⟨k, hb⟩
  | cons x xs ih =>
    have later := fun c hc => newest c (List.mem_cons_of_mem x hc)
    have step : (∀ b, better best x = some b → b.2 = u ∨ frameGreater u.frame b.2.frame = true) ∧
        ((∃ b, best = some b ∧ b.2 = u) ∨ x.2 = u → ∃ b, better best x = some b ∧ b.2 = u) := by
      unfold better
      split_ifs with hx
      · have new := newest x List.mem_cons_self hx
        split
        next => exact ⟨fun b hb => Option.some.inj hb ▸ new, fun m => ⟨x, rfl, m.resolve_left (by simp)⟩⟩
        next b =>
          have old := before b rfl
          split_ifs with greater
          · refine ⟨fun b hb => Option.some.inj hb ▸ new, fun m => ⟨x, rfl, ?_⟩⟩
            obtain ⟨_, ⟨⟩, rfl⟩ | rfl := m
            · exact new.resolve_right (by rw [frameGreater_asymm greater]; simp)
            · rfl
          · refine ⟨fun b hb => Option.some.inj hb ▸ old, fun m => ⟨b, rfl, ?_⟩⟩
            obtain ⟨_, ⟨⟩, rfl⟩ | rfl := m
            · rfl
            · exact old.resolve_right greater
      · refine ⟨before, fun m => m.resolve_right ?_⟩
        rintro rfl
        exact hx hu
    obtain ⟨after, taken⟩ := step
    refine ih later after ?_
    obtain m | ⟨c, hc, rfl⟩ := met
    · exact .inl (taken (.inl m))
    · obtain rfl | hc := List.mem_cons.1 hc
      · exact .inl (taken (.inr rfl))
      · exact .inr ⟨c, hc, rfl⟩

/-- R85: the READY slot accepted last is selected. -/
theorem Slots.newestReady_newest {q : Slots} {u : Slot} (hu : u ∈ q.toList) (ready : u.state = .ready)
    (newest : ∀ v ∈ q.toList, v.state = .ready → v = u ∨ frameGreater u.frame v.frame = true) :
    ∃ k, q.newestReady = some k ∧ (k, u) ∈ q.numbered := by
  obtain ⟨j, hj⟩ := Slots.exists_number hu
  obtain ⟨k, hk⟩ := foldl_better_newest (best := none) ready (fun c hc => newest c.2 (Slots.mem_of_number hc)) (by simp)
    (.inr ⟨_, hj, rfl⟩)
  refine ⟨k, by rw [q.newestReady_eq, hk]; rfl, ?_⟩
  obtain none | ⟨mem, _⟩ := foldl_better_some hk
  · exact absurd none (by simp)
  · exact mem

/-- R85: what becomes of slot `i` when slot `k` is selected. -/
def Slot.afterSelection (k i : Nat) (t : Slot) : Slot :=
  if i = k then { t with state := .showing, repeats := 0 }
  else if t.state = .ready ∨ t.state = .showing then .empty
  else t

theorem Slots.toList_selected (q : Slots) (k : Nat) :
    (q.selected k).toList = q.numbered.map fun c => c.2.afterSelection k c.1 := rfl

section
variable {q : Slots} {k : Nat} {u : Slot} (hk : (k, u) ∈ q.numbered)

/-- R85: after the selection the slots are the selected one, SHOWING, the FILLING one, and FREE ones. -/
theorem Slot.afterSelection_cases (i : Nat) (t : Slot) :
    (i = k ∧ t.afterSelection k i = { t with state := .showing, repeats := 0 }) ∨
      (i ≠ k ∧ (t.afterSelection k i).state = .free) ∨
      (i ≠ k ∧ t.state = .filling ∧ t.afterSelection k i = t) := by
  unfold Slot.afterSelection
  split_ifs with h g
  · exact .inl ⟨h, rfl⟩
  · exact .inr (.inl ⟨h, rfl⟩)
  · rcases e : t.state with _ | _ | _ | _
    · exact .inr (.inl ⟨h, rfl⟩)
    · exact .inr (.inr ⟨h, rfl, rfl⟩)
    · exact absurd (.inl e) g
    · exact absurd (.inr e) g

include hk

theorem Slots.mem_selected_showing : { u with state := .showing, repeats := 0 } ∈ (q.selected k).toList := by
  rw [q.toList_selected]
  exact List.mem_map.2 ⟨_, hk, if_pos rfl⟩

/-- R74, R85: what the slots of a selection are. -/
theorem Slots.of_mem_selected {v : Slot} (hv : v ∈ (q.selected k).toList) :
    v = { u with state := .showing, repeats := 0 } ∨ v.state = .free ∨ v.state = .filling ∧ v ∈ q.toList := by
  rw [q.toList_selected] at hv
  obtain ⟨⟨i, t⟩, ht, rfl⟩ := List.mem_map.1 hv
  obtain ⟨rfl, e⟩ | ⟨_, free⟩ | ⟨_, filling, e⟩ := Slot.afterSelection_cases (k := k) i t
  · exact .inl (by rw [e, Slots.number_inj ht hk])
  · exact .inr (.inl free)
  · exact .inr (.inr ⟨by rw [e]; exact filling, by rw [e]; exact Slots.mem_of_number ht⟩)

theorem Slots.count_selected_ready : (q.selected k).count .ready = 0 :=
  Slots.count_eq_zero.2 fun v hv => by
    obtain rfl | free | ⟨filling, _⟩ := Slots.of_mem_selected hk hv
    · exact SlotState.noConfusion
    · rw [free]; exact SlotState.noConfusion
    · rw [filling]; exact SlotState.noConfusion

theorem Slots.count_selected_showing : (q.selected k).count .showing = 1 := by
  rw [← Slots.countP_number hk, Slots.count, q.toList_selected, List.countP_map]
  refine List.countP_congr fun ⟨i, t⟩ _ => ?_
  simp only [Function.comp_apply, beq_iff_eq, decide_eq_true_eq]
  obtain ⟨rfl, e⟩ | ⟨ne, free⟩ | ⟨ne, filling, e⟩ := Slot.afterSelection_cases (k := k) i t
  · exact iff_of_true (by rw [e]) rfl
  · exact iff_of_false (by rw [free]; exact SlotState.noConfusion) ne
  · exact iff_of_false (by rw [e, filling]; exact SlotState.noConfusion) ne

theorem Slots.count_selected_filling (ready : u.state = .ready) : (q.selected k).count .filling = q.count .filling := by
  rw [Slots.count, Slots.count, q.toList_selected, q.toList_eq_numbered, List.countP_map, List.countP_map]
  refine List.countP_congr fun ⟨i, t⟩ ht => ?_
  simp only [Function.comp_apply, beq_iff_eq]
  by_cases e : i = k
  · subst e
    rw [Slots.number_inj ht hk, ready, Slot.afterSelection, if_pos rfl]
    exact iff_of_false SlotState.noConfusion SlotState.noConfusion
  · rw [Slot.afterSelection, if_neg e]
    split_ifs with g
    · exact iff_of_false SlotState.noConfusion (by rcases g with g | g <;> rw [g] <;> exact SlotState.noConfusion)
    · rfl

end

/-! ### The rows of an eye (R77) -/

theorem rowOf_cons (m r : Nat) (px : List Byte) (e : EyeRows) : rowOf ((m, px) :: e) r = if m = r then some px else rowOf e r := by
  unfold rowOf
  rw [List.find?_cons]
  by_cases h : m = r
  · rw [if_pos h, h, beq_self_eq_true]
    rfl
  · rw [if_neg h, beq_false_of_ne h]

/-- R77: a row reads back as it was written last, and every other row as before. -/
theorem rowOf_insertRow (n : Nat) (px : List Byte) (e : EyeRows) (r : Nat) :
    rowOf (insertRow n px e) r = if r = n then some px else rowOf e r := by
  induction e with
  | nil => rw [insertRow, rowOf_cons]; exact if_congr eq_comm rfl rfl
  | cons row e ih =>
    obtain ⟨m, old⟩ := row
    unfold insertRow
    split
    · rw [rowOf_cons]
      exact if_congr eq_comm rfl rfl
    · split
      next same =>
        subst same
        rw [rowOf_cons, rowOf_cons]
        by_cases here : r = n
        · rw [if_pos here.symm, if_pos here]
        · rw [if_neg (Ne.symm here), if_neg here, if_neg (Ne.symm here)]
      next other =>
        rw [rowOf_cons, rowOf_cons, ih]
        by_cases here : r = n
        · rw [if_pos here, if_neg (by omega), if_pos here]
        · rw [if_neg here, if_neg here]

/-- R77: consecutive rows written from their pixels. -/
theorem rowOf_insertRows (w first n : Nat) (px : List Byte) (e : EyeRows) (r : Nat) :
    rowOf (insertRows w first n px e) r =
      if first ≤ r ∧ r < first + n then some ((px.drop ((r - first) * w)).take w) else rowOf e r := by
  induction n generalizing first px e with
  | zero => rw [insertRows, if_neg (by omega)]
  | succ n ih =>
    rw [insertRows, ih, rowOf_insertRow]
    obtain before | rfl | later := Nat.lt_trichotomy r first
    · rw [if_neg (by omega), if_neg (by omega), if_neg (by omega)]
    · rw [if_neg (by omega), if_pos rfl, if_pos (by omega), Nat.sub_self, Nat.zero_mul, List.drop_zero]
    · have place : (r - first) * w = w + (r - (first + 1)) * w := by
        rw [show r - first = r - (first + 1) + 1 by omega, Nat.succ_mul, Nat.add_comm]
      rw [if_neg (by omega : r ≠ first), List.drop_drop, place]
      exact if_congr (by omega) rfl rfl

theorem rowsRising_insertRow {e : EyeRows} (h : rowsRising e) (n : Nat) (px : List Byte) : rowsRising (insertRow n px e) := by
  have numbers (e : EyeRows) : ∀ c ∈ insertRow n px e, c.1 = n ∨ c ∈ e := by
    induction e with
    | nil => intro c hc; exact .inl (by rw [List.mem_singleton.1 hc])
    | cons row e ih =>
      intro c hc
      unfold insertRow at hc
      split_ifs at hc with lt eq
      · obtain rfl | hc := List.mem_cons.1 hc
        · exact .inl rfl
        · exact .inr hc
      · obtain rfl | hc := List.mem_cons.1 hc
        · exact .inl rfl
        · exact .inr (List.mem_cons_of_mem _ hc)
      · obtain rfl | hc := List.mem_cons.1 hc
        · exact .inr List.mem_cons_self
        · exact (ih c hc).imp id (List.mem_cons_of_mem _)
  unfold rowsRising at h ⊢
  induction e with
  | nil => exact List.pairwise_singleton _ _
  | cons row e ih =>
    obtain ⟨m, old⟩ := row
    obtain ⟨above, rising⟩ := List.pairwise_cons.1 h
    unfold insertRow
    split_ifs with lt eq
    · refine List.pairwise_cons.2 ⟨fun c hc => ?_, h⟩
      obtain rfl | hc := List.mem_cons.1 hc
      · exact lt
      · exact lt.trans (above c hc)
    · exact List.pairwise_cons.2 ⟨fun c hc => eq ▸ above c hc, rising⟩
    · refine List.pairwise_cons.2 ⟨fun c hc => ?_, ih rising⟩
      obtain new | hc := numbers e c hc
      · rw [new]; dsimp only; omega
      · exact above c hc

theorem rowsRising_insertRows {e : EyeRows} (h : rowsRising e) (w first n : Nat) (px : List Byte) :
    rowsRising (insertRows w first n px e) := by
  induction n generalizing first px e with
  | zero => exact h
  | succ n ih => exact ih (rowsRising_insertRow h first _) _ _

/-! ### What keeps the slots ordered (R74, R75) -/

section
variable {q : Slots} (h : q.ordered)
include h

/-- R74: slots stay ordered where each becomes FREE or keeps its state and its frame number. -/
theorem Slots.ordered_map {f : Slot → Slot} (hf : ∀ t, (f t).state = .free ∨ (f t).state = t.state ∧ (f t).frame = t.frame) :
    (q.map f).ordered := by
  obtain ⟨filling, showing, ready, newest⟩ := h
  have same (t : Slot) (used : (f t).state ≠ .free) : (f t).state = t.state ∧ (f t).frame = t.frame := (hf t).resolve_left used
  have from_ {x : SlotState} (hx : x ≠ .free) (t : Slot) (e : (f t).state = x) : t.state = x :=
    (same t (by rw [e]; exact hx)).1.symm.trans e
  refine ⟨(q.count_map_le f _ (from_ SlotState.noConfusion)).trans filling,
    (q.count_map_le f _ (from_ SlotState.noConfusion)).trans showing, ?_, ?_⟩
  · intro _ ht _ hu htx hux
    obtain ⟨t, mt, rfl⟩ := (q.mem_map f).1 ht
    obtain ⟨u, mu, rfl⟩ := (q.mem_map f).1 hu
    rw [(same t (by rw [htx]; exact SlotState.noConfusion)).2, (same u (by rw [hux]; exact SlotState.noConfusion)).2]
    exact ready t mt u mu (from_ SlotState.noConfusion t htx) (from_ SlotState.noConfusion u hux)
  · intro _ ht _ hu htx hux
    obtain ⟨t, mt, rfl⟩ := (q.mem_map f).1 ht
    obtain ⟨u, mu, rfl⟩ := (q.mem_map f).1 hu
    rw [(same t (by rw [htx]; exact SlotState.noConfusion)).2,
      (same u (by rcases hux with e | e <;> rw [e] <;> exact SlotState.noConfusion)).2]
    exact newest t mt u mu (from_ SlotState.noConfusion t htx)
      (hux.imp (from_ SlotState.noConfusion u) (from_ SlotState.noConfusion u))

/-- R75, R76: a FILLING slot whose frame is greater than those held READY and SHOWING takes a FREE one's place. -/
theorem Slots.ordered_fillLowest (free : q.count .free ≠ 0) (idle : q.count .filling = 0) {t : Slot} (ht : t.state = .filling)
    (greater : ∀ u ∈ q.toList, u.state = .ready ∨ u.state = .showing → frameGreater t.frame u.frame = true) :
    (q.fillLowest t).ordered := by
  obtain ⟨_, showing, ready, _⟩ := h
  have old {u : Slot} {x : SlotState} (hu : u ∈ (q.fillLowest t).toList) (e : u.state = x) (hx : x ≠ .filling) : u ∈ q.toList :=
    (Slots.of_mem_fillLowest free t hu).resolve_left (by rintro rfl; exact hx (e.symm.trans ht))
  refine ⟨?_, ?_, fun v hv u hu hvx hux => ?_, fun v hv u hu hvx hux => ?_⟩
  · rw [Slots.count_fillLowest free t SlotState.noConfusion, idle, if_pos ht]
  · rw [Slots.count_fillLowest free t SlotState.noConfusion, ht, if_neg SlotState.noConfusion]
    exact showing
  · exact ready v (old hv hvx SlotState.noConfusion) u (old hu hux SlotState.noConfusion) hvx hux
  · have new : v = t := (Slots.of_mem_fillLowest free t hv).resolve_right fun mem => Slots.count_eq_zero.1 idle v mem hvx
    rw [new]
    refine greater u ?_ hux
    exact hux.elim (old hu · SlotState.noConfusion) (old hu · SlotState.noConfusion)

/-- R78: the FILLING frame becomes READY; it was greater than the SHOWING one. -/
theorem Slots.ordered_completed : (q.change .filling fun t => { t with state := .ready }).ordered := by
  obtain ⟨_, showing, ready, newest⟩ := h
  have none := q.count_change_left (fun t => { t with state := .ready }) .filling fun _ _ _ => SlotState.noConfusion
  refine ⟨none.le.trans (Nat.zero_le 1), ?_, fun _ ht _ hu htx hux => ?_, fun t ht _ _ filling => ?_⟩
  · rw [q.count_change_other _ _ SlotState.noConfusion fun _ _ _ => SlotState.noConfusion]
    exact showing
  · obtain ⟨t, mt, rfl⟩ := (q.mem_change _ _).1 ht
    obtain ⟨u, mu, rfl⟩ := (q.mem_change _ _).1 hu
    split at hux
    · exact absurd hux SlotState.noConfusion
    next away =>
      rw [if_neg away]
      split
      next e => exact newest t mt u mu e (.inr hux)
      next e =>
        rw [if_neg e] at htx
        exact ready t mt u mu htx hux
  · exact absurd filling (Slots.count_eq_zero.1 none t ht)

/-- R85: the FILLING frame stays greater than the one selected. -/
theorem Slots.ordered_selected {k : Nat} {u : Slot} (hk : (k, u) ∈ q.numbered) (hu : u.state = .ready) : (q.selected k).ordered := by
  obtain ⟨filling, _, _, newest⟩ := h
  refine ⟨by rw [Slots.count_selected_filling hk hu]; exact filling, (Slots.count_selected_showing hk).le, fun v hv _ _ ready => ?_,
    fun v hv w hw hvx hwx => ?_⟩
  · exact absurd ready (Slots.count_eq_zero.1 (Slots.count_selected_ready hk) v hv)
  · obtain ⟨_, old⟩ : v.state = .filling ∧ v ∈ q.toList := by
      obtain rfl | free | fills := Slots.of_mem_selected hk hv
      · exact absurd hvx SlotState.noConfusion
      · exact absurd (free.symm.trans hvx) SlotState.noConfusion
      · exact fills
    have shown : w = { u with state := .showing, repeats := 0 } := by
      refine (Slots.of_mem_selected hk hw).resolve_right ?_
      rintro (e | ⟨e, _⟩) <;> rw [e] at hwx <;> simp at hwx
    rw [shown]
    exact newest v old u (Slots.mem_of_number hk) hvx (.inl hu)

end

/-! ### What keeps frame memory canonical -/

/-- The rows of both eyes in rising order. -/
def Slot.rising (t : Slot) : Prop := rowsRising t.left ∧ rowsRising t.right

theorem Slot.empty_rising : Slot.empty.rising := ⟨List.Pairwise.nil, List.Pairwise.nil⟩

/-- Rows are written in their places. -/
theorem Slot.write_rising {t : Slot} (h : t.rising) (b : LinesBlock) (columns : Nat) : (b.write columns t).rising := by
  unfold LinesBlock.write
  split
  · exact ⟨rowsRising_insertRows h.1 _ _ _ _, h.2⟩
  · exact ⟨h.1, rowsRising_insertRows h.2 _ _ _ _⟩

section
variable {q : Slots} (h : q.canonical)
include h

theorem Slots.canonical_map {f : Slot → Slot} (hf : ∀ t : Slot, t.rising → (f t).rising) : (q.map f).canonical := by
  intro _ ht
  obtain ⟨t, mem, rfl⟩ := (q.mem_map f).1 ht
  exact hf t (h t mem)

theorem Slots.canonical_fillLowest (free : q.count .free ≠ 0) {t : Slot} (ht : t.rising) : (q.fillLowest t).canonical := by
  intro u hu
  obtain rfl | old := Slots.of_mem_fillLowest free t hu
  · exact ht
  · exact h u old

theorem Slots.canonical_selected (k : Nat) : (q.selected k).canonical := by
  intro v hv
  rw [q.toList_selected] at hv
  obtain ⟨⟨i, t⟩, ht, rfl⟩ := List.mem_map.1 hv
  have rising : t.rising := h t (Slots.mem_of_number ht)
  unfold Slot.afterSelection
  dsimp only
  split_ifs
  · exact rising
  · exact Slot.empty_rising
  · exact rising

end

end Sys2Proof.Machine
end

section
/-!
The operations that leave the frame store as it is, in the order of the model's files: it is told of blocks from the link, of blank
starts, of SET_PROFILE and of the link leaving ACTIVE (R75 to R88), and every other operation is one of other blocks. Those of the
readers of a rail, a shed level or the link state are `ReaderStep`s.
-/

namespace Sys2Proof.Machine

theorem foldl_fst {α : Type} {f : State → α → State} (h : ∀ s a, (f s a).fst = s.fst) (xs : List α) (s : State) :
    (xs.foldl f s).fst = s.fst := by
  induction xs generalizing s with
  | nil => rfl
  | cons x xs ih => exact (ih _).trans (h s x)

section
variable (s : State)

/-! ### Messages and notices (R183 to R203) -/

@[simp] theorem reply_fst (k : Byte) (p : Port) (tag : Byte) (x : Status) (v : List Byte) (r : MessageRole) :
    (s.reply k p tag x v r).fst = s.fst := State.place_fst _ _ _ _

theorem roleTaken_fst : s.roleTaken.fst = s.fst := by
  unfold State.roleTaken
  dsimp only
  split <;> simp

theorem arrive_fst (p : Port) (b : List Byte) : (s.arrive p b).fst = s.fst := by
  unfold State.arrive
  split <;> simp

theorem hunt_fst (late : Bool) (n : Nat) (rx : List Byte) : (s.hunt late n rx).fst = s.fst := by
  induction n generalizing s rx with
  | zero => rfl
  | succ n ih =>
    cases rx with
    | nil => rfl
    | cons b bs =>
      unfold State.hunt
      split
      · exact ih s bs
      · split
        · exact (ih _ _).trans (arrive_fst _ _ _)
        · exact ih _ _
        · split
          · exact ih _ _
          · rfl

theorem timeOutBytes_fst : s.timeOutBytes.fst = s.fst := by
  unfold State.timeOutBytes
  split
  · exact hunt_fst s _ _ _
  · rfl

theorem holdoffExpires_fst : s.holdoffExpires.fst = s.fst := by
  unfold State.holdoffExpires
  dsimp only
  split <;> simp

/-! ### The runner (R169 to R182) -/

@[simp] theorem endProc_fst (r : ProcResult) (v : List ProcValue) : (s.endProc r v).fst = s.fst :=
  (ReaderStep.endProc s r v).fst

theorem startCheck_fst (a : StartArgs) : (s.startCheck a).fst = s.fst := by
  have held (t : Targets) (tick : Nat) : (s.hold t tick).fst = s.fst := by
    unfold State.hold
    exact foldl_fst (by exact fun _ _ => rfl) _ s
  unfold State.startCheck
  cases a <;> dsimp only <;> split <;> simp [held]

theorem stopWork_fst (w : Work) : (s.stopWork w).fst = s.fst := by
  cases w with
  | sync t _ =>
    unfold State.stopWork State.unhold
    exact foldl_fst (by exact fun _ _ => rfl) _ s
  | biasCal | cable | store => rfl

theorem cableStep_fst (m : Measurement) : (s.cableStep m).fst = s.fst := by
  unfold State.cableStep State.cableEnd
  dsimp only
  repeat' split
  all_goals simp [State.load, State.work]

theorem judgeBias_fst (t : Targets) (n : Nat) (a b : Collection) : (s.judgeBias t n a b).fst = s.fst := by
  have written : ∀ (u : State) (x : Sensor), (u.writeBias x (collectionOf a b x)).fst = u.fst := fun u x => rfl
  unfold State.judgeBias
  dsimp only
  repeat' split
  all_goals simp [foldl_fst written]

/-! ### Motion, wear and scan-out (R15, R42 to R47, R82) -/

@[simp] theorem reformSync_fst (n : Nat) : (s.reformSync n).fst = s.fst := (ReaderStep.reformSync s n).fst

@[simp] theorem judgeDark_fst : s.judgeDark.fst = s.fst := (ReaderStep.judgeDark s).fst

theorem wake_fst : s.wake.fst = s.fst := by rw [State.wake, scanStart_rest, startImus_rest]; rfl

theorem wearWakes_fst (w : Wear) : (s.wearWakes w).fst = s.fst := by
  unfold State.wearWakes
  split
  · exact wake_fst _
  · rfl

/-! ### Sound (R126 to R142) -/

@[simp] theorem stopCapture_fst : s.stopCapture.fst = s.fst := (ReaderStep.stopCapture s).fst

@[simp] theorem appendFrames_fst (f : List Stereo) : (s.appendFrames f).fst = s.fst := by
  unfold State.appendFrames
  dsimp only
  split <;> simp

theorem takeSound_fst (b : Option (Seq × List Stereo)) : (s.takeSound b).fst = s.fst := by
  unfold State.takeSound
  repeat' split
  all_goals simp

@[simp] theorem adjusted_fst (d : Adjust) : (s.adjusted d).fst = s.fst := by
  unfold State.adjusted
  cases d <;> dsimp only <;> split <;> simp

@[simp] theorem playInstant_fst : s.playInstant.fst = s.fst := by
  unfold State.playInstant State.underrun
  repeat' split
  all_goals simp

theorem playback_fst : s.playback.fst = s.fst := by
  unfold State.playback State.tryPlay
  repeat' split
  all_goals simp

@[simp] theorem cutIf_fst (x : Transmission) : (s.cutIf x).fst = s.fst := (ReaderStep.cutIf s x).fst

@[simp] theorem enqueueCapture_fst (b : CaptureBlock) : (s.enqueueCapture b).fst = s.fst := by
  unfold State.enqueueCapture
  repeat' split
  all_goals simp

@[simp] theorem gate_fst (b : CaptureBlock) : (s.gate b).fst = s.fst := by
  unfold State.gate State.queueBlock State.gateBlock
  dsimp only
  repeat' split
  all_goals simp

theorem capture_fst (m1 m2 : Int) : (s.capture m1 m2).fst = s.fst := by
  unfold State.capture State.completeBlock
  dsimp only
  repeat' split
  all_goals simp

@[simp] theorem takeCapture_fst (c : CaptureArgs) : (s.takeCapture c).fst = s.fst := by
  unfold State.takeCapture State.setGate
  dsimp only
  repeat' split
  all_goals simp

/-! ### Power (R146 to R162) -/

@[simp] theorem changeLevel_fst (l : Level) : (s.changeLevel l).fst = s.fst := by
  unfold State.changeLevel State.setLevel State.capGain
  split <;> simp

theorem shed_fst (m : Measurement) : (s.shed m).fst = s.fst := by
  unfold State.shed State.jump State.riseTest State.fallTest
  dsimp only
  repeat' split
  all_goals simp

@[simp] theorem linkStep_fst : s.linkStep.fst = s.fst := by
  unfold State.linkStep
  split <;> rfl

@[simp] theorem formTarget_fst : s.formTarget.fst = s.fst := (RailStep.sequence _).fst.trans (RailStep.takeDown _ _).fst

theorem tellPmg_fst (b : Bool) : (s.tellPmg b).fst = s.fst := formTarget_fst _

@[simp] theorem enterNormal_fst : s.enterNormal.fst = s.fst := (linkStep_fst _).trans (formTarget_fst _)

@[simp] theorem leaveStart_fst (m : Measurement) : (s.leaveStart m).fst = s.fst := by
  unfold State.leaveStart
  split
  · exact enterNormal_fst s
  · rfl

@[simp] theorem brownoutTest_fst (m : Measurement) : (s.brownoutTest m).fst = s.fst := by
  unfold State.brownoutTest State.enterBrownout
  dsimp only
  split <;> simp

theorem supplyTests_fst (m : Measurement) : (s.supplyTests m).fst = s.fst := by
  unfold State.supplyTests State.recoveryTest State.recover
  split
  · dsimp only
    split <;> simp
  all_goals simp

theorem measure_fst (m : Measurement) : (s.measure m).fst = s.fst := by
  rw [State.measure, cableStep_fst, supplyTests_fst, shed_fst, State.judgePower, State.follow_fst, State.follow_fst]
  rfl

/-! ### The link (R1 to R25) -/

theorem leaveActive_fst : s.leaveActive.fst = s.fst := rfl

theorem moveOffset_fst (e : Int) : (s.moveOffset e).fst = s.fst := by
  unfold State.moveOffset
  repeat' split
  all_goals simp

theorem takeBeat_fst : s.takeBeat.fst = s.fst := by
  unfold State.takeBeat
  dsimp only
  split <;> simp

end
end Sys2Proof.Machine
end

section
/-! Frame arrival (R75 to R79): why a FRAME_BEGIN is refused, and what abandoning the FILLING slot does. -/

namespace Sys2Proof.Machine

/-! ### Why a FRAME_BEGIN is refused (R75) -/

/-- R75: a pose out of range. -/
def FrameBegin.outOfRange (b : FrameBegin) : Prop := ∃ a, b.pose = some a ∧ ¬ a.inTurn

/-- R75: a frame number that is not greater than that accepted last, or than one held READY or SHOWING. -/
def FrameBegin.late (b : FrameBegin) (f : Fst) : Prop :=
  (∃ m, f.newest = some m ∧ frameGreater b.frame m = false) ∨
    ∃ u ∈ f.slots.toList, (u.state = .ready ∨ u.state = .showing) ∧ frameGreater b.frame u.frame = false

section
variable (f : Fst) (b : FrameBegin)

theorem FrameBegin.outOfRange_iff : b.pose.any (fun a => !a.ok) = true ↔ b.outOfRange := by
  simp only [FrameBegin.outOfRange, Option.any_eq_true, Bool.not_eq_true', ← Bool.not_eq_true, Angles.ok_iff]

theorem FrameBegin.late_iff : b.late f ↔ f.newest.any (fun n => !frameGreater b.frame n) = true ∨
    f.slots.toList.any (fun t => (t.state == .ready || t.state == .showing) && !frameGreater b.frame t.frame) = true := by
  simp only [FrameBegin.late, Option.any_eq_true, List.any_eq_true, Bool.and_eq_true, Bool.or_eq_true, beq_iff_eq,
    Bool.not_eq_true']

variable {f b}

theorem Fst.refusal_outOfRange (h : b.outOfRange) : f.refusal b = some .framesRefusedMalformed :=
  if_pos (b.outOfRange_iff.2 h)

theorem Fst.refusal_late (hr : ¬ b.outOfRange) (h : b.late f) : f.refusal b = some .framesRefusedOrder := by
  rw [← b.outOfRange_iff] at hr
  rw [Fst.refusal, if_neg hr]
  split
  · rfl
  next early => rw [if_pos (((b.late_iff f).1 h).resolve_left early)]

theorem Fst.refusal_inTime (hr : ¬ b.outOfRange) (h : ¬ b.late f) :
    f.refusal b = if f.slots.count .free = 0 then some .framesRefusedFull else none := by
  rw [← b.outOfRange_iff] at hr
  obtain ⟨newest, held⟩ := not_or.1 (mt (b.late_iff f).2 h)
  rw [Fst.refusal, if_neg hr, if_neg newest, if_neg held]

/-- R75: an accepted frame is in time, and a slot is FREE for it. -/
theorem Fst.refusal_none (h : f.refusal b = none) : ¬ b.late f ∧ f.slots.count .free ≠ 0 := by
  have hr : ¬ b.outOfRange := fun bad => by rw [Fst.refusal_outOfRange bad] at h; exact absurd h (by simp)
  have hl : ¬ b.late f := fun late => by rw [Fst.refusal_late hr late] at h; exact absurd h (by simp)
  refine ⟨hl, fun full => ?_⟩
  rw [Fst.refusal_inTime hr hl, if_pos full] at h
  exact absurd h (by simp)

end

/-! ### The FILLING slot is abandoned (R79) -/

theorem Slots.change_of_none {q : Slots} {x : SlotState} (h : q.count x = 0) (f : Slot → Slot) : q.change x f = q := by
  have away := Slots.count_eq_zero.1 h
  simp only [Slots.toList, List.forall_mem_cons] at away
  obtain ⟨h0, h1, h2, h3, _⟩ := away
  simp only [Slots.change, Slots.map, if_neg h0, if_neg h1, if_neg h2, if_neg h3]

section
variable (s : State)

theorem abandon_fst : s.abandon.fst = { s.fst with slots := s.fst.slots.change .filling fun _ => .empty } := by
  unfold State.abandon
  split
  · rw [State.raise_fst]
    rfl
  next idle => rw [Slots.change_of_none (Nat.eq_zero_of_not_pos idle)]

theorem abandon_ilg : s.abandon.ilg = s.ilg := by
  unfold State.abandon
  split
  · rw [State.raise_ilg]
    rfl
  · rfl

/-- R79: the frame abandoned is counted. -/
theorem abandon_framesDamaged : s.abandon.count .framesDamaged =
    if s.fst.slots.count .filling = 0 then s.count .framesDamaged else oneMore (s.count .framesDamaged) := by
  unfold State.abandon
  split
  next busy =>
    rw [if_neg busy.ne', State.raise_count _ _ _ Counter.noConfusion Counter.noConfusion, count_bump, if_pos rfl]
    rfl
  next idle => rw [if_pos (Nat.eq_zero_of_not_pos idle)]

theorem abandon_raises (h : 0 < s.fst.slots.count .filling) : s.abandon.ntu.pending.has .frameDamaged = true := by
  rw [State.abandon, if_pos h, raise_pending, Masks.has_put]
  rfl

/-- R79: abandoning a frame leaves the counts of READY and SHOWING slots. -/
theorem abandon_count_other {x : SlotState} (hf : x ≠ .filling) (he : x ≠ .free) :
    s.abandon.fst.slots.count x = s.fst.slots.count x := by
  rw [abandon_fst]
  exact Slots.count_change_other _ _ _ hf fun _ _ _ => he.symm

theorem abandon_free (h : s.fst.slots.count .free ≠ 0) : s.abandon.fst.slots.count .free ≠ 0 := by
  obtain ⟨t, ht, free⟩ := Slots.count_pos.1 (Nat.pos_of_ne_zero h)
  rw [abandon_fst]
  exact (Slots.count_pos.2 ⟨t, Slots.mem_change_of_ne _ _ _ ht (by rw [free]; exact SlotState.noConfusion), free⟩).ne'

/-- R79: a slot in use after an abandonment was there before. -/
theorem of_mem_abandon {u : Slot} (hu : u ∈ s.abandon.fst.slots.toList) (used : u.state ≠ .free) : u ∈ s.fst.slots.toList := by
  rw [abandon_fst] at hu
  obtain ⟨t, ht, rfl⟩ := (Slots.mem_change _ _ _).1 hu
  split at used
  · exact absurd rfl used
  next away => rw [if_neg away]; exact ht

theorem mem_abandon {u : Slot} (hu : u ∈ s.fst.slots.toList) (away : u.state ≠ .filling) : u ∈ s.abandon.fst.slots.toList := by
  rw [abandon_fst]
  exact Slots.mem_change_of_ne _ _ _ hu away

end
end Sys2Proof.Machine
end

section
/-!
The slots stay ordered and frame memory canonical (O7): what the operations of the frame store do to them, every command row by row,
and with it every step.
-/

namespace Sys2Proof.Machine

/-- R74: slots that were ordered, or canonical, are so afterwards. -/
structure KeepsFrames (s t : State) : Prop where
  ordered : s.fst.slots.ordered → t.fst.slots.ordered
  canonical : s.fst.slots.canonical → t.fst.slots.canonical

namespace KeepsFrames

section
variable {s t u : State}

theorem trans (h : KeepsFrames s t) (g : KeepsFrames t u) : KeepsFrames s u :=
  ⟨g.ordered ∘ h.ordered, g.canonical ∘ h.canonical⟩

theorem of_slots (e : t.fst.slots = s.fst.slots) : KeepsFrames s t := ⟨fun h => e ▸ h, fun h => e ▸ h⟩

theorem of_same (e : t.fst = s.fst) : KeepsFrames s t := of_slots (by rw [e])

/-- An operation that comes after others that leave the frame store. -/
theorem after_same (h : KeepsFrames t u) (e : t.fst = s.fst := by simp) : KeepsFrames s u := (of_same e).trans h

/-- An operation that others come after, which leave the frame store. -/
theorem then_same (h : KeepsFrames s t) (e : u.fst = t.fst := by simp) : KeepsFrames s u := h.trans (of_same e)

/-- Every slot is FREE after a reset. -/
theorem of_reset (e : t.fst.slots = ⟨.empty, .empty, .empty, .empty⟩) : KeepsFrames s t :=
  ⟨fun _ => e ▸ reset_ordered, fun _ => e ▸ reset_canonical⟩

end

variable (s : State)

/-! ### Slots (R74 to R88) -/

/-- Slots that become FREE, or keep their state and their frame number. -/
theorem mapSlots (f : Slot → Slot) (hf : ∀ t, (f t).state = .free ∨ (f t).state = t.state ∧ (f t).frame = t.frame)
    (hr : ∀ t : Slot, t.rising → (f t).rising) : KeepsFrames s (s.modSlots fun q => q.map f) :=
  ⟨fun h => Slots.ordered_map h hf, fun h => Slots.canonical_map h hr⟩

theorem freeSlots (x : SlotState) : KeepsFrames s (s.modSlots fun q => q.change x fun _ => .empty) := by
  refine mapSlots s _ (fun t => ?_) fun t h => ?_
  · split
    · exact .inl rfl
    · exact .inr ⟨rfl, rfl⟩
  · split
    · exact Slot.empty_rising
    · exact h

/-- R86, R104: what is noted in a record leaves the state, the frame number and the rows of its slot. -/
theorem noteSlots (x : SlotState) (f : Slot → Slot) (h : ∀ t, f t = { t with repeats := (f t).repeats, clamped := (f t).clamped }) :
    KeepsFrames s (s.modSlots fun q => q.change x f) := by
  refine mapSlots s _ (fun t => ?_) fun t rising => ?_
  · split
    · rw [h t]; exact .inr ⟨rfl, rfl⟩
    · exact .inr ⟨rfl, rfl⟩
  · split
    · rw [h t]; exact rising
    · exact rising

theorem abandon : KeepsFrames s s.abandon := by
  unfold State.abandon
  split
  · exact (freeSlots s .filling).then_same
  · exact of_same rfl

/-- R75, R76: the frame that is accepted is greater than those held, and its slot holds no row yet. -/
theorem frameBegin (b : Option FrameBegin) : KeepsFrames s (s.frameBegin b) := by
  unfold State.frameBegin
  split
  · exact of_same (by simp)
  · split
    · exact of_same (by simp)
    next accepted _ inTime =>
      obtain ⟨early, free⟩ := Fst.refusal_none inTime
      have greater {u : Slot} (hu : u ∈ s.abandon.fst.slots.toList) (hx : u.state = .ready ∨ u.state = .showing) :
          frameGreater accepted.frame u.frame = true := by
        have used : u.state ≠ .free := by rcases hx with e | e <;> rw [e] <;> exact SlotState.noConfusion
        exact Bool.not_eq_false _ ▸ fun e => early (.inr ⟨u, of_mem_abandon s hu used, hx, e⟩)
      refine (abandon s).trans ⟨fun h => ?_, fun h => ?_⟩
      · exact Slots.ordered_fillLowest h (abandon_free s free) (abandon_filling s) rfl fun u => greater
      · exact Slots.canonical_fillLowest h (abandon_free s free) Slot.empty_rising

theorem lines (b : Option LinesBlock) : KeepsFrames s (s.lines b) := by
  unfold State.lines
  split
  · exact of_same rfl
  next b =>
    split
    · split
      · exact of_same rfl
      · refine mapSlots s _ (fun t => ?_) fun t rising => ?_
        · unfold LinesBlock.write
          split_ifs <;> exact .inr ⟨rfl, rfl⟩
        · split
          · exact Slot.write_rising rising b _
          · exact rising
    · exact of_same rfl

theorem frameEnd (b : Option FrameNo) : KeepsFrames s (s.frameEnd b) := by
  unfold State.frameEnd
  split
  · exact of_same rfl
  · split
    · exact of_same rfl
    · split
      · refine ⟨fun h => Slots.ordered_completed h, fun h => Slots.canonical_map h fun t rising => ?_⟩
        split <;> exact rising
      · exact abandon s

theorem dropFrames (n : Nat) : KeepsFrames s (s.dropFrames n) := by
  unfold State.dropFrames
  split
  · exact of_same rfl
  · exact of_same (by simp)

theorem lateShift : KeepsFrames s s.lateShift := by
  have zeroed (b : ShiftBasis) : (s.countZeroed b).fst = s.fst := by cases b <;> rfl
  unfold State.lateShift
  split
  · exact of_same rfl
  · dsimp only
    split
    · refine KeepsFrames.then_same (.after_same (noteSlots _ .showing _ fun _ => rfl) ?_) (State.raise_fst _ _)
      exact zeroed _
    · exact of_same (zeroed _)

theorem selectFrame : KeepsFrames s s.selectFrame := by
  unfold State.selectFrame
  split
  next k selected =>
    obtain ⟨u, hk, ready⟩ := Slots.newestReady_some selected
    have shown : KeepsFrames s (s.modSlots fun q => q.selected k) :=
      ⟨fun h => Slots.ordered_selected h hk ready, fun h => Slots.canonical_selected h k⟩
    exact ((shown.then_same (u := (s.modSlots fun q => q.selected k).bump .framesShown)).trans
      ((dropFrames _ _).then_same (u := State.beginScan _) rfl)).trans (lateShift _)
  · split
    · have repeated : KeepsFrames s (s.modSlots Slots.repeated) := noteSlots s .showing _ fun _ => rfl
      exact (repeated.then_same (by simp [State.beginScan])).trans (lateShift _)
    · exact of_same rfl

theorem blankStart : KeepsFrames s (((s.takeBlank).copyAtBlank).selectFrame).outputAtBlank := by
  have output (t : State) : t.outputAtBlank.fst = t.fst := by
    unfold State.outputAtBlank
    split <;> simp
  have shown : KeepsFrames s s.takeBlank.copyAtBlank.selectFrame := (selectFrame s.takeBlank.copyAtBlank).after_same rfl
  exact shown.then_same (output _)

theorem setProfile (q : List Byte) : KeepsFrames s (setProfile q s).state := by
  unfold Machine.setProfile
  split
  · exact of_same rfl
  next f _ =>
    have profile : KeepsFrames s (s.modFst fun x => { x with profile := f }) := of_slots rfl
    have freed (t : State) : KeepsFrames t t.freeShown :=
      ((freeSlots t .ready).trans (freeSlots _ .showing)).trans (dropFrames _ _)
    have restarted (t : State) : t.restartScan.fst = t.fst := by
      unfold State.restartScan
      split <;> rfl
    exact ((profile.trans (abandon _)).trans (freed _)).then_same ((judgeDark_fst _).trans (restarted _))

/-! ### The reset and the entries of the link (R10 to R15, R207 to R210) -/

theorem doRestart : KeepsFrames s s.doRestart := by
  have live (t : State) : t.reportLive.fst = t.fst :=
    (foldl_fst (f := fun t x => t.follow (railFault x) (t.pmg.rails.get x == .fault))
      (fun t x => State.follow_fst t _ _) railOrder ((t.follow .timeFree (t.tlc.basis == .free)).followStale)).trans
      (by simp [State.followStale])
  refine of_reset ?_
  rw [State.doRestart, scanStart_rest, startImus_rest]
  dsimp only
  rw [live, reformSync_fst]
  rfl

theorem restartOnLeave : KeepsFrames s s.restartOnLeave := by
  unfold State.restartOnLeave
  split
  · exact doRestart s
  · exact of_same rfl

theorem enterRetrain (c : Channel) : KeepsFrames s (s.enterRetrain c) := by
  unfold State.enterRetrain
  exact ((abandon _).after_same (by simp [leaveActive_fst])).trans (restartOnLeave _)

theorem enterDown : KeepsFrames s s.enterDown := by
  have released (t : State) : (if t.cmu.role = some .tether then t.release .tether else t).formBudget.fst = t.fst := by
    split
    · exact release_fst t .tether
    · rfl
  exact ((abandon _).after_same (by simp)).then_same (released _)

theorem enterSleep : KeepsFrames s s.enterSleep := by
  refine (restartOnLeave _).after_same ?_
  rw [(ReaderStep.scanOff _).fst, (ReaderStep.imusOff _).fst, tellPmg_fst]
  rfl

theorem trainingFails : KeepsFrames s s.trainingFails := by
  unfold State.trainingFails
  split
  · dsimp only
    split
    · exact of_same rfl
    · exact (enterDown _).after_same
  · exact of_same rfl

theorem retrainFails : KeepsFrames s s.retrainFails := by
  unfold State.retrainFails
  split
  · dsimp only
    split
    · exact of_same rfl
    · split
      · exact of_same (by simp)
      · exact (enterDown _).after_same
  · exact of_same rfl

theorem crcError : KeepsFrames s s.crcError := by
  unfold State.crcError
  dsimp only
  split
  next c _ =>
    split
    · exact (enterRetrain _ c).after_same
    · exact of_same rfl
  · exact of_same rfl

theorem messageLeft (p : Port) (r : MessageRole) : KeepsFrames s (s.messageLeft p r) := by
  cases r with
  | notice | reply => exact of_same rfl
  | restartReply => exact (doRestart _).after_same rfl
  | sleepReply =>
    unfold State.messageLeft
    dsimp only
    split
    · exact (enterSleep (s.replyLeft p)).after_same rfl
    · exact of_same rfl

theorem blockSent (x : Transmission) : KeepsFrames s (s.blockSent x) := by
  unfold State.blockSent
  cases x with
  | beat | detached | motion | capture => exact of_same rfl
  | control =>
    dsimp only
    split
    · exact of_same rfl
    · exact (messageLeft _ _ _).after_same rfl

theorem frameSent : KeepsFrames s s.frameSent := by
  unfold State.frameSent
  dsimp only
  split
  · exact (messageLeft _ _ _).after_same rfl
  · exact of_same rfl

/-- R207: the load changes the profile and leaves the slots. -/
theorem endLoad (x : StoreState) (v : Loaded) : KeepsFrames s (s.endLoad x v) := by
  have loaded : KeepsFrames s (s.takeLoaded v) := of_slots rfl
  unfold State.endLoad
  dsimp only
  split <;> exact loaded.then_same

end KeepsFrames
end Sys2Proof.Machine
end

section
/-! Every command keeps the slots ordered and frame memory canonical, row by row, and with it every step (O7). -/

namespace Sys2Proof.Machine

namespace KeepsFrames
variable (s : State)

/-! ### What the rows share -/

/-- A row that acts under a condition, and otherwise has no effect. -/
theorem only {p : Prop} [Decidable p] {t : State} (h : KeepsFrames s t) : KeepsFrames s (if p then t else s) := by
  split
  · exact h
  · exact of_same rfl

theorem request (k : ReqKind) (p : Port) (tag : Byte) (q : List Byte) (own : State → Answer)
    (h : KeepsFrames s (own s).state) : KeepsFrames s (s.request k p tag q own) := by
  refine only s ?_
  split
  · exact of_same (reply_fst _ _ _ _ _ _ _)
  · exact h.then_same

theorem withoutArgs (q : List Byte) (own : State → Answer) (h : KeepsFrames s (own s).state) :
    KeepsFrames s (withoutArgs q own s).state := by
  unfold Machine.withoutArgs
  split
  · exact h
  · exact of_same rfl

/-- A row of the readers of a rail, a shed level or the link state. -/
theorem reader {t : State} (h : ReaderStep s t) : KeepsFrames s t := of_same h.fst

/-! ### Power rows -/

theorem storeLoadComplete (r : Option (List Byte)) : Lands KeepsFrames (.storeLoadComplete r) s := ⟨_, rfl, by
  refine only s ?_
  repeat' split
  all_goals exact endLoad s _ _⟩

theorem inputMeasurement (v i : Nat) : Lands KeepsFrames (.inputMeasurement v i) s := ⟨_, rfl, by
  split
  · exact of_same rfl
  · exact of_same (measure_fst _ _)⟩

theorem railPowerGood (x : Rail) : Lands KeepsFrames (.railPowerGood x) s := ⟨_, rfl, by
  split
  · exact of_same ((RailStep.setRail s x _).trans (.sequence _)).fst
  · exact of_same rfl⟩

theorem railRampTimeout (x : Rail) : Lands KeepsFrames (.railRampTimeout x) s := ⟨_, rfl, by
  split
  · exact only s (of_same (RailStep.railFails s x).fst)
  · exact of_same rfl⟩

/-! ### Link rows -/

theorem trainingRecordReceived (r : BaseRecord) (l : BitVec 4) : Lands KeepsFrames (.trainingRecordReceived r l) s :=
  ⟨_, rfl, by
    split
    · split
      · exact of_same rfl
      · exact trainingFails s
    · exact of_same rfl⟩

theorem trainingAttemptSucceeds (n : Nat) : Lands KeepsFrames (.trainingAttemptSucceeds n) s := ⟨_, rfl, by
  split
  · exact only s (of_same (by rw [State.opportunity_fst, tellPmg_fst, State.raise_fst]; rfl))
  · exact of_same rfl⟩

theorem trainingAttemptTimeout : Lands KeepsFrames .trainingAttemptTimeout s := ⟨_, rfl, by
  split
  · exact only s (trainingFails s)
  · exact of_same rfl⟩

theorem symbolLockLost (l : Fin 4) : Lands KeepsFrames (.symbolLockLost l) s := ⟨_, rfl, by
  split
  next c _ => exact only s (enterRetrain s c)
  · exact only s (retrainFails s)
  · exact only s (trainingFails s)
  · exact of_same rfl⟩

theorem retrainAttemptSucceeds (n : Nat) : Lands KeepsFrames (.retrainAttemptSucceeds n) s := ⟨_, rfl, by
  split
  · exact only s (of_same (by rw [State.opportunity_fst, tellPmg_fst]; rfl))
  · exact of_same rfl⟩

theorem retrainAttemptTimeout : Lands KeepsFrames .retrainAttemptTimeout s := ⟨_, rfl, by
  split
  · exact only s (retrainFails s)
  · exact of_same rfl⟩

theorem retryTimerExpiry : Lands KeepsFrames .retryTimerExpiry s := ⟨_, rfl, by
  split
  · exact only s (of_same rfl)
  · exact of_same rfl⟩

theorem linkBlockDiscarded (b : List Byte) : Lands KeepsFrames (.linkBlockDiscarded b) s := ⟨_, rfl, by
  have discarded (d : Discard) : KeepsFrames s (s.discard d) := by
    cases d with
    | crc => exact crcError s
    | stream | linkKind | pictureKind => exact of_same rfl
  split
  · split
    · exact discarded _
    · exact of_same rfl
  · exact only s (of_same rfl)⟩

theorem timeMark (q : List Byte) : Lands KeepsFrames (.timeMark q) s := ⟨_, rfl, by
  refine only s ?_
  split
  · exact of_same rfl
  · exact of_same ((State.lower_fst _ _).trans (moveOffset_fst s _))⟩

theorem timeBasisFree : Lands KeepsFrames .timeBasisFree s := ⟨_, rfl, by
  split
  · exact only s (of_same (State.raise_fst _ _))
  · exact of_same rfl⟩

theorem sleepMark (q : List Byte) : Lands KeepsFrames (.sleepMark q) s := ⟨_, rfl, by
  refine only s ?_
  split
  · exact enterSleep s
  · exact of_same rfl⟩

theorem upstreamBlockSent : Lands KeepsFrames .upstreamBlockSent s := ⟨_, rfl, by
  refine only s ?_
  split
  · exact (blockSent s _).then_same (State.opportunity_fst _)
  · exact of_same rfl⟩

theorem serviceFrameSent : Lands KeepsFrames .serviceFrameSent s := ⟨_, rfl, by
  split
  · exact of_same rfl
  · exact (frameSent s).then_same (State.uartStart_fst _)⟩

theorem controlBlockReceived (q : List Byte) : Lands KeepsFrames (.controlBlockReceived q) s := ⟨_, rfl, by
  refine only s ?_
  split
  · exact of_same rfl
  · exact of_same (arrive_fst s _ q)⟩

/-! ### Requests -/

section
variable (p : Port) (tag : Byte) (q : List Byte)

theorem attach : Lands KeepsFrames (.attach p tag q) s := ⟨_, rfl, by
  have asked := request s .attach p tag q _ (withoutArgs s q (attachTo p) (of_same (by
    unfold attachTo
    repeat' split
    all_goals rfl)))
  split
  · exact asked.then_same (roleTaken_fst _)
  · exact asked⟩

theorem detach : Lands KeepsFrames (.detach p tag q) s := ⟨_, rfl, by
  have asked := request s .detach p tag q _ (withoutArgs s q (fun s => .ok s []) (of_same rfl))
  split
  · exact asked.then_same (release_fst _ _)
  · exact asked⟩

theorem restart : Lands KeepsFrames (.restart p tag q) s := ⟨_, rfl, by
  have asked := request s .restart p tag q _ (withoutArgs s q (restartBy p) (of_same rfl))
  split
  · exact asked.trans (doRestart _)
  · exact asked⟩

theorem startProcedure : Lands KeepsFrames (.startProcedure p tag q) s := ⟨_, rfl, by
  have asked := request s .startProcedure p tag q (startBy q) (of_same (by
    unfold startBy
    repeat' split
    all_goals rfl))
  split
  · split
    · exact asked.then_same (startCheck_fst _ _)
    · exact asked
  · exact asked⟩

end

/-! ### What the rule of a request leaves -/

section
variable (p : Port) (q : List Byte)

theorem linkSleepBy_fst : (linkSleepBy s).state.fst = s.fst := by
  unfold linkSleepBy
  repeat' split
  all_goals rfl

theorem setRate_fst : (setRate q s).state.fst = s.fst := by
  unfold setRate
  split
  · rfl
  · exact reformSync_fst _ _

theorem setWear_fst : (setWear q s).state.fst = s.fst := by
  unfold setWear
  split
  · rfl
  · exact (ReaderStep.awayExpires _).fst

theorem mapAxes_fst : (mapAxes q s).state.fst = s.fst := by
  unfold mapAxes
  split
  · rfl
  · exact (ReaderStep.followStale _).fst

theorem select_fst : (select q s).state.fst = s.fst := by
  unfold select
  repeat' split
  all_goals rfl

theorem anchorBy_fst : (anchorBy q s).state.fst = s.fst := by
  unfold anchorBy
  split
  · rfl
  · split
    · rfl
    · dsimp only
      split <;> rfl

theorem restartRails_fst : (restartRails s).state.fst = s.fst := by
  unfold restartRails
  dsimp only
  split
  · rfl
  · exact (RailStep.sequence _).fst.trans (RailStep.takeDown s _).fst

theorem setVolume_fst : (setVolume q s).state.fst = s.fst := by
  unfold setVolume
  split
  · rfl
  · dsimp only
    split <;> rfl

theorem setCapture_fst : (setCapture q s).state.fst = s.fst := by
  unfold setCapture
  split
  · rfl
  · exact takeCapture_fst s _

theorem abortBy_fst : (abortBy s).state.fst = s.fst := by
  unfold abortBy
  split
  · rfl
  · exact (endProc_fst _ _ _).trans (stopWork_fst s _)

theorem readCountersBy_fst : (readCountersBy p q s).state.fst = s.fst := by
  have cleared (cs : List Counter) : (s.clearCounts cs).fst = s.fst :=
    foldl_fst (f := fun t c => t.setCount c 0) (fun _ _ => rfl) cs s
  unfold readCountersBy
  split
  · rfl
  · split
    · rfl
    next clear _ =>
      cases clear
      · rfl
      · exact cleared _

theorem clearBy_fst : (clearBy q s).state.fst = s.fst := by
  unfold clearBy
  split
  · rfl
  · exact State.attend_fst _

theorem maskBy_fst : (maskBy q s).state.fst = s.fst := by
  have due (t : State) (cs : List Condition) : (t.dueFor cs).fst = t.fst := foldl_fst (fun t _ => State.noticeDue_fst t) cs t
  unfold maskBy
  split
  · rfl
  · exact (State.attend_fst _).trans (due _ _)

end

/-! ### Procedures and sensors -/

theorem biasCalCollectionEnd : Lands KeepsFrames .biasCalCollectionEnd s := ⟨_, rfl, by
  split
  · exact only s (of_same (judgeBias_fst s _ _ _ _))
  · exact of_same rfl⟩

theorem storeReadbackComplete (b : List Byte) : Lands KeepsFrames (.storeReadbackComplete b) s :=
  ⟨_, rfl, of_same (by
    split
    · split <;> exact endProc_fst _ _ _
    · rfl)⟩

theorem sampleReadEnd (x : Sensor) (r : ReadResult) : Lands KeepsFrames (.sampleReadEnd x r) s := ⟨_, rfl, by
  refine only s ?_
  cases r with
  | failed => exact reader s ((ReaderStep.readFails s x).trans (.completeTicks _))
  | succeeded d => exact reader s ((ReaderStep.readSucceeds s x d).trans (.completeTicks _))⟩

theorem imuStartupTransaction (x : Sensor) (r : StartupResult) : Lands KeepsFrames (.imuStartupTransaction x r) s :=
  ⟨_, rfl, by
    split
    · dsimp only
      split
      · exact of_same (ReaderStep.enterFault _ x).fst
      · exact of_same rfl
    · exact reader s (.startupGoesOn s x _ _ _)
    · exact of_same rfl⟩

theorem imuStartupTimeout (x : Sensor) : Lands KeepsFrames (.imuStartupTimeout x) s := ⟨_, rfl, by
  split
  · exact only s (reader s (.enterFault s x))
  · exact of_same rfl⟩

theorem imuRetryExpiry (x : Sensor) : Lands KeepsFrames (.imuRetryExpiry x) s := ⟨_, rfl, by
  split
  · exact only s (of_same rfl)
  · exact of_same rfl⟩

theorem powerOn (x : Straps) : Lands KeepsFrames (.powerOn x) s := ⟨_, rfl, by
  have on : KeepsFrames s (s.powerOn x) := of_reset rfl
  split
  · exact on
  · exact on.trans (endLoad _ _ _)⟩

/-! ### Every command -/

theorem exec (i : Instr) : Lands KeepsFrames i s := by
  cases i with
  | powerOn x => exact powerOn s x
  | storeLoadComplete r => exact storeLoadComplete s r
  | inputMeasurement v i => exact inputMeasurement s v i
  | railPowerGood x => exact railPowerGood s x
  | railRampTimeout x => exact railRampTimeout s x
  | powerGoodWithdrawn x => exact ⟨_, rfl, only s (of_same (RailStep.railFails s x).fst)⟩
  | trainingRecordReceived r l => exact trainingRecordReceived s r l
  | trainingAttemptSucceeds n => exact trainingAttemptSucceeds s n
  | trainingAttemptTimeout => exact trainingAttemptTimeout s
  | symbolLockLost l => exact symbolLockLost s l
  | retrainAttemptSucceeds n => exact retrainAttemptSucceeds s n
  | retrainAttemptTimeout => exact retrainAttemptTimeout s
  | retryTimerExpiry => exact retryTimerExpiry s
  | lineEnergyDetected => exact ⟨_, rfl, only s (of_same (wake_fst s))⟩
  | linkBlockDiscarded b => exact linkBlockDiscarded s b
  | timeMark q => exact timeMark s q
  | timeBasisFree => exact timeBasisFree s
  | sleepMark q => exact sleepMark s q
  | statusBeatDue => exact ⟨_, rfl, only s (of_same (takeBeat_fst s))⟩
  | upstreamBlockSent => exact upstreamBlockSent s
  | frameBegin q => exact ⟨_, rfl, only s (frameBegin s _)⟩
  | lines q => exact ⟨_, rfl, only s (lines s _)⟩
  | frameEnd q => exact ⟨_, rfl, only s (frameEnd s _)⟩
  | sound q => exact ⟨_, rfl, only s (of_same (takeSound_fst s _))⟩
  | controlBlockReceived q => exact controlBlockReceived s q
  | serviceFrameReceived b => exact ⟨_, rfl, only s (of_same ((hunt_fst _ _ _ _).trans (timeOutBytes_fst s)))⟩
  | serviceByteTimeout => exact ⟨_, rfl, of_same (timeOutBytes_fst s)⟩
  | serviceFrameSent => exact serviceFrameSent s
  | unknownKind p tag k q => exact ⟨_, rfl, only s (of_same (reply_fst s _ _ _ _ _ _))⟩
  | attach p tag q => exact attach s p tag q
  | detach p tag q => exact detach s p tag q
  | restart p tag q => exact restart s p tag q
  | startProcedure p tag q => exact startProcedure s p tag q
  | setProfile p tag q => exact ⟨_, rfl, request s _ p tag q _ (setProfile s q)⟩
  | getStatus p tag q => exact ⟨_, rfl, request s _ p tag q _ (of_same (by unfold statusOf; split <;> rfl))⟩
  | setSensorRate p tag q => exact ⟨_, rfl, request s _ p tag q _ (of_same (setRate_fst s q))⟩
  | setWear p tag q => exact ⟨_, rfl, request s _ p tag q _ (of_same (setWear_fst s q))⟩
  | setAxisMap p tag q => exact ⟨_, rfl, request s _ p tag q _ (of_same (mapAxes_fst s q))⟩
  | selectPrimary p tag q => exact ⟨_, rfl, request s _ p tag q _ (of_same (select_fst s q))⟩
  | anchor p tag q => exact ⟨_, rfl, request s _ p tag q _ (of_same (anchorBy_fst s q))⟩
  | setPoseOverride p tag q => exact ⟨_, rfl, request s _ p tag q _ (of_same (by unfold setPose; split <;> rfl))⟩
  | stagePulses p tag q => exact ⟨_, rfl, request s _ p tag q _ (of_same (by unfold stage; split <;> rfl))⟩
  | setVolume p tag q => exact ⟨_, rfl, request s _ p tag q _ (of_same (setVolume_fst s q))⟩
  | setCapture p tag q => exact ⟨_, rfl, request s _ p tag q _ (of_same (setCapture_fst s q))⟩
  | setPowerLimits p tag q => exact ⟨_, rfl, request s _ p tag q _ (of_same (by unfold setLimits; split <;> rfl))⟩
  | setCableResistance p tag q => exact ⟨_, rfl, request s _ p tag q _ (of_same (by unfold setResistance; split <;> rfl))⟩
  | readCounters p tag q => exact ⟨_, rfl, request s _ p tag q _ (of_same (readCountersBy_fst s p q))⟩
  | clearConditions p tag q => exact ⟨_, rfl, request s _ p tag q _ (of_same (clearBy_fst s q))⟩
  | setNoticeMask p tag q => exact ⟨_, rfl, request s _ p tag q _ (of_same (maskBy_fst s q))⟩
  | linkSleep p tag q => exact ⟨_, rfl, request s _ p tag q _ (withoutArgs s q _ (of_same (linkSleepBy_fst s)))⟩
  | clearPoseOverride p tag q => exact ⟨_, rfl, request s _ p tag q _ (withoutArgs s q _ (of_same rfl))⟩
  | railRestart p tag q => exact ⟨_, rfl, request s _ p tag q _ (withoutArgs s q _ (of_same (restartRails_fst s)))⟩
  | abortProcedure p tag q => exact ⟨_, rfl, request s _ p tag q _ (withoutArgs s q _ (of_same (abortBy_fst s)))⟩
  | getInfo p tag q => exact ⟨_, rfl, request s _ p tag q _ (withoutArgs s q (fun s => .ok s (s.infoBytes p)) (of_same rfl))⟩
  | getProcedureResult p tag q =>
    exact ⟨_, rfl, request s _ p tag q _ (withoutArgs s q (fun s => .ok s s.prr.bytes) (of_same rfl))⟩
  | readConditions p tag q =>
    exact ⟨_, rfl, request s _ p tag q _ (withoutArgs s q (fun s => .ok s s.conditionBytes) (of_same rfl))⟩
  | biasCalCollectionEnd => exact biasCalCollectionEnd s
  | storeWriteComplete => exact ⟨_, rfl, of_same (by split <;> rfl)⟩
  | storeReadbackComplete b => exact storeReadbackComplete s b
  | sampleReadEnd x r => exact sampleReadEnd s x r
  | imuStartupTransaction x r => exact imuStartupTransaction s x r
  | imuStartupTimeout x => exact imuStartupTimeout s x
  | imuRetryExpiry x => exact imuRetryExpiry s x
  | silenceWatchExpiry => exact ⟨_, rfl, only s (of_same (ReaderStep.primaryFails _).fst)⟩
  | poseStale => exact ⟨_, rfl, reader s (.followStale s)⟩
  | wearReadDone r => exact ⟨_, rfl, only s (of_same ((wearWakes_fst _ _).trans (ReaderStep.wearRead s r).fst))⟩
  | awayTimerExpiry => exact ⟨_, rfl, reader s (.awayExpires s)⟩
  | blankStart => exact ⟨_, rfl, only s (blankStart s)⟩
  | outputInstant m1 m2 => exact ⟨_, rfl, only s (of_same ((capture_fst _ _ _).trans (playback_fst _)))⟩
  | holdoffExpiry => exact ⟨_, rfl, only s (of_same (holdoffExpires_fst s))⟩
  | quietHoldEnd => exact ⟨_, rfl, only s (of_same (State.attend_fst _))⟩
  | crcWindowBoundary | sampleTick | wearReadTick | illumPulseStart | illumPulseEnd | attenuationRampStep =>
    exact ⟨_, rfl, only s (of_same rfl)⟩

end KeepsFrames

theorem step_keepsFrames {s t : State} (h : step s = .next t) : KeepsFrames s t := by
  obtain ⟨c, rest, _, he⟩ | ⟨_, rfl⟩ := step_cases h
  · have kept := (KeepsFrames.exec { s with pending := rest } c).of_exec he
    exact ⟨kept.ordered, kept.canonical⟩
  · exact .of_same rfl

/-- Settles O7: a step is a command, which keeps the slots in order and their rows rising, or the passing of a microsecond. -/
theorem slotsStayOrderedAndCanonical : Obligations.SlotsStayOrderedAndCanonical :=
  ⟨fun _ _ ordered h => (step_keepsFrames h).ordered ordered, fun _ _ canonical h => (step_keepsFrames h).canonical canonical⟩

end Sys2Proof.Machine
end

section
/-! The rows of frame arrival: FRAME_BEGIN (O48), LINES and FRAME_END (O49). -/

namespace Sys2Proof.Machine

section
variable {s : State} {q : List Byte}

/-! ### FRAME_BEGIN (R75, R76, R213) -/

/-- R213: what a FRAME_BEGIN payload of at least 28 bytes says. -/
def frameBeginOf (q : List Byte) : FrameBegin :=
  { frame := BitVec.ofNat 32 (natAt q 0 4), renderTime := natAt q 8 8
    pose := if (byteAt q 4).getLsbD 0 then some (anglesAt q 16) else none }

theorem parseFrameBegin_short (h : q.length < 28) : parseFrameBegin q = none := if_pos h

theorem parseFrameBegin_whole (h : ¬ q.length < 28) : parseFrameBegin q = some (frameBeginOf q) := if_neg h

theorem outOfRange_frameBeginOf : (frameBeginOf q).outOfRange ↔ (byteAt q 4).getLsbD 0 = true ∧ ¬ (anglesAt q 16).inTurn := by
  unfold FrameBegin.outOfRange frameBeginOf
  dsimp only
  cases (byteAt q 4).getLsbD 0 <;> simp

theorem exec_frameBegin (h : s.linkActive = true) : exec (.frameBegin q) s = .next (s.frameBegin (parseFrameBegin q)) :=
  congrArg Host.Outcome.next (if_pos h)

/-- R75: a FRAME_BEGIN refused for a cause moves its counter and raises FRAME_REFUSED. -/
theorem completes_refused {c : Counter} (h : exec (.frameBegin q) s = .next ((s.bump c).raise .frameRefused)) :
    Completes (.frameBegin q) s (s.bump c) (s.ntu.pending.put .frameRefused) :=
  ⟨_, h, sbn_raise _ _, raise_pending _ _⟩

theorem frameBegin_refused {b : FrameBegin} {c : Counter} (h : s.fst.refusal b = some c) :
    s.frameBegin (some b) = (s.bump c).raise .frameRefused := by
  rw [State.frameBegin, h]

/-- R76: the state after a FRAME_BEGIN is accepted. -/
def State.filled (s : State) (b : FrameBegin) : State :=
  (s.abandon.modFst fun f => { f with slots := f.slots.fillLowest b.slot, newest := some b.frame }).bump .framesAccepted

theorem frameBegin_accepted {b : FrameBegin} (h : s.fst.refusal b = none) : s.frameBegin (some b) = s.filled b := by
  rw [State.frameBegin, h]
  rfl

variable {b : FrameBegin}

theorem filled_fst : (s.filled b).fst =
    { slots := s.abandon.fst.slots.fillLowest b.slot, newest := some b.frame, profile := s.fst.profile } := by
  have profile : s.abandon.fst.profile = s.fst.profile := by rw [abandon_fst]
  rw [← profile]
  rfl

theorem filled_framesAccepted : (s.filled b).count .framesAccepted = oneMore (s.count .framesAccepted) := by
  rw [State.filled, count_bump, if_pos rfl, State.modFst_count,
    abandon_count s Counter.noConfusion Counter.noConfusion Counter.noConfusion]
  rfl

theorem filled_framesDamaged : (s.filled b).count .framesDamaged =
    if s.fst.slots.count .filling = 0 then s.count .framesDamaged else oneMore (s.count .framesDamaged) := by
  rw [State.filled, count_bump, if_neg Counter.noConfusion, State.modFst_count, abandon_framesDamaged]

/-- R76, R79: after the abandonment one slot is FILLING, the new one. -/
theorem filled_filling (free : s.fst.slots.count .free ≠ 0) : (s.filled b).fst.slots.count .filling = 1 := by
  rw [filled_fst, Slots.count_fillLowest (abandon_free s free) _ SlotState.noConfusion, abandon_filling]
  rfl

theorem mem_filled_new (free : s.fst.slots.count .free ≠ 0) : b.slot ∈ (s.filled b).fst.slots.toList :=
  Slots.mem_fillLowest_new (abandon_free s free) _

/-- R79: READY and SHOWING slots stay as they are. -/
theorem mem_filled_old (free : s.fst.slots.count .free ≠ 0) {u : Slot} (hu : u ∈ s.fst.slots.toList)
    (hx : u.state = .ready ∨ u.state = .showing) : u ∈ (s.filled b).fst.slots.toList := by
  have away : u.state ≠ .filling := by rcases hx with e | e <;> rw [e] <;> exact SlotState.noConfusion
  have used : u.state ≠ .free := by rcases hx with e | e <;> rw [e] <;> exact SlotState.noConfusion
  exact Slots.mem_fillLowest_old (abandon_free s free) _ (mem_abandon s hu away) used

theorem slot_frameBeginOf : (frameBeginOf q).slot =
    { state := .filling, frame := BitVec.ofNat 32 (natAt q 0 4)
      pose := if (byteAt q 4).getLsbD 0 = true then some (anglesAt q 16) else none, renderTime := natAt q 8 8
      left := [], right := [], repeats := 0, unposed := !(byteAt q 4).getLsbD 0, clamped := false } := by
  unfold FrameBegin.slot frameBeginOf
  cases (byteAt q 4).getLsbD 0 <;> rfl

end

/-- Settles O48: each cause in the order in which it is judged, and what an accepted frame leaves. -/
theorem frameBeginIsJudgedInOrder : Obligations.FrameBeginIsJudgedInOrder := by
  intro s c q active n posed a malformed late full refused
  have run := exec_frameBegin (q := q) (linkActive_of active)
  have whole (h : ¬ malformed) : exec (.frameBegin q) s = .next (s.frameBegin (some (frameBeginOf q))) := by
    rw [run, parseFrameBegin_whole fun short => h (.inl short)]
  have inRange (h : ¬ malformed) : ¬ (frameBeginOf q).outOfRange := fun bad => h (.inr (outOfRange_frameBeginOf.1 bad))
  refine ⟨fun h => completes_refused ?_, fun h isLate => completes_refused ?_, fun h early isFull => completes_refused ?_,
    fun h early free => ?_⟩
  · by_cases short : q.length < 28
    · rw [run, parseFrameBegin_short short]
      rfl
    · rw [run, parseFrameBegin_whole short,
        frameBegin_refused (Fst.refusal_outOfRange (outOfRange_frameBeginOf.2 (h.resolve_left short)))]
  · rw [whole h, frameBegin_refused (Fst.refusal_late (inRange h) isLate)]
  · rw [whole h, frameBegin_refused ((Fst.refusal_inTime (inRange h) early).trans (if_pos isFull))]
  · refine ⟨s.filled (frameBeginOf q), ?_, by rw [filled_fst]; rfl, by rw [filled_fst], filled_filling free, ?_,
      fun u => mem_filled_old free, filled_framesAccepted, filled_framesDamaged, abandon_sou s, abandon_oin s, abandon_msu s,
      abandon_aud s, abandon_pmg s, ?_⟩
    · rw [whole h, frameBegin_accepted ((Fst.refusal_inTime (inRange h) early).trans (if_neg free))]
    · exact slot_frameBeginOf (q := q) ▸ mem_filled_new free
    · exact abandon_ilg s

/-! ### LINES (R77, R213) -/

section
variable {s : State} {q : List Byte}

theorem Slot.fills_iff (t : Slot) (n : FrameNo) : t.fills n = true ↔ t.state = .filling ∧ t.frame = n := by
  rw [Slot.fills, Bool.and_eq_true, beq_iff_eq, beq_iff_eq]

/-- R77, R78: no slot is FILLING the frame of a stray block. -/
theorem any_fills_eq_false {l : List Slot} {n : FrameNo} (h : ∀ u ∈ l, u.state = .filling → u.frame ≠ n) :
    l.any (fun t => t.fills n) = false :=
  List.any_eq_false.2 fun t ht fills => by
    obtain ⟨filling, frame⟩ := (t.fills_iff n).1 fills
    exact h t ht filling frame

/-- R213: what a LINES payload of at least 10 bytes says. -/
def linesOf (q : List Byte) : LinesBlock :=
  { frame := BitVec.ofNat 32 (natAt q 0 4), eye := natAt q 4 1, first := natAt q 6 2, rows := natAt q 8 2
    pixels := q.drop 10 }

theorem parseLines_whole (h : 10 ≤ q.length) : parseLines q = some (linesOf q) := if_neg (Nat.not_lt.2 h)

/-- R77: the form of a LINES block: an eye, and whole rows within the profile. -/
def linesFormed (q : List Byte) (f : Profile) : Prop :=
  natAt q 4 1 ≤ 1 ∧ 0 < natAt q 8 2 ∧ natAt q 6 2 + natAt q 8 2 ≤ f.rows ∧ q.length = 10 + natAt q 8 2 * (f.columns * 3)

theorem malformed_linesOf (h : 10 ≤ q.length) (f : Profile) : (linesOf q).malformed f = true ↔ ¬ linesFormed q f := by
  unfold LinesBlock.malformed linesFormed linesOf
  simp only [Bool.or_eq_true, decide_eq_true_eq, beq_iff_eq, bne_iff_ne, List.length_drop, Nat.mul_assoc]
  omega

theorem exec_lines (h : s.linkActive = true) : exec (.lines q) s = .next (s.lines (parseLines q)) :=
  congrArg Host.Outcome.next (if_pos h)

theorem lines_stray (h : q.length < 10 ∨ ∀ u ∈ s.fst.slots.toList, u.state = .filling → u.frame ≠ BitVec.ofNat 32 (natAt q 0 4)) :
    s.lines (parseLines q) = s.bump .pictureStrayBlocks := by
  by_cases short : q.length < 10
  · rw [parseLines, if_pos short]
    rfl
  · rw [parseLines_whole (Nat.not_lt.1 short)]
    exact if_neg (Bool.eq_false_iff.1 (any_fills_eq_false (h.resolve_left short)))

variable {u : Slot} (hl : 10 ≤ q.length) (hu : u ∈ s.fst.slots.toList) (filling : u.state = .filling)
  (frame : u.frame = BitVec.ofNat 32 (natAt q 0 4))
include hl hu filling frame

theorem lines_taken : s.lines (parseLines q) =
    if (linesOf q).malformed s.fst.profile then s.bump .linesMalformed
    else s.modSlots fun p => p.map fun t =>
      if t.fills (linesOf q).frame then (linesOf q).write s.fst.profile.columns t else t := by
  rw [parseLines_whole hl]
  exact if_pos (List.any_eq_true.2 ⟨u, hu, (u.fills_iff _).2 ⟨filling, frame⟩⟩)

end

/-- R77: a LINES block writes the rows that it carries into its eye, and leaves every other row. -/
theorem rowOf_write (q : List Byte) (columns : Nat) (u : Slot) (r : Nat) :
    let v := (linesOf q).write columns u
    let eye := natAt q 4 1; let first := natAt q 6 2; let rows := natAt q 8 2; let width := columns * 3
    rowOf (if eye = 0 then v.left else v.right) r =
        (if first ≤ r ∧ r < first + rows then some (slice q (10 + (r - first) * width) width)
         else rowOf (if eye = 0 then u.left else u.right) r) ∧
      rowOf (if eye = 0 then v.right else v.left) r = rowOf (if eye = 0 then u.right else u.left) r := by
  have pixels (d : Nat) : ((linesOf q).pixels.drop d).take (columns * 3) = slice q (10 + d) (columns * 3) := by
    rw [slice, ← List.drop_drop]
    rfl
  dsimp only
  by_cases left : natAt q 4 1 = 0
  · have written : (linesOf q).write columns u =
        { u with left := insertRows (columns * 3) (natAt q 6 2) (natAt q 8 2) (linesOf q).pixels u.left } := if_pos left
    rw [written]
    simp only [if_pos left, rowOf_insertRows, pixels, and_self]
  · have written : (linesOf q).write columns u =
        { u with right := insertRows (columns * 3) (natAt q 6 2) (natAt q 8 2) (linesOf q).pixels u.right } := if_neg left
    rw [written]
    simp only [if_neg left, rowOf_insertRows, pixels, and_self]

/-! ### FRAME_END (R78, R79, R213) -/

theorem rowOf_ne_none (e : EyeRows) (r : Nat) : rowOf e r ≠ none ↔ e.any (fun q => q.1 == r) = true := by
  simp [rowOf]

theorem Slot.whole_iff (t : Slot) (f : Profile) :
    t.whole f = true ↔ ∀ r < f.rows, rowOf t.left r ≠ none ∧ rowOf t.right r ≠ none := by
  simp only [Slot.whole, eyeWhole, Bool.and_eq_true, List.all_eq_true, List.mem_range, rowOf_ne_none, forall_and]

section
variable {s : State} {q : List Byte}

theorem exec_frameEnd (h : s.linkActive = true) : exec (.frameEnd q) s = .next (s.frameEnd (parseFrameEnd q)) :=
  congrArg Host.Outcome.next (if_pos h)

theorem frameEnd_stray (h : q.length < 4 ∨ ∀ u ∈ s.fst.slots.toList, u.state = .filling → u.frame ≠ BitVec.ofNat 32 (natAt q 0 4)) :
    s.frameEnd (parseFrameEnd q) = s.bump .pictureStrayBlocks := by
  by_cases short : q.length < 4
  · rw [parseFrameEnd, if_pos short]
    rfl
  · have none : s.fst.slots.toList.find? (fun t => t.fills (BitVec.ofNat 32 (natAt q 0 4))) = none :=
      List.find?_eq_none.2 (List.any_eq_false.1 (any_fills_eq_false (h.resolve_left short)))
    rw [parseFrameEnd, if_neg short, State.frameEnd, none]

/-- R74, R78: with one slot FILLING, a FRAME_END of its number judges that slot. -/
theorem frameEnd_taken (ho : s.fst.slots.ordered) (hl : 4 ≤ q.length) {u : Slot} (hu : u ∈ s.fst.slots.toList)
    (filling : u.state = .filling) (frame : u.frame = BitVec.ofNat 32 (natAt q 0 4)) : s.frameEnd (parseFrameEnd q) =
      if u.whole s.fst.profile then
        (s.modSlots fun q => q.change .filling fun t => { t with state := .ready }).bump .framesCompleted
      else s.abandon := by
  have found : s.fst.slots.toList.find? (fun t => t.fills (BitVec.ofNat 32 (natAt q 0 4))) = some u := by
    have some : (s.fst.slots.toList.find? fun t => t.fills (BitVec.ofNat 32 (natAt q 0 4))).isSome :=
      List.find?_isSome.2 ⟨u, hu, (u.fills_iff _).2 ⟨filling, frame⟩⟩
    obtain ⟨t, ht⟩ := Option.isSome_iff_exists.1 some
    obtain ⟨fills, _⟩ := (t.fills_iff (BitVec.ofNat 32 (natAt q 0 4))).1 (by simpa using List.find?_some ht)
    rw [ht, Slots.eq_of_count_le_one ho.1 (List.mem_of_find?_eq_some ht) hu fills filling]
  rw [parseFrameEnd, if_neg (Nat.not_lt.2 hl), State.frameEnd, found]

end

/-- Settles O49: each block by its form and by the slot that is FILLING its frame. -/
theorem linesAndFrameEndFillTheSlot : Obligations.LinesAndFrameEndFillTheSlot := by
  intro s c q active ordered n eye first rows width
  have act := linkActive_of active
  refine ⟨fun len u hu filling frame => ⟨fun formed => ?_, fun bad => ?_⟩,
    fun stray => (exec_lines act).trans (congrArg _ (lines_stray stray)),
    fun len u hu filling frame => ?_, fun stray => (exec_frameEnd act).trans (congrArg _ (frameEnd_stray stray))⟩
  · have good : ¬ (linesOf q).malformed s.fst.profile = true := fun bad => (malformed_linesOf len _).1 bad formed
    have fills : u.fills (linesOf q).frame = true := (u.fills_iff _).2 ⟨filling, frame⟩
    refine ⟨_, (linesOf q).write s.fst.profile.columns u,
      (exec_lines act).trans (congrArg _ ((lines_taken len hu filling frame).trans (if_neg good))), rfl, ?_, ?_,
      fun w hw away => ?_, rowOf_write q s.fst.profile.columns u⟩
    · exact (Slots.mem_map _ _).2 ⟨u, hu, if_pos fills⟩
    · unfold LinesBlock.write
      split <;> rfl
    · exact (Slots.mem_map _ _).2 ⟨w, hw, if_neg fun e => away ((w.fills_iff _).1 e).1⟩
  · exact (exec_lines act).trans (congrArg _ ((lines_taken len hu filling frame).trans
      (if_pos ((malformed_linesOf len _).2 bad))))
  · have taken := (exec_frameEnd act).trans (congrArg Host.Outcome.next (frameEnd_taken ordered len hu filling frame))
    refine ⟨fun whole => ?_, fun lacks => ?_⟩
    · rw [if_pos ((u.whole_iff _).2 whole)] at taken
      exact ⟨_, taken, Slots.count_change_left _ _ _ fun _ _ _ => SlotState.noConfusion,
        Slots.mem_change_of_eq _ (fun t => { t with state := .ready }) _ hu filling, (count_bump _ _ _).trans (if_pos rfl)⟩
    · rw [if_neg (mt (u.whole_iff _).1 lacks)] at taken
      have busy : 0 < s.fst.slots.count .filling := Slots.count_pos.2 ⟨u, hu, filling⟩
      exact ⟨_, taken, abandon_filling s, abandon_count_other s SlotState.noConfusion SlotState.noConfusion,
        (abandon_framesDamaged s).trans (if_neg busy.ne'), abandon_raises s busy⟩

end Sys2Proof.Machine
end

section
/-!
The steps of a blank start (R83 to R88, R95, R120): what each leaves alone, the frame that is selected, the late shift of the frame
shown, and the output.
-/

namespace Sys2Proof.Machine

/-! ### The output (R118, R120) -/

section
variable (s : State)

theorem judgeDark_rest : s.judgeDark = { s with
    counters := s.judgeDark.counters
    ilg := { s.ilg with
      output := s.judgeDark.ilg.output, phaseLeft := s.judgeDark.ilg.phaseLeft, phaseRight := s.judgeDark.ilg.phaseRight } } := by
  unfold State.judgeDark
  split <;> split <;> rfl

theorem outputAtBlank_rest : s.outputAtBlank = { s with
    counters := s.outputAtBlank.counters
    ilg := { s.ilg with
      output := s.outputAtBlank.ilg.output, periodStart := s.outputAtBlank.ilg.periodStart
      phaseLeft := s.outputAtBlank.ilg.phaseLeft, phaseRight := s.outputAtBlank.ilg.phaseRight } } := by
  unfold State.outputAtBlank
  split
  · rfl
  · rw [judgeDark_rest]
    rfl

theorem outputAtBlank_lt : s.outputAtBlank.lt = s.lt := by rw [outputAtBlank_rest]
theorem outputAtBlank_msu : s.outputAtBlank.msu = s.msu := by rw [outputAtBlank_rest]
theorem outputAtBlank_fst : s.outputAtBlank.fst = s.fst := by rw [outputAtBlank_rest]
theorem outputAtBlank_sou : s.outputAtBlank.sou = s.sou := by rw [outputAtBlank_rest]
theorem outputAtBlank_aud : s.outputAtBlank.aud = s.aud := by rw [outputAtBlank_rest]
theorem outputAtBlank_pmg : s.outputAtBlank.pmg = s.pmg := by rw [outputAtBlank_rest]
theorem outputAtBlank_ntu : s.outputAtBlank.ntu = s.ntu := by rw [outputAtBlank_rest]
theorem outputAtBlank_staged : s.outputAtBlank.ilg.staged = s.ilg.staged := congrArg (·.ilg.staged) (outputAtBlank_rest s)
theorem outputAtBlank_active : s.outputAtBlank.ilg.active = s.ilg.active := congrArg (·.ilg.active) (outputAtBlank_rest s)
theorem outputAtBlank_request : s.outputAtBlank.ilg.interleaveRequest = s.ilg.interleaveRequest :=
  congrArg (·.ilg.interleaveRequest) (outputAtBlank_rest s)

theorem outputAtBlank_count {c : Counter} (hp : c ≠ .illumPulsesCut) (he : c ≠ .illumDarkEntries) :
    s.outputAtBlank.count c = s.count c := by
  unfold State.outputAtBlank
  split
  · rfl
  · exact judgeDark_count s hp he

/-- R120: with no dark cause the output is EMITTING from the blank start on. -/
theorem outputAtBlank_emits (h : ∀ x, s.causeHolds x = false) :
    s.outputAtBlank.ilg.output = .emitting ∧ s.outputAtBlank.ilg.periodStart = some s.lt := by
  have clear : s.darkCauses.isEmpty = true := List.isEmpty_iff.2 (List.filter_eq_nil_iff.2 fun x _ => by rw [h x]; simp)
  rw [State.outputAtBlank, if_pos clear]
  exact ⟨rfl, rfl⟩

/-- R118, R120: under a dark cause the output is DARK. -/
theorem outputAtBlank_dark {x : DarkCause} (h : s.causeHolds x = true) : s.outputAtBlank.ilg.output = .dark := by
  have holds : ¬ s.darkCauses.isEmpty = true := fun clear => by
    rw [List.isEmpty_iff, State.darkCauses, List.filter_eq_nil_iff] at clear
    exact clear x (by cases x <;> decide) h
  rw [State.outputAtBlank, if_neg holds]
  exact judgeDark_dark h

end

/-! ### What the selection and the late shift leave alone -/

/-- The counters that a selection and a late shift may move (R85, R86, R97, R102, R188). -/
def scanCounters : List Counter :=
  [.framesShown, .framesDropped, .frameRepeats] ++ CounterGroup.shift.members ++ CounterGroup.notice.members

/-- `t` is `s` after a step of a selection: slots, shift records, what is scanned, and reports. -/
structure ScanStep (s t : State) : Prop where
  lt : t.lt = s.lt
  msu : t.msu = s.msu
  oin : t.oin = s.oin
  aud : t.aud = s.aud
  pmg : t.pmg = s.pmg
  ilg : t.ilg = s.ilg
  profile : t.fst.profile = s.fst.profile
  newest : t.fst.newest = s.fst.newest
  schedule : t.sou.schedule = s.sou.schedule
  lastBlank : t.sou.lastBlank = s.sou.lastBlank
  raised : ∀ c, s.ntu.pending.has c = true → t.ntu.pending.has c = true
  counts : ∀ c ∉ scanCounters, t.count c = s.count c

namespace ScanStep

theorem trans {s t u : State} (h : ScanStep s t) (g : ScanStep t u) : ScanStep s u where
  lt := g.lt.trans h.lt
  msu := g.msu.trans h.msu
  oin := g.oin.trans h.oin
  aud := g.aud.trans h.aud
  pmg := g.pmg.trans h.pmg
  ilg := g.ilg.trans h.ilg
  profile := g.profile.trans h.profile
  newest := g.newest.trans h.newest
  schedule := g.schedule.trans h.schedule
  lastBlank := g.lastBlank.trans h.lastBlank
  raised c := g.raised c ∘ h.raised c
  counts c hc := (g.counts c hc).trans (h.counts c hc)

variable (s : State)

theorem refl : ScanStep s s := ⟨rfl, rfl, rfl, rfl, rfl, rfl, rfl, rfl, rfl, rfl, fun _ => id, fun _ _ => rfl⟩

theorem modSlots (f : Slots → Slots) : ScanStep s (s.modSlots f) :=
  ⟨rfl, rfl, rfl, rfl, rfl, rfl, rfl, rfl, rfl, rfl, fun _ => id, fun _ _ => rfl⟩

theorem modSou (f : Sou → Sou) (hs : (f s.sou).schedule = s.sou.schedule) (hl : (f s.sou).lastBlank = s.sou.lastBlank) :
    ScanStep s (s.modSou f) :=
  ⟨rfl, rfl, rfl, rfl, rfl, rfl, rfl, rfl, hs, hl, fun _ => id, fun _ _ => rfl⟩

theorem addCount (c : Counter) (n : Nat) (h : c ∈ scanCounters) : ScanStep s (s.addCount c n) :=
  ⟨rfl, rfl, rfl, rfl, rfl, rfl, rfl, rfl, rfl, rfl, fun _ => id,
    fun d hd => by rw [count_addCount, if_neg (by rintro rfl; exact hd h)]⟩

theorem bump (c : Counter) (h : c ∈ scanCounters) : ScanStep s (s.bump c) := addCount s c 1 h

theorem raise (c : Condition) : ScanStep s (s.raise c) where
  lt := State.raise_lt s c
  msu := State.raise_msu s c
  oin := State.raise_oin s c
  aud := State.raise_aud s c
  pmg := State.raise_pmg s c
  ilg := State.raise_ilg s c
  profile := by rw [State.raise_fst]
  newest := by rw [State.raise_fst]
  schedule := by rw [State.raise_sou]
  lastBlank := by rw [State.raise_sou]
  raised d hd := by rw [raise_pending, Masks.has_put, hd, Bool.or_true]
  counts d hd := State.raise_count s c d (by rintro rfl; exact hd (by decide)) (by rintro rfl; exact hd (by decide))

theorem dropFrames (n : Nat) : ScanStep s (s.dropFrames n) := by
  unfold State.dropFrames
  split
  · exact refl s
  · exact (addCount s _ _ (by decide)).trans (raise _ _)

theorem lateShift : ScanStep s s.lateShift := by
  unfold State.lateShift
  split
  · exact refl s
  next u _ =>
    have zeroed (b : ShiftBasis) : ScanStep s (s.countZeroed b) := by
      cases b with
      | unposed | stale => exact bump s _ (by decide)
      | none | override | history => exact refl s
    have counted := (((zeroed (s.shiftBasis u)).trans (modSou _ (fun x =>
      { x with left := s.eyeShift .left u, right := s.eyeShift .right u }) rfl rfl)).trans
      (addCount _ .leadsClamped (howMany (s.eyeShift .left u).leadClamped (s.eyeShift .right u).leadClamped) (by decide))).trans
      (addCount _ .shiftsClamped (howMany (s.eyeShift .left u).clamped (s.eyeShift .right u).clamped) (by decide))
    dsimp only
    split
    · exact (counted.trans (modSlots _ _)).trans (raise _ _)
    · exact counted

end ScanStep

/-! ### The late shift of the SHOWING slot (R95, R102, R104) -/

/-- R104: a change of a slot's record that notes no more than whether a shift was clamped. -/
def NotesClamped (f : Slot → Slot) : Prop := ∀ u, f u = { u with clamped := (f u).clamped }

section
variable (s : State)

theorem lateShift_slots : ∃ f, NotesClamped f ∧ s.lateShift.fst.slots = s.fst.slots.change .showing f := by
  have same : s.fst.slots = s.fst.slots.change .showing id := by simp [Slots.change, Slots.map]
  have zeroed (b : ShiftBasis) : (s.countZeroed b).fst = s.fst := by cases b <;> rfl
  unfold State.lateShift
  split
  · exact ⟨id, fun _ => rfl, same⟩
  · dsimp only
    split
    · refine ⟨fun u => { u with clamped := true }, fun _ => rfl, ?_⟩
      rw [State.raise_fst]
      exact congrArg (fun x : Fst => x.slots.change .showing fun u => { u with clamped := true }) (zeroed _)
    · exact ⟨id, fun _ => rfl, (congrArg Fst.slots (zeroed _)).trans same⟩

theorem lateShift_sou {u : Slot} (h : s.fst.slots.find .showing = some u) :
    s.lateShift.sou = { s.sou with left := s.eyeShift .left u, right := s.eyeShift .right u } := by
  have zeroed (b : ShiftBasis) : (s.countZeroed b).sou = s.sou := by cases b <;> rfl
  rw [State.lateShift, h]
  dsimp only
  split
  · rw [State.raise_sou]
    exact congrArg (fun x : Sou => { x with left := s.eyeShift .left u, right := s.eyeShift .right u }) (zeroed _)
  · exact congrArg (fun x : Sou => { x with left := s.eyeShift .left u, right := s.eyeShift .right u }) (zeroed _)

theorem lateShift_scans : s.lateShift.sou.scanOut = s.sou.scanOut ∧ s.lateShift.sou.scan = s.sou.scan := by
  cases h : s.fst.slots.find .showing with
  | none => rw [State.lateShift, h]; exact ⟨rfl, rfl⟩
  | some u => rw [lateShift_sou s h]; exact ⟨rfl, rfl⟩

theorem lateShift_count {c : Counter} (hs : c ∉ CounterGroup.shift.members) (hn : c ∉ CounterGroup.notice.members) :
    s.lateShift.count c = s.count c := by
  have other {d : Counter} (hd : d ∈ CounterGroup.shift.members) : c ≠ d := by rintro rfl; exact hs hd
  have issued : c ≠ .noticesIssued := by rintro rfl; exact hn (by decide)
  have coalesced : c ≠ .noticesCoalesced := by rintro rfl; exact hn (by decide)
  have zeroed (b : ShiftBasis) : (s.countZeroed b).count c = s.count c := by
    cases b with
    | unposed | stale => exact (count_bump _ _ _).trans (if_neg (other (by decide)))
    | none | override | history => rfl
  unfold State.lateShift
  split
  · rfl
  · dsimp only
    split
    · rw [State.raise_count _ _ _ issued coalesced]
      exact ((count_addCount _ _ _ _).trans (if_neg (other (by decide)))).trans
        (((count_addCount _ _ _ _).trans (if_neg (other (by decide)))).trans (zeroed _))
    · exact ((count_addCount _ _ _ _).trans (if_neg (other (by decide)))).trans
        (((count_addCount _ _ _ _).trans (if_neg (other (by decide)))).trans (zeroed _))

end

section
variable {f : Slot → Slot} (h : NotesClamped f) (q : Slots)
include h

theorem NotesClamped.state (u : Slot) : (f u).state = u.state := by rw [h u]

theorem NotesClamped.count (x : SlotState) : (q.change .showing f).count x = q.count x :=
  Slots.count_change_same _ _ _ fun t _ => h.state t

theorem NotesClamped.mem {u : Slot} (hu : u ∈ q.toList) :
    ∃ v ∈ (q.change .showing f).toList, v = { u with clamped := v.clamped } := by
  by_cases showing : u.state = .showing
  · exact ⟨f u, Slots.mem_change_of_eq _ _ _ hu showing, h u⟩
  · exact ⟨u, Slots.mem_change_of_ne _ _ _ hu showing, rfl⟩

/-- The SHOWING slot that is found is the one that was found before, with its note. -/
theorem NotesClamped.find {v : Slot} (hv : (q.change .showing f).find .showing = some v) :
    ∃ u, q.find .showing = some u ∧ v = { u with clamped := v.clamped } := by
  have state (t : Slot) : (if t.state = .showing then f t else t).state = t.state := by
    split
    · exact h.state t
    · rfl
  rw [Slots.find, Slots.change, Slots.toList_map, List.find?_map, Option.map_eq_some_iff] at hv
  obtain ⟨u, found, rfl⟩ := hv
  have same : ((fun t : Slot => t.state == SlotState.showing) ∘ fun t => if t.state = .showing then f t else t) =
      fun t => t.state == SlotState.showing := funext fun t => by rw [Function.comp_apply, state]
  rw [same] at found
  refine ⟨u, found, ?_⟩
  rw [if_pos (Slots.find_some found).2]
  exact h u

end

/-! ### The frame selected (R85 to R88) -/

section
variable (s : State)

/-- R85, R88: slot `k` is shown. -/
def State.shown (s : State) (k : Nat) : State :=
  (((s.modSlots fun q => q.selected k).bump .framesShown).dropFrames (s.fst.slots.count .ready - 1)).beginScan

/-- R86, R88: the SHOWING slot is shown again. -/
def State.shownAgain (s : State) : State := (((s.modSlots Slots.repeated).bump .frameRepeats).raise .repeat).beginScan

theorem selectFrame_shown {s : State} {k : Nat} (h : s.fst.slots.newestReady = some k) : s.selectFrame = (s.shown k).lateShift := by
  rw [State.selectFrame, h]
  rfl

theorem selectFrame_again {s : State} (h : s.fst.slots.count .ready = 0) (g : 0 < s.fst.slots.count .showing) :
    s.selectFrame = s.shownAgain.lateShift := by
  rw [State.selectFrame, Slots.newestReady_none.2 h]
  exact if_pos g

theorem selectFrame_idle {s : State} (h : s.fst.slots.count .ready = 0) (g : s.fst.slots.count .showing = 0) :
    s.selectFrame = s.scanIdle := by
  rw [State.selectFrame, Slots.newestReady_none.2 h]
  exact if_neg (by rw [g]; exact Nat.lt_irrefl 0)

theorem ScanStep.beginScan : ScanStep s s.beginScan := .modSou s _ rfl rfl

theorem ScanStep.shown (k : Nat) : ScanStep s (s.shown k) :=
  (((ScanStep.modSlots s _).trans (.bump _ .framesShown (by decide))).trans (.dropFrames _ _)).trans (.beginScan _)

theorem ScanStep.shownAgain : ScanStep s s.shownAgain :=
  (((ScanStep.modSlots s _).trans (.bump _ .frameRepeats (by decide))).trans (.raise _ _)).trans (.beginScan _)

/-- R85 to R87: a selection shows a READY slot, or the SHOWING one again, or nothing. -/
theorem selectFrame_cases : (∃ k, s.fst.slots.newestReady = some k ∧ s.selectFrame = (s.shown k).lateShift) ∨
    (0 < s.fst.slots.count .showing ∧ s.selectFrame = s.shownAgain.lateShift) ∨
    (s.fst.slots.count .showing = 0 ∧ s.selectFrame = s.scanIdle) := by
  cases h : s.fst.slots.newestReady with
  | some k => exact .inl ⟨k, rfl, selectFrame_shown h⟩
  | none =>
    have ready := Slots.newestReady_none.1 h
    obtain idle | showing := Nat.eq_zero_or_pos (s.fst.slots.count .showing)
    · exact .inr (.inr ⟨idle, selectFrame_idle ready idle⟩)
    · exact .inr (.inl ⟨showing, selectFrame_again ready showing⟩)

theorem ScanStep.selectFrame : ScanStep s s.selectFrame := by
  obtain ⟨k, _, e⟩ | ⟨_, e⟩ | ⟨_, e⟩ := selectFrame_cases s <;> rw [e]
  · exact (ScanStep.shown s k).trans (.lateShift _)
  · exact (ScanStep.shownAgain s).trans (.lateShift _)
  · exact .modSou s _ rfl rfl

theorem dropFrames_fst (n : Nat) : (s.dropFrames n).fst = s.fst := by
  unfold State.dropFrames
  split
  · rfl
  · rw [State.raise_fst]
    rfl

theorem dropFrames_count {c : Counter} (n : Nat) (h : c ≠ .framesDropped) (hi : c ≠ .noticesIssued) (hc : c ≠ .noticesCoalesced) :
    (s.dropFrames n).count c = s.count c := by
  unfold State.dropFrames
  split
  · rfl
  · rw [State.raise_count _ _ _ hi hc, count_addCount, if_neg h]

theorem dropFrames_none : s.dropFrames 0 = s := if_pos rfl

/-- R85: READY slots freed unshown are counted, and reported. -/
theorem dropFrames_some {n : Nat} (h : 0 < n) :
    (s.dropFrames n).count .framesDropped = min 4294967295 (s.count .framesDropped + n) ∧
      (s.dropFrames n).ntu.pending.has .frameDropped = true := by
  rw [State.dropFrames, if_neg h.ne', State.raise_count _ _ _ Counter.noConfusion Counter.noConfusion, count_addCount, if_pos rfl,
    raise_pending, Masks.has_put]
  exact ⟨rfl, rfl⟩

theorem shown_slots (k : Nat) : (s.shown k).fst.slots = s.fst.slots.selected k := by
  rw [State.shown, State.beginScan, State.modSou_fst, dropFrames_fst]
  rfl

theorem shownAgain_slots : s.shownAgain.fst.slots = s.fst.slots.repeated := by
  rw [State.shownAgain, State.beginScan, State.modSou_fst, State.raise_fst]
  rfl

theorem newScan_congr {s t : State} (h : ScanStep s t) : t.newScan = s.newScan := by
  simp only [State.newScan, h.lt, h.profile]

theorem shown_scans (k : Nat) : (s.shown k).sou.scanOut = .scanning ∧ (s.shown k).sou.scan = some s.newScan := by
  have before := ((ScanStep.modSlots s fun q => q.selected k).trans (.bump _ .framesShown (by decide))).trans
    (.dropFrames _ (s.fst.slots.count .ready - 1))
  exact ⟨rfl, congrArg some (newScan_congr before)⟩

theorem shownAgain_scans : s.shownAgain.sou.scanOut = .scanning ∧ s.shownAgain.sou.scan = some s.newScan := by
  have before := ((ScanStep.modSlots s Slots.repeated).trans (.bump _ .frameRepeats (by decide))).trans (.raise _ .repeat)
  exact ⟨rfl, congrArg some (newScan_congr before)⟩

end

/-! ### The blank start (R83, R84, R113) -/

/-- R84, R113: the blank start has been taken and the pulses copied. -/
def State.blankTaken (s : State) : State := s.takeBlank.copyAtBlank

section
variable {s : State} {c : Schedule} (hc : s.sou.schedule = some c)
include hc

theorem exec_blankStart (due : c.next ≤ s.lt) (on : s.sou.scanOut ≠ .off) :
    exec .blankStart s = .next s.blankTaken.selectFrame.outputAtBlank := by
  have taken : s.blankDue = true := by
    rw [State.blankDue, hc]
    simp [on, due]
  exact congrArg Host.Outcome.next (if_pos taken)

theorem blankTaken_schedule : s.blankTaken.sou.schedule = some ⟨c.next + c.period, c.period⟩ := by
  show s.sou.schedule.map (fun c => { c with next := c.next + c.period }) = _
  rw [hc]
  rfl

end

theorem exec_blankStart_off {s : State} (off : s.sou.scanOut = .off) : exec .blankStart s = .next s := by
  have idle : s.blankDue = false := by
    rw [State.blankDue, off]
    split <;> rfl
  exact congrArg Host.Outcome.next (if_neg (by rw [idle]; exact Bool.false_ne_true))

theorem blankTaken_count (s : State) {c : Counter} (hb : c ≠ .blankStarts) (hg : c ≠ .illumGuardCuts) :
    s.blankTaken.count c = s.count c :=
  (count_addCount _ _ _ _).trans ((if_neg hg).trans ((count_bump _ _ _).trans (if_neg hb)))

theorem blankTaken_blankStarts (s : State) : s.blankTaken.count .blankStarts = oneMore (s.count .blankStarts) :=
  (count_addCount _ _ _ _).trans ((if_neg Counter.noConfusion).trans ((count_bump _ _ _).trans (if_pos rfl)))

end Sys2Proof.Machine
end

section
/-! The blank start: what is copied (O53), the frame that it shows (O50), and the late shift of each eye (O51). -/

namespace Sys2Proof.Machine

/-! ### STAGE_PULSES (R112) -/

/-- R112: the payload of a STAGE_PULSES that is taken. -/
def PulsesInRange (q : List Byte) : Prop :=
  q.length = 9 ∧ natAt q 0 2 ≤ 16167 ∧ natAt q 2 2 ≤ 16167 ∧ natAt q 4 2 ≤ 16167 ∧ natAt q 6 2 ≤ 16167 ∧ natAt q 8 1 ≤ 1

theorem natAt_one {q : List Byte} {off : Nat} (h : off < q.length) : natAt q off 1 = (byteAt q off).toNat := by
  rw [natAt, slice, byteAt, List.drop_eq_getElem_cons h, List.take_succ_cons, List.take_zero, List.getD_eq_getElem _ _ h]
  simp [leNat]

theorem parseBool_le_one {b : Byte} (h : b.toNat ≤ 1) : parseBool b = some (b.toNat == 1) := by
  unfold parseBool
  obtain e | e : b.toNat = 0 ∨ b.toNat = 1 := by omega
  · rw [if_pos e, e]
    rfl
  · rw [if_neg (by omega), if_pos e, e]
    rfl

theorem parseBool_above {b : Byte} (h : ¬ b.toNat ≤ 1) : parseBool b = none := by
  rw [parseBool, if_neg (by omega), if_neg (by omega)]

theorem parsePulses_good {q : List Byte} (h : PulsesInRange q) :
    parsePulses q = some (⟨⟨natAt q 0 2, natAt q 2 2⟩, ⟨natAt q 4 2, natAt q 6 2⟩⟩, natAt q 8 1 == 1) := by
  obtain ⟨len, lo, lw, ro, rw_, inter⟩ := h
  rw [natAt_one (by omega)] at inter ⊢
  rw [parsePulses, parseBool_le_one inter]
  exact if_pos ⟨len, lo, lw, ro, rw_⟩

theorem parsePulses_bad {q : List Byte} (h : ¬ PulsesInRange q) : parsePulses q = none := by
  unfold parsePulses
  by_cases inter : (byteAt q 8).toNat ≤ 1
  · rw [parseBool_le_one inter]
    refine if_neg fun ⟨len, lo, lw, ro, rw_⟩ => h ⟨len, lo, lw, ro, rw_, ?_⟩
    rw [natAt_one (by omega)]
    exact inter
  · rw [parseBool_above inter]

/-- Settles O53: the request by its role and its payload, the copy of a blank start, and scan-out OFF. -/
theorem stagedSetIsReplacedWhole : Obligations.StagedSetIsReplacedWhole := by
  refine ⟨fun s p tag q turn => ?_, fun s c hc due on => ?_, fun s => exec_blankStart_off⟩
  · refine ⟨fun role good => answers_of_directed ⟨turn, role⟩ rfl ?_, fun role bad => answers_of_directed ⟨turn, role⟩ rfl ?_,
      fun role => ⟨_, congrArg Host.Outcome.next (request_refused s _ p tag q _ turn rfl role),
        reply_replied s .stagePulses p tag .notController [] .reply MessageRole.noConfusion⟩⟩
    · rw [stage, parsePulses_good good]
      rfl
    · rw [stage, parsePulses_bad bad]
      rfl
  · have selected := ScanStep.selectFrame s.blankTaken
    refine ⟨_, exec_blankStart hc due on, ?_, ?_, ?_⟩
    · rw [outputAtBlank_staged, selected.ilg]
      rfl
    · rw [outputAtBlank_request, selected.ilg]
      rfl
    · rw [outputAtBlank_active, selected.ilg]
      rfl

/-! ### The rows that are sent (R88, R89, R103) -/

section
variable {t : State} {c : Scan} (hc : t.sou.scan = some c)
include hc

theorem sentRows_blank (h : ¬ c.start + c.blank ≤ t.lt) (x : Side) : t.sentRows x = [] := by
  rw [State.sentRows, hc]
  exact if_neg (by rw [Scan.sends, decide_eq_true_eq]; exact h)

theorem sentRows_after (h : c.start + c.blank ≤ t.lt) (x : Side) : t.sentRows x = (List.range c.rows).map (t.sentRow x c) := by
  rw [State.sentRows, hc]
  exact if_pos (decide_eq_true h)

/-- R103: a pixel of the scan comes from the source pixel moved by the applied shift, or is of the border. -/
theorem outputPixel_sent {u : Slot} (hu : t.fst.slots.find .showing = some u) (h : c.start + c.blank ≤ t.lt) {k y : Nat}
    (hk : k < c.columns) (hy : y < c.rows) (x : Side) : t.outputPixel x k y =
      let sx : Int := k + (t.sou.shift x).applied.h
      let sy : Int := y - (t.sou.shift x).applied.v
      if 0 ≤ sx ∧ sx < c.columns ∧ 0 ≤ sy ∧ sy < c.rows then pixelAt (u.eye x) sx.toNat sy.toNat else some c.border := by
  have sent : (c.sends t.lt && decide (k < c.columns) && decide (y < c.rows)) = true := by
    rw [Scan.sends, decide_eq_true h, decide_eq_true hk, decide_eq_true hy]
    rfl
  rw [State.outputPixel, hc, hu]
  exact if_pos sent

end

theorem pixelAt_eq (e : EyeRows) (column row : Nat) : pixelAt e column row = (rowOf e row).map fun b =>
    ⟨byteAt b (3 * column), byteAt b (3 * column + 1), byteAt b (3 * column + 2)⟩ := by
  rw [pixelAt, rowOf, Option.map_map]
  rfl

/-! ### The late shift of an eye (R96 to R102) -/

section
variable (s : State) (x : Side) (u : Slot)

/-- R96, R104: what the shift record of an eye says whatever its basis. -/
def State.shiftBase (b : ShiftBasis) : ShiftRecord :=
  { ShiftRecord.cleared with basis := b, blankStart := some s.lt, display := some (displayInstant s.lt (s.ilg.active.side x)) }

/-- R100: the yaw and pitch with which a frame was rendered. -/
def Slot.rendered : YawPitch := ⟨(u.pose.getD .zero).yaw, (u.pose.getD .zero).pitch⟩

variable {s u}

theorem poseIsStale_iff : s.poseIsStale = true ↔ ∀ e, s.oin.ring.getLast? = some e → e.time + 50000 < s.lt := by
  unfold State.poseIsStale
  cases s.oin.ring.getLast? with
  | none => simp
  | some e => exact decide_eq_true_iff.trans ⟨fun old d hd => Option.some.inj hd ▸ old, fun old => old e rfl⟩

/-- R96, R104: whatever its basis, a record holds the blank start and the display instant. -/
theorem eyeShift_base (s : State) (x : Side) (u : Slot) :
    (s.eyeShift x u).blankStart = some s.lt ∧ (s.eyeShift x u).display = some (displayInstant s.lt (s.ilg.active.side x)) := by
  unfold State.eyeShift
  dsimp only
  split <;> exact ⟨rfl, rfl⟩

theorem eyeShift_unposed (h : u.unposed = true) : s.eyeShift x u = s.shiftBase x .unposed := by
  have basis : s.shiftBasis u = .unposed := by rw [State.shiftBasis, if_pos h]
  rw [State.eyeShift, basis]
  rfl

theorem eyeShift_override {a : Angles} (h : u.unposed = false) (ha : s.oin.pose = some a) :
    s.eyeShift x u = (s.shiftBase x .override).from s.fst.profile u.rendered ⟨a.yaw, a.pitch⟩ := by
  have basis : s.shiftBasis u = .override := by simp [State.shiftBasis, h, ha]
  rw [State.eyeShift, basis, ha]
  rfl

theorem eyeShift_stale (h : u.unposed = false) (ha : s.oin.pose = none) (hs : s.poseIsStale = true) :
    s.eyeShift x u = s.shiftBase x .stale := by
  have basis : s.shiftBasis u = .stale := by simp [State.shiftBasis, h, ha, hs]
  rw [State.eyeShift, basis]
  rfl

theorem eyeShift_history {e : HistoryEntry} (h : u.unposed = false) (ha : s.oin.pose = none)
    (he : s.oin.ring.getLast? = some e) (hs : s.lt ≤ e.time + 50000) :
    let raw : Int := (displayInstant s.lt (s.ilg.active.side x) : Int) - e.time
    let lead := clampInt 0 25000 raw
    s.eyeShift x u =
      ({ s.shiftBase x .history with lead := some lead, leadClamped := decide ((25000 : Int) < raw) } : ShiftRecord).from
        s.fst.profile u.rendered ⟨predict e.angles.yaw e.rates.yaw lead, predict e.angles.pitch e.rates.pitch lead⟩ := by
  have fresh : s.poseIsStale = false := by
    rw [State.poseIsStale, he]
    exact decide_eq_false (Nat.not_lt.2 hs)
  have basis : s.shiftBasis u = .history := by simp [State.shiftBasis, h, ha, fresh]
  dsimp only
  rw [State.eyeShift, basis, ha, he]
  rfl

end

/-- R102: a value stays at the clamp exactly when it lies within the limit. -/
theorem clampShift_eq_iff (limit : Nat) (v : Int) : clampShift limit v = v ↔ v.natAbs ≤ limit := by
  unfold clampShift clampInt
  split_ifs <;> omega

/-- R102: a shift is clamped exactly when one of its two values is changed. -/
theorem from_clamped (base : ShiftRecord) (f : Profile) (render predicted : YawPitch) :
    (base.from f render predicted).clamped = true ↔
      (base.from f render predicted).applied ≠ (base.from f render predicted).unclamped := by
  have applied (v w : Int) : (⟨clampShift f.limit v, clampShift f.limit w⟩ : Shift) = ⟨v, w⟩ ↔
      v.natAbs ≤ f.limit ∧ w.natAbs ≤ f.limit := by
    rw [Shift.mk.injEq, clampShift_eq_iff, clampShift_eq_iff]
  unfold ShiftRecord.from
  dsimp only
  rw [Ne, applied, Bool.or_eq_true, decide_eq_true_eq, decide_eq_true_eq]
  omega

/-- R100 to R102: what a record says of a predicted yaw `y` and pitch `p`. -/
def ShiftRecord.Shifted (r : ShiftRecord) (f : Profile) (render : Angles) (y p : Int) : Prop :=
  r.predicted = some ⟨y, p⟩ ∧
    r.error = some ⟨wrapAngle (y - render.yaw), wrapAngle (p - render.pitch)⟩ ∧
    r.unclamped = ⟨roundDiv (wrapAngle (y - render.yaw) * f.ppdH) 65536, roundDiv (wrapAngle (p - render.pitch) * f.ppdV) 65536⟩ ∧
    r.applied = ⟨clampInt (-f.limit) f.limit r.unclamped.h, clampInt (-f.limit) f.limit r.unclamped.v⟩ ∧
    (r.clamped = true ↔ r.applied ≠ r.unclamped)

theorem from_shifted (base : ShiftRecord) (f : Profile) (render : Angles) (y p : Int) :
    (base.from f ⟨render.yaw, render.pitch⟩ ⟨y, p⟩).Shifted f render y p :=
  ⟨rfl, rfl, rfl, rfl, from_clamped base f _ _⟩

/-! ### The shift of the frame shown (R95) -/

section
variable {s : State}

/-- R95: the computation reads time, pulses, orientation and profile, and of the frame its pose. -/
theorem eyeShift_congr {t : State} (h : ScanStep s t) (x : Side) (u v : Slot) (hv : v = { u with clamped := v.clamped }) :
    t.eyeShift x u = s.eyeShift x v := by
  rw [hv]
  simp only [State.eyeShift, State.shiftBasis, State.poseIsStale, h.lt, h.ilg, h.oin, h.profile]
  rfl

theorem lateShift_shift {t : State} (h : ScanStep s t) {v : Slot} (hv : t.lateShift.fst.slots.find .showing = some v) (x : Side) :
    t.lateShift.sou.shift x = s.eyeShift x v := by
  obtain ⟨f, notes, slots⟩ := lateShift_slots t
  rw [slots] at hv
  obtain ⟨u, found, e⟩ := notes.find _ hv
  rw [lateShift_sou t found, ← eyeShift_congr h x u v e]
  cases x <;> rfl

/-- R88, R95: the frame shown is scanned from this blank start, with the shift computed from it. -/
theorem selectFrame_shift {u : Slot} (hu : s.selectFrame.fst.slots.find .showing = some u) :
    s.selectFrame.sou.scan = some s.newScan ∧ ∀ x, s.selectFrame.sou.shift x = s.eyeShift x u := by
  obtain ⟨k, _, e⟩ | ⟨_, e⟩ | ⟨none, e⟩ := selectFrame_cases s
  · rw [e] at hu ⊢
    exact ⟨(lateShift_scans _).2.trans (shown_scans s k).2, lateShift_shift (.shown s k) hu⟩
  · rw [e] at hu ⊢
    exact ⟨(lateShift_scans _).2.trans (shownAgain_scans s).2, lateShift_shift (.shownAgain s) hu⟩
  · rw [e] at hu
    exact absurd (hu.symm.trans (Slots.find_eq_none.2 none)) (by simp)

end

/-- Settles O51: the record of each eye by its basis, and a pixel by where its source lies. -/
theorem lateShiftIsFormed : Obligations.LateShiftIsFormed := by
  intro s c hc due on
  refine ⟨_, exec_blankStart hc due on, fun x u hu => ?_⟩
  rw [outputAtBlank_fst] at hu
  obtain ⟨scan, shift⟩ := selectFrame_shift hu
  intro r pulse td render stale shifted
  have hr : r = s.blankTaken.eyeShift x u := (congrArg (Sou.shift · x) (outputAtBlank_sou _)).trans (shift x)
  have htd : td = displayInstant s.lt (s.blankTaken.ilg.active.side x) :=
    congrArg (displayInstant s.lt ·) (congrArg (PulseSet.side · x)
      ((outputAtBlank_active _).trans (congrArg Ilg.active (ScanStep.selectFrame s.blankTaken).ilg)))
  clear_value r td
  subst htd
  obtain ⟨start, display⟩ := eyeShift_base s.blankTaken x u
  rw [← hr] at start display
  refine ⟨start, display, fun free => ?_, fun posed a ha => ?_, fun posed none old => ?_, fun posed none e he fresh => ?_,
    fun lt k y hlt hk hy => ?_⟩
  · obtain rfl := hr.trans (eyeShift_unposed x free)
    exact ⟨rfl, rfl⟩
  · obtain rfl := hr.trans (eyeShift_override x posed ha)
    exact ⟨rfl, rfl, from_shifted ..⟩
  · obtain rfl := hr.trans (eyeShift_stale x posed none (poseIsStale_iff.2 old))
    exact ⟨rfl, rfl⟩
  · obtain rfl := hr.trans (eyeShift_history x posed none he fresh)
    exact ⟨rfl, rfl, decide_eq_true_iff, from_shifted ..⟩
  · have hu' := (congrArg (fun f : Fst => f.slots.find .showing) (outputAtBlank_fst _)).trans hu
    have hc' := (congrArg Sou.scan (outputAtBlank_sou _)).trans scan
    have same : s.blankTaken.selectFrame.outputAtBlank.sou.shift x = r :=
      (congrArg (Sou.shift · x) (outputAtBlank_sou _)).trans ((shift x).trans hr.symm)
    have sent := outputPixel_sent (t := { s.blankTaken.selectFrame.outputAtBlank with lt := lt }) hc' hu' hlt hk hy x
    rw [same] at sent
    exact ⟨fun inside => sent.trans ((if_pos inside).trans (pixelAt_eq ..)), fun outside => sent.trans (if_neg outside)⟩

end Sys2Proof.Machine
end

section
/-! The frame that a blank start shows (O50). -/

namespace Sys2Proof.Machine

section
variable (s : State)

/-- R85: the frames shown, the READY frames dropped and the report of a selection, after the late shift. -/
theorem shown_counts (k : Nat) : (s.shown k).lateShift.count .framesShown = oneMore (s.count .framesShown) ∧
    (0 < s.fst.slots.count .ready - 1 →
      (s.shown k).lateShift.count .framesDropped = min 4294967295 (s.count .framesDropped + (s.fst.slots.count .ready - 1)) ∧
        (s.shown k).lateShift.ntu.pending.has .frameDropped = true) ∧
    (s.fst.slots.count .ready - 1 = 0 → (s.shown k).lateShift.count .framesDropped = s.count .framesDropped) := by
  have dropped : (s.shown k).lateShift.count .framesDropped = (s.shown k).count .framesDropped :=
    lateShift_count _ (by decide) (by decide)
  have before : ((s.modSlots fun q => q.selected k).bump .framesShown).count .framesDropped = s.count .framesDropped :=
    (count_bump _ _ _).trans (if_neg Counter.noConfusion)
  refine ⟨?_, fun some => ?_, fun none => dropped.trans ?_⟩
  · exact (lateShift_count _ (by decide) (by decide)).trans <|
      (dropFrames_count _ _ Counter.noConfusion Counter.noConfusion Counter.noConfusion).trans <|
        (count_bump _ _ _).trans (if_pos rfl)
  · obtain ⟨count, pending⟩ := dropFrames_some ((s.modSlots fun q => q.selected k).bump .framesShown) some
    exact ⟨dropped.trans (count.trans (by rw [before])), (ScanStep.lateShift _).raised _ pending⟩
  · rw [State.shown, none, dropFrames_none]
    exact before

/-- R86: a repeat is counted and reported. -/
theorem shownAgain_counts : s.shownAgain.lateShift.count .frameRepeats = oneMore (s.count .frameRepeats) ∧
    s.shownAgain.lateShift.ntu.pending.has .repeat = true := by
  constructor
  · exact (lateShift_count _ (by decide) (by decide)).trans <|
      (State.raise_count _ _ _ Counter.noConfusion Counter.noConfusion).trans <| (count_bump _ _ _).trans (if_pos rfl)
  · refine (ScanStep.lateShift _).raised _ (((ScanStep.beginScan _).raised _) ?_)
    rw [raise_pending, Masks.has_put]
    rfl

/-- R75, R85 to R87: a selection leaves as many FILLING slots as there were. -/
theorem selectFrame_filling : s.selectFrame.fst.slots.count .filling = s.fst.slots.count .filling := by
  have shifted (t : State) : t.lateShift.fst.slots.count .filling = t.fst.slots.count .filling := by
    obtain ⟨f, notes, slots⟩ := lateShift_slots t
    rw [slots, notes.count]
  obtain ⟨k, newest, e⟩ | ⟨_, e⟩ | ⟨_, e⟩ := selectFrame_cases s <;> rw [e]
  · obtain ⟨u, hk, ready⟩ := Slots.newestReady_some newest
    rw [shifted, shown_slots, Slots.count_selected_filling hk ready]
  · rw [shifted, shownAgain_slots]
    exact Slots.count_change_same _ _ _ fun _ _ => rfl
  · rfl

end

/-- R85, R88: the slots after the selection of slot `k`: only it is SHOWING, none READY, and its frame is as it was. -/
theorem shown_slot {s : State} {k : Nat} {u : Slot} (hk : (k, u) ∈ s.fst.slots.numbered) :
    (s.shown k).lateShift.fst.slots.count .showing = 1 ∧ (s.shown k).lateShift.fst.slots.count .ready = 0 ∧
      ∃ v ∈ (s.shown k).lateShift.fst.slots.toList, v = { u with state := .showing, repeats := 0, clamped := v.clamped } := by
  obtain ⟨f, notes, slots⟩ := lateShift_slots (s.shown k)
  rw [slots, shown_slots, notes.count, notes.count]
  exact ⟨Slots.count_selected_showing hk, Slots.count_selected_ready hk, notes.mem _ (Slots.mem_selected_showing hk)⟩

/-- R86: the slot shown again is as it was, with one repeat more. -/
theorem shownAgain_slot {s : State} {u : Slot} (hu : u ∈ s.fst.slots.toList) (showing : u.state = .showing) :
    ∃ v ∈ s.shownAgain.lateShift.fst.slots.toList, v = { u with repeats := min 65535 (u.repeats + 1), clamped := v.clamped } := by
  obtain ⟨f, notes, slots⟩ := lateShift_slots s.shownAgain
  rw [slots, shownAgain_slots]
  exact notes.mem _ (Slots.mem_change_of_eq _ _ _ hu showing)

/-- R118, R120: with power, rail, wear and a scan no dark cause holds. -/
theorem causeHolds_none {s : State} (level : s.pmg.level ≠ .l3) (rail : s.pmg.rails.illum = .on)
    (wear : s.msu.wear = .away → s.fst.profile.awayBlank = false) (scan : s.sou.scanOut = .scanning) (x : DarkCause) :
    s.causeHolds x = false := by
  cases x with
  | shedL3 => exact beq_false_of_ne level
  | rail => rw [State.causeHolds, rail]; rfl
  | scan => rw [State.causeHolds, scan]; rfl
  | away =>
    rw [State.causeHolds, Bool.and_eq_false_iff, beq_eq_false_iff_ne]
    exact or_iff_not_imp_left.2 fun away => wear (not_not.1 away)

/-- R88: every row of the scan, and every pixel of a row, in order. -/
theorem sentRows_getElem {t : State} {c : Scan} (hc : t.sou.scan = some c) (h : c.start + c.blank ≤ t.lt) (x : Side) :
    (t.sentRows x).length = c.rows ∧ ∀ (y : Nat) (row : List (Option Colour)), (t.sentRows x)[y]? = some row →
      row = (List.range c.columns).map fun k => t.outputPixel x k y := by
  rw [sentRows_after hc h, List.length_map, List.length_range]
  refine ⟨rfl, fun y row hy => ?_⟩
  rw [List.getElem?_map, Option.map_eq_some_iff] at hy
  obtain ⟨j, hj, rfl⟩ := hy
  obtain ⟨_, rfl⟩ := List.getElem?_eq_some_iff.1 hj
  rw [List.getElem_range]
  rfl

/-- Settles O50: what every blank start does, and the frame it shows: the newest READY one, the SHOWING one again, or none. -/
theorem blankStartSelectsAFrame : Obligations.BlankStartSelectsAFrame := by
  intro s c hc due on others
  have step := ScanStep.selectFrame s.blankTaken
  have counted {d : Counter} (hp : d ≠ .illumPulsesCut) (he : d ≠ .illumDarkEntries) :=
    outputAtBlank_count s.blankTaken.selectFrame hp he
  refine ⟨_, exec_blankStart hc due on, ?_⟩
  rw [outputAtBlank_sou, outputAtBlank_fst, outputAtBlank_oin, outputAtBlank_msu, outputAtBlank_aud, outputAtBlank_pmg,
    outputAtBlank_ntu, counted Counter.noConfusion Counter.noConfusion, counted Counter.noConfusion Counter.noConfusion,
    counted Counter.noConfusion Counter.noConfusion, counted Counter.noConfusion Counter.noConfusion]
  refine ⟨step.schedule.trans (blankTaken_schedule hc), step.lastBlank,
    (step.counts _ (by decide)).trans (blankTaken_blankStarts s), selectFrame_filling s.blankTaken, step.newest, step.profile,
    step.oin, step.msu, step.aud, step.pmg, fun u hu ready newest => ?_, fun none again => ?_, fun none idle => ?_⟩
  · obtain ⟨k, hk, number⟩ := Slots.newestReady_newest hu ready newest
    have shown : s.blankTaken.selectFrame = (s.blankTaken.shown k).lateShift := selectFrame_shown hk
    have scanning : s.blankTaken.selectFrame.sou.scanOut = .scanning := by
      rw [shown, (lateShift_scans _).1, (shown_scans _ k).1]
    have scan : s.blankTaken.selectFrame.sou.scan = some s.blankTaken.newScan := by
      rw [shown, (lateShift_scans _).2, (shown_scans _ k).2]
    have scanAtBlank := (congrArg Sou.scan (outputAtBlank_sou _)).trans scan
    obtain ⟨one, none, slot⟩ := shown_slot (s := s.blankTaken) number
    obtain ⟨frames, some, same⟩ := shown_counts s.blankTaken k
    rw [← shown] at one none slot frames some same
    rw [blankTaken_count s Counter.noConfusion Counter.noConfusion] at frames some same
    refine ⟨scanning, one, none, slot, scan, fun blank => ?_, fun lt x sends => ?_, frames, some, same, fun level rail wear => ?_⟩
    · have early : ¬ s.lt + s.fst.profile.blank ≤ s.blankTaken.selectFrame.outputAtBlank.lt := by
        rw [outputAtBlank_lt, step.lt]
        exact Nat.not_le.2 (Nat.lt_add_of_pos_right blank)
      exact ⟨sentRows_blank scanAtBlank early _, sentRows_blank scanAtBlank early _⟩
    · refine ⟨_, rfl, sentRows_getElem (c := s.blankTaken.newScan) ?_ ?_ x⟩
      · exact scan
      · exact sends
    · obtain ⟨emitting, start⟩ := outputAtBlank_emits _ (causeHolds_none (s := s.blankTaken.selectFrame) (by rw [step.pmg]; exact level)
        (by rw [step.pmg]; exact rail) (by rw [step.msu, step.profile]; exact wear) scanning)
      exact ⟨emitting, start.trans (congrArg Option.some step.lt)⟩
  · have shown : s.blankTaken.selectFrame = s.blankTaken.shownAgain.lateShift := selectFrame_again none again
    obtain ⟨repeats, pending⟩ := shownAgain_counts s.blankTaken
    rw [shown, (lateShift_scans _).1, (shownAgain_scans _).1, repeats, blankTaken_count s Counter.noConfusion Counter.noConfusion]
    exact ⟨rfl, rfl, pending, fun u hu showing => shownAgain_slot (s := s.blankTaken) hu showing⟩
  · have dark : s.blankTaken.selectFrame = s.blankTaken.scanIdle := selectFrame_idle none idle
    rw [dark]
    exact ⟨rfl, rfl, rfl, rfl, rfl, outputAtBlank_dark _ (x := .scan) rfl⟩

end Sys2Proof.Machine
end

section
/-! SET_PROFILE: its payload, and what is left when the profile has been replaced (O52). -/

namespace Sys2Proof.Machine

/-! ### The payload (R72, R215) -/

theorem leBytes_leNat (l : List Byte) : leBytes l.length (leNat l) = l := by
  induction l with
  | nil => rfl
  | cons b bs ih =>
    have low : BitVec.ofInt 8 ((b.toNat + 256 * leNat bs : Nat) : Int) = b := by
      rw [BitVec.ofInt_natCast]
      exact BitVec.eq_of_toNat_eq (by rw [BitVec.toNat_ofNat]; omega)
    have rest : ((b.toNat + 256 * leNat bs : Nat) : Int) / 256 = leNat bs := by omega
    rw [List.length_cons, leNat, leBytes, low, rest, ih]

theorem boolByte_eq (b : Bool) : boolByte b = [if b then 1 else 0] := by cases b <;> rfl

/-- R215: a profile within its ranges is read back from its bytes. -/
theorem parseProfile_bytes {f : Profile} (h : f.ok = true) : parseProfile f.bytes = some f := by
  have away : parseBool (byteAt f.bytes 17) = some f.awayBlank := by
    rw [parseBool_iff, Profile.bytes, boolByte_eq]
    rfl
  have len : f.bytes.length = 18 := by
    rw [Profile.bytes, boolByte_eq]
    rfl
  have read {off v : Nat} (here : slice f.bytes off 2 = leBytes 2 v) (hv : v ≤ 65535) : natAt f.bytes off 2 = v := by
    rw [natAt, here, leNat_leBytes]
    exact Nat.mod_eq_of_lt (by omega)
  have ranges := h
  simp only [Profile.ok, Bool.and_eq_true, decide_eq_true_eq] at ranges
  rw [parseProfile, away]
  dsimp only
  rw [read (off := 0) (v := f.columns) rfl (by omega), read (off := 2) (v := f.rows) rfl (by omega),
    read (off := 4) (v := f.period) rfl (by omega), read (off := 6) (v := f.blank) rfl (by omega),
    read (off := 8) (v := f.ppdH) rfl (by omega), read (off := 10) (v := f.ppdV) rfl (by omega),
    read (off := 12) (v := f.limit) rfl (by omega)]
  exact if_pos ⟨len, h⟩

theorem parseProfile_some {q : List Byte} {f : Profile} (h : parseProfile q = some f) : f.ok = true ∧ q = f.bytes := by
  have pair (a b : Byte) : leBytes 2 (leNat [a, b]) = [a, b] := leBytes_leNat [a, b]
  unfold parseProfile at h
  split at h
  · exact absurd h (by simp)
  next away ha =>
    dsimp only at h
    split at h
    next good =>
      obtain ⟨len, ok⟩ := good
      obtain rfl := Option.some.inj h
      refine ⟨ok, ?_⟩
      rw [parseBool_iff] at ha
      match q, len with
      | [c0, c1, r0, r1, p0, p1, b0, b1, h0, h1, v0, v1, l0, l1, red, green, blue, a], _ =>
        obtain rfl : a = if away then 1 else 0 := ha
        show _ = leBytes 2 (leNat [c0, c1]) ++ leBytes 2 (leNat [r0, r1]) ++ leBytes 2 (leNat [p0, p1]) ++ leBytes 2 (leNat [b0, b1]) ++
          leBytes 2 (leNat [h0, h1]) ++ leBytes 2 (leNat [v0, v1]) ++ leBytes 2 (leNat [l0, l1]) ++ [red, green, blue] ++ boolByte away
        rw [pair, pair, pair, pair, pair, pair, pair, boolByte_eq]
        rfl
    · exact absurd h (by simp)

/-! ### The effect (R72, R79, R83) -/

theorem Slots.of_mem_change_empty {q : Slots} {x : SlotState} {u : Slot} (hu : u ∈ (q.change x fun _ => .empty).toList) :
    u.state = .free ∨ u.state ≠ x ∧ u ∈ q.toList := by
  obtain ⟨t, ht, rfl⟩ := (q.mem_change _ _).1 hu
  split
  · exact .inl rfl
  next away => exact .inr ⟨away, ht⟩

section
variable (s : State)

theorem freeShown_step : ScanStep s s.freeShown := (ScanStep.modSlots s _).trans (.dropFrames _ _)

/-- R72: after the three freeings every slot is FREE. -/
theorem abandon_freeShown_free : s.abandon.freeShown.fst.slots.count .free = 4 := by
  rw [State.freeShown, dropFrames_fst]
  refine List.countP_eq_length.2 fun u hu => beq_iff_eq.2 ?_
  obtain free | ⟨showing, hu⟩ := Slots.of_mem_change_empty hu
  · exact free
  obtain free | ⟨ready, hu⟩ := Slots.of_mem_change_empty hu
  · exact free
  have filling := Slots.count_eq_zero.1 (abandon_filling s) u hu
  cases e : u.state with
  | free => rfl
  | filling => exact absurd e filling
  | ready => exact absurd e ready
  | showing => exact absurd e showing

/-- R72: READY frames freed are counted and reported. -/
theorem freeShown_drops (h : 0 < s.fst.slots.count .ready) : s.freeShown.ntu.pending.has .frameDropped = true ∧
    s.freeShown.count .framesDropped = min 4294967295 (s.count .framesDropped + s.fst.slots.count .ready) :=
  (dropFrames_some _ h).symm

theorem freeShown_sou : s.freeShown.sou = s.sou := by
  rw [State.freeShown, State.dropFrames]
  split
  · rfl
  · rw [State.raise_sou]
    rfl

theorem restartScan_rest : s.restartScan = { s with sou := s.restartScan.sou } := by
  unfold State.restartScan
  split <;> rfl

theorem restartScan_off (h : s.sou.scanOut = .off) : s.restartScan = s := if_pos h

theorem restartScan_sou (h : s.sou.scanOut ≠ .off) : s.restartScan.sou = { s.sou with
    scanOut := .idle, left := .cleared, right := .cleared, scan := none
    schedule := some ⟨s.lt + s.fst.profile.period, s.fst.profile.period⟩ } := by
  rw [State.restartScan, if_neg h]
  rfl

theorem restartScan_notScanning : s.restartScan.causeHolds .scan = true := by
  by_cases h : s.sou.scanOut = .off
  · rw [restartScan_off s h, State.causeHolds, h]
    rfl
  · rw [State.causeHolds, restartScan_sou s h]
    rfl

end

/-- R72, step 5: restarting the schedule and judging the dark causes leaves the rest of the effect. -/
theorem restartScan_judgeDark_rest (w : State) : w.restartScan.judgeDark.fst = w.fst ∧ w.restartScan.judgeDark.oin = w.oin ∧
    w.restartScan.judgeDark.msu = w.msu ∧ w.restartScan.judgeDark.aud = w.aud ∧ w.restartScan.judgeDark.pmg = w.pmg ∧
    w.restartScan.judgeDark.ntu = w.ntu ∧ w.restartScan.judgeDark.ilg.active = w.ilg.active := by
  rw [judgeDark_rest, restartScan_rest]
  exact ⟨rfl, rfl, rfl, rfl, rfl, rfl, rfl⟩

theorem restartScan_judgeDark_count (w : State) {c : Counter} (hp : c ≠ .illumPulsesCut) (he : c ≠ .illumDarkEntries) :
    w.restartScan.judgeDark.count c = w.count c :=
  (judgeDark_count _ hp he).trans (by rw [restartScan_rest]; rfl)

/-- R201: a reply moves no counter. -/
theorem Replied.count {u t : State} {k : ReqKind} {p : Port} {tag : Byte} {x : Status} {v : List Byte} (h : Replied u t k p tag x v)
    (c : Counter) : t.count c = u.count c := by
  rw [h.rest]
  rfl

/-- R72: the profile replaced and the slots freed. -/
def State.profiled (s : State) (f : Profile) : State := (s.modFst fun x => { x with profile := f }).abandon.freeShown

section
variable (s : State) (f : Profile)

theorem profiled_fst : (s.profiled f).fst.profile = f ∧ (s.profiled f).fst.newest = s.fst.newest := by
  rw [State.profiled, (freeShown_step _).profile, (freeShown_step _).newest, abandon_fst]
  exact ⟨rfl, rfl⟩

theorem profiled_sou : (s.profiled f).sou = s.sou := by
  rw [State.profiled, freeShown_sou, abandon_sou]
  rfl

theorem profiled_rest : (s.profiled f).lt = s.lt ∧ (s.profiled f).oin = s.oin ∧ (s.profiled f).msu = s.msu ∧
    (s.profiled f).aud = s.aud ∧ (s.profiled f).pmg = s.pmg ∧ (s.profiled f).ilg = s.ilg := by
  have freed := freeShown_step (s.modFst fun x => { x with profile := f }).abandon
  exact ⟨freed.lt.trans (abandon_lt _), freed.oin.trans (abandon_oin _), freed.msu.trans (abandon_msu _),
    freed.aud.trans (abandon_aud _), freed.pmg.trans (abandon_pmg _), freed.ilg.trans (abandon_ilg _)⟩

theorem profiled_drops (h : 0 < s.fst.slots.count .ready) : (s.profiled f).ntu.pending.has .frameDropped = true ∧
    (s.profiled f).count .framesDropped = min 4294967295 (s.count .framesDropped + s.fst.slots.count .ready) := by
  have ready := abandon_count_other (s.modFst fun x => { x with profile := f }) (x := .ready)
    SlotState.noConfusion SlotState.noConfusion
  have before := abandon_count (s.modFst fun x => { x with profile := f }) (c := .framesDropped)
    Counter.noConfusion Counter.noConfusion Counter.noConfusion
  obtain ⟨pending, count⟩ := freeShown_drops _ (h.trans_eq ready.symm)
  rw [ready, before] at count
  exact ⟨pending, count⟩

theorem profiled_damages (h : 0 < s.fst.slots.count .filling) : (s.profiled f).ntu.pending.has .frameDamaged = true ∧
    (s.profiled f).count .framesDamaged = oneMore (s.count .framesDamaged) := by
  have freed := freeShown_step (s.modFst fun x => { x with profile := f }).abandon
  exact ⟨freed.raised _ (abandon_raises (s.modFst fun x => { x with profile := f }) h),
    (freed.counts _ (by decide)).trans ((abandon_framesDamaged _).trans (if_neg h.ne'))⟩

end

theorem setProfile_good {s : State} {f : Profile} (h : f.ok = true) : setProfile f.bytes s =
    .ok (s.profiled f).restartScan.judgeDark [] := by
  rw [setProfile, parseProfile_bytes h]
  rfl

theorem setProfile_bad {s : State} {q : List Byte} (h : ∀ f : Profile, f.ok = true → q ≠ f.bytes) :
    setProfile q s = .plain s .badArgument := by
  have refused : parseProfile q = none := by
    rw [Option.eq_none_iff_forall_ne_some]
    intro f parsed
    obtain ⟨ok, bytes⟩ := parseProfile_some parsed
    exact h f ok bytes
  rw [setProfile, refused]

/-- Settles O52: the bytes of a profile, or any others. -/
theorem profileIsReplacedWhole : Obligations.ProfileIsReplacedWhole := by
  refine fun s p tag q directed => ⟨fun f ok bytes => ?_, fun bad => answers_of_directed directed rfl (setProfile_bad bad)⟩
  subst bytes
  have replied := reply_replied (s.profiled f).restartScan.judgeDark .setProfile p tag .ok [] .reply MessageRole.noConfusion
  obtain ⟨fst', oin', msu', aud', pmg', ntu', active'⟩ := restartScan_judgeDark_rest (s.profiled f)
  have counted {c : Counter} (hp : c ≠ .illumPulsesCut) (he : c ≠ .illumDarkEntries) :=
    (replied.count c).trans (restartScan_judgeDark_count (s.profiled f) hp he)
  obtain ⟨profile, newest⟩ := profiled_fst s f
  obtain ⟨lt, oin, msu, aud, pmg, ilg⟩ := profiled_rest s f
  have sou := profiled_sou s f
  refine ⟨_, exec_of_directed directed rfl (setProfile_good ok), replied.lastReply, ?_⟩
  rw [counted Counter.noConfusion Counter.noConfusion, counted Counter.noConfusion Counter.noConfusion, replied.rest]
  dsimp only
  rw [fst', oin', msu', aud', pmg', ntu', active', judgeDark_sou, profile, newest, oin, msu, aud, pmg, ilg]
  refine ⟨rfl, abandon_freeShown_free _, rfl, judgeDark_dark (restartScan_notScanning _), profiled_drops s f, profiled_damages s f,
    fun off => ?_, fun on => ?_, rfl, rfl, rfl, rfl, rfl⟩
  · rw [restartScan_off _ (by rw [sou]; exact off), sou]
  · rw [restartScan_sou _ (by rw [sou]; exact on), sou, profile, lt]
    exact ⟨rfl, rfl, rfl, rfl, rfl⟩

end Sys2Proof.Machine
end

section
/-! The pulses of a frame period: the copy of the staged set at a blank start, and the lit interval of a panel (O54). -/

namespace Sys2Proof.Machine

/-! ### A pulse fitted to the guard (R115) -/

section
variable {g : Nat} {p : Pulse}

theorem fitPulse_of_fits (h : p.offset + p.width ≤ g) : fitPulse g p = p := if_pos h

theorem fitPulse_of_beyond (begins : p.offset ≤ g) (beyond : g < p.offset + p.width) :
    fitPulse g p = ⟨p.offset, g - p.offset⟩ := by
  rw [fitPulse, if_neg (Nat.not_le.2 beyond)]
  obtain before | boundary := begins.lt_or_eq
  · exact if_pos before
  · rw [if_neg (by omega), boundary, Nat.sub_self]

theorem fitPulse_of_late (h : g < p.offset) : fitPulse g p = ⟨g, 0⟩ := by
  rw [fitPulse, if_neg (by omega), if_neg (by omega)]

/-- R115: the rows of the table, a pulse that would begin at the guard among those cut. -/
theorem fitPulse_cases (g : Nat) (p : Pulse) : p.offset + p.width ≤ g ∧ fitPulse g p = p ∨
    p.offset ≤ g ∧ g < p.offset + p.width ∧ fitPulse g p = ⟨p.offset, g - p.offset⟩ ∨
    g < p.offset ∧ fitPulse g p = ⟨g, 0⟩ := by
  obtain fits | beyond := le_or_gt (p.offset + p.width) g
  · exact .inl ⟨fits, fitPulse_of_fits fits⟩
  obtain begins | late := le_or_gt p.offset g
  · exact .inr (.inl ⟨begins, beyond, fitPulse_of_beyond begins beyond⟩)
  · exact .inr (.inr ⟨late, fitPulse_of_late late⟩)

theorem fitPulse_width_le (g : Nat) (p : Pulse) : (fitPulse g p).width ≤ p.width := by
  obtain ⟨_, e⟩ | ⟨_, beyond, e⟩ | ⟨_, e⟩ := fitPulse_cases g p <;> rw [e]
  · show g - p.offset ≤ p.width
    omega
  · exact Nat.zero_le _

theorem fitPulse_end_le (g : Nat) (p : Pulse) : (fitPulse g p).offset + (fitPulse g p).width ≤ g := by
  obtain ⟨fits, e⟩ | ⟨begins, _, e⟩ | ⟨_, e⟩ := fitPulse_cases g p <;> rw [e]
  · exact fits
  · exact (Nat.add_sub_cancel' begins).le
  · exact (Nat.add_zero g).le

/-- R115: the guard moves no pulse that lights. -/
theorem fitPulse_offset (h : 0 < (fitPulse g p).width) : (fitPulse g p).offset = p.offset := by
  obtain ⟨_, e⟩ | ⟨_, _, e⟩ | ⟨_, e⟩ := fitPulse_cases g p <;> rw [e] at h ⊢
  exact absurd h (Nat.lt_irrefl 0)

end

/-! ### The copy (R113 to R116) -/

theorem interleaveAt_iff {request : Bool} {l : Level} : interleaveAt request l = true ↔ request = true ∨ l ≠ .l0 := by
  rw [interleaveAt, Bool.or_eq_true, bne_iff_ne]

section
variable (staged : PulseSet) {request : Bool} {l : Level} (g : Nat)

theorem rightCapped_apart (h : ¬ interleaveAt request l = true) :
    rightCapped staged request l g = ⟨staged.right.offset, cappedWidth l staged.right.width⟩ :=
  congrArg (Pulse.mk · _) (if_neg h)

/-- R116: under interleave the right pulse follows the left one, as it stands after the guard, by the gap. -/
theorem rightCapped_interleaved (h : interleaveAt request l = true) : (rightCapped staged request l g).offset =
    (fitPulse g (leftCapped staged l)).offset + (fitPulse g (leftCapped staged l)).width + 100 := if_pos h

/-- R114, R115: each active pulse is one of the capped width, fitted to the guard. -/
theorem copyPulses_side (request : Bool) (l : Level) (period : Nat) (x : Side) :
    ∃ o, (copyPulses staged request l period).side x = fitPulse (period - 500) ⟨o, cappedWidth l (staged.side x).width⟩ := by
  cases x <;> exact ⟨_, rfl⟩

end

/-- R113: what a blank start leaves of the staged set, the active set and what was read for the copy. -/
theorem blankStart_copied (s : State) :
    let g := s.blankTaken.selectFrame.outputAtBlank.ilg
    g.staged = s.ilg.staged ∧ g.levelAtCopy = some s.pmg.level ∧
      g.interleaved = interleaveAt s.ilg.interleaveRequest s.pmg.level ∧
      g.active = copyPulses s.ilg.staged s.ilg.interleaveRequest s.pmg.level s.fst.profile.period := by
  dsimp only
  rw [outputAtBlank_rest, (ScanStep.selectFrame s.blankTaken).ilg]
  exact ⟨rfl, rfl, rfl, rfl⟩

/-! ### The lit interval (R111) -/

section
variable {s : State} {x : Side}

theorem exec_illumPulseStart (h : s.pulseBegins x = true) :
    exec (.illumPulseStart x) s = .next (s.modIlg fun g => g.setPhase x .lit) := congrArg Host.Outcome.next (if_pos h)

theorem exec_illumPulseStart_not (h : ¬ s.pulseBegins x = true) : exec (.illumPulseStart x) s = .next s :=
  congrArg Host.Outcome.next (if_neg h)

theorem exec_illumPulseEnd (h : s.pulseEnds x = true) :
    exec (.illumPulseEnd x) s = .next ((s.bump (pulseCounter x)).modIlg fun g => g.setPhase x .over) :=
  congrArg Host.Outcome.next (if_pos h)

theorem pulseBegins_iff : s.pulseBegins x = true ↔ ∃ b, s.ilg.periodStart = some b ∧ s.ilg.output = .emitting ∧
    s.ilg.phase x = .toCome ∧ b + (s.ilg.active.side x).offset ≤ s.lt := by
  unfold State.pulseBegins
  cases s.ilg.periodStart <;> simp [and_assoc]

theorem pulseEnds_iff : s.pulseEnds x = true ↔ ∃ b, s.ilg.periodStart = some b ∧ s.ilg.phase x = .lit ∧
    b + (s.ilg.active.side x).offset + (s.ilg.active.side x).width ≤ s.lt := by
  unfold State.pulseEnds
  cases s.ilg.periodStart <;> simp

theorem pulseCounter_eq (x : Side) : pulseCounter x = if x = .left then .illumPulsesLeft else .illumPulsesRight := by
  cases x <;> rfl

end

/-- Settles O54: the copy by the fit of each pulse to the guard, and a lit interval by its beginning, its end and the dark. -/
theorem pulsesAreCopiedAndLit : Obligations.PulsesAreCopiedAndLit := by
  refine fun s => ⟨fun c hc due on _ => ?_, fun x b start emitting toCome begun => ?_, fun x b start lit ended => ?_,
    fun x dark => ?_⟩
  · intro g cap inter
    obtain ⟨staged, level, interleaved, active⟩ := blankStart_copied s
    have interleave : interleaveAt s.ilg.interleaveRequest s.pmg.level = true ↔ inter := interleaveAt_iff
    refine ⟨_, exec_blankStart hc due on, staged, level, interleaved ▸ interleave, ?_⟩
    rw [active]
    refine ⟨fun x => ?_, fun fits => fitPulse_of_fits fits, fun begins beyond => fitPulse_of_beyond begins beyond,
      fun apart fits => ?_, fun together lights => ?_⟩
    · obtain ⟨o, e⟩ := copyPulses_side s.ilg.staged s.ilg.interleaveRequest s.pmg.level s.fst.profile.period x
      rw [e]
      exact ⟨fitPulse_width_le _ _, fitPulse_end_le _ _⟩
    · exact (congrArg (fitPulse g) (rightCapped_apart _ _ (mt interleave.1 apart))).trans (fitPulse_of_fits fits)
    · exact (fitPulse_offset lights).trans (rightCapped_interleaved _ _ (interleave.2 together))
  · exact exec_illumPulseStart (pulseBegins_iff.2 ⟨b, start, emitting, toCome, begun⟩)
  · rw [← pulseCounter_eq]
    exact exec_illumPulseEnd (pulseEnds_iff.2 ⟨b, start, lit, ended⟩)
  · refine exec_illumPulseStart_not fun begins => ?_
    obtain ⟨_, _, emitting, _⟩ := pulseBegins_iff.1 begins
    exact absurd (dark.symm.trans emitting) Output.noConfusion

end Sys2Proof.Machine
end

section
/-!
The two halves of an output instant (R128, R138): what playback and capture each leave to the other, and what both leave to every
other block.
-/

namespace Sys2Proof.Machine

/-- The AUD without what an output instant moves in playback. -/
def Aud.withoutPlayback (a : Aud) : Aud :=
  { a with
    playback := .stopped, buffer := [], played := 0, window := [], lastErr := none, due := none, again := none
    runDirection := .removal, runLength := 0, lastValue := ⟨0, 0⟩, faded := 0, out := ⟨0, 0⟩ }

/-- The AUD without what an output instant moves in capture. -/
def Aud.withoutCapture (a : Aud) : Aud :=
  { a with
    forming := none, captureSeq := 0, gate := .disabled, loudRun := 0, quietRun := 0, gatedSince := false
    gateMark := false, gapPending := false, queue := [] }

/-- What an output instant leaves to the other blocks; no condition is cleared. -/
structure InstantFrame (s t : State) : Prop where
  lt : t.lt = s.lt
  loaded : t.loaded = s.loaded
  msu : t.msu = s.msu
  oin : t.oin = s.oin
  fst : t.fst = s.fst
  ilg : t.ilg = s.ilg
  pmg : t.pmg = s.pmg
  prr : t.prr = s.prr
  entries : t.cmu.queue = s.cmu.queue
  raised : ∀ c, s.ntu.pending.has c = true → t.ntu.pending.has c = true

/-- The counters that playback leaves, of those an output instant moves. -/
def captureCounters : List Counter := [.captureClippedBlocks, .captureBlocksGated, .voiceStarts, .captureQueueDrops]

/-- The counters that capture leaves, of those an output instant moves. -/
def playbackCounters : List Counter := [.playbackUnderruns, .driftRemovals, .driftInsertions, .driftLimits]

/-- A step of the playback half. -/
structure PlaysOnly (s t : State) : Prop extends InstantFrame s t where
  aud : t.aud.withoutPlayback = s.aud.withoutPlayback
  offset : t.tlc.offset = s.tlc.offset
  basis : t.tlc.basis = s.tlc.basis
  step : t.tlc.stepCapture = s.tlc.stepCapture
  counts : ∀ c ∈ captureCounters, t.count c = s.count c

/-- A step of the capture half. -/
structure CapturesOnly (s t : State) : Prop extends InstantFrame s t where
  aud : t.aud.withoutCapture = s.aud.withoutCapture
  counts : ∀ c ∈ playbackCounters, t.count c = s.count c

namespace InstantFrame
variable (s : State)

theorem trans {s t u : State} (h : InstantFrame s t) (g : InstantFrame t u) : InstantFrame s u :=
  ⟨g.lt.trans h.lt, g.loaded.trans h.loaded, g.msu.trans h.msu, g.oin.trans h.oin, g.fst.trans h.fst, g.ilg.trans h.ilg,
    g.pmg.trans h.pmg, g.prr.trans h.prr, g.entries.trans h.entries, fun c => g.raised c ∘ h.raised c⟩

theorem refl : InstantFrame s s := ⟨rfl, rfl, rfl, rfl, rfl, rfl, rfl, rfl, rfl, fun _ => id⟩

theorem modAud (f : Aud → Aud) : InstantFrame s (s.modAud f) := ⟨rfl, rfl, rfl, rfl, rfl, rfl, rfl, rfl, rfl, fun _ => id⟩

theorem modTlc (f : Tlc → Tlc) : InstantFrame s (s.modTlc f) := ⟨rfl, rfl, rfl, rfl, rfl, rfl, rfl, rfl, rfl, fun _ => id⟩

theorem bump (c : Counter) : InstantFrame s (s.bump c) := ⟨rfl, rfl, rfl, rfl, rfl, rfl, rfl, rfl, rfl, fun _ => id⟩

theorem of_report {s t : State} (h : SameButNotices s t)
    (raised : ∀ c, s.ntu.pending.has c = true → t.ntu.pending.has c = true) : InstantFrame s t :=
  ⟨h.lt, h.loaded, h.msu, h.oin, h.fst, h.ilg, h.pmg, h.prr, h.queue, raised⟩

theorem raise (c : Condition) : InstantFrame s (s.raise c) := of_report (sbn_raise s c) fun d h => by simp [h]

end InstantFrame

namespace PlaysOnly

section
variable {s t : State} (h : PlaysOnly s t)
include h

theorem requested : t.aud.requested = s.aud.requested := (congrArg Aud.requested h.aud :)
theorem applied : t.aud.applied = s.aud.applied := (congrArg Aud.applied h.aud :)
theorem target : t.aud.target = s.aud.target := (congrArg Aud.target h.aud :)
theorem lastInstant : t.aud.lastInstant = s.aud.lastInstant := (congrArg Aud.lastInstant h.aud :)
theorem captureEnabled : t.aud.captureEnabled = s.aud.captureEnabled := (congrArg Aud.captureEnabled h.aud :)
theorem openThreshold : t.aud.openThreshold = s.aud.openThreshold := (congrArg Aud.openThreshold h.aud :)
theorem hangover : t.aud.hangover = s.aud.hangover := (congrArg Aud.hangover h.aud :)
theorem forming : t.aud.forming = s.aud.forming := (congrArg Aud.forming h.aud :)
theorem captureSeq : t.aud.captureSeq = s.aud.captureSeq := (congrArg Aud.captureSeq h.aud :)
theorem gate : t.aud.gate = s.aud.gate := (congrArg Aud.gate h.aud :)
theorem loudRun : t.aud.loudRun = s.aud.loudRun := (congrArg Aud.loudRun h.aud :)
theorem quietRun : t.aud.quietRun = s.aud.quietRun := (congrArg Aud.quietRun h.aud :)
theorem gateMark : t.aud.gateMark = s.aud.gateMark := (congrArg Aud.gateMark h.aud :)
theorem gapPending : t.aud.gapPending = s.aud.gapPending := (congrArg Aud.gapPending h.aud :)
theorem queue : t.aud.queue = s.aud.queue := (congrArg Aud.queue h.aud :)

end

variable (s : State)

theorem trans {s t u : State} (h : PlaysOnly s t) (g : PlaysOnly t u) : PlaysOnly s u :=
  ⟨h.toInstantFrame.trans g.toInstantFrame, g.aud.trans h.aud, g.offset.trans h.offset, g.basis.trans h.basis,
    g.step.trans h.step, fun c hc => (g.counts c hc).trans (h.counts c hc)⟩

theorem modAud (f : Aud → Aud) (h : (f s.aud).withoutPlayback = s.aud.withoutPlayback) : PlaysOnly s (s.modAud f) :=
  ⟨.modAud s f, h, rfl, rfl, rfl, fun _ _ => rfl⟩

theorem bump (c : Counter) (h : c ∉ captureCounters) : PlaysOnly s (s.bump c) :=
  ⟨.bump s c, rfl, rfl, rfl, rfl, fun d hd => by rw [count_bump, if_neg (by rintro rfl; exact h hd)]⟩

theorem raise (c : Condition) : PlaysOnly s (s.raise c) :=
  ⟨.raise s c, by simp, by simp, by simp, by simp,
    fun d hd => (sbn_raise s c).counts d (by rintro rfl; revert hd; decide) (by rintro rfl; revert hd; decide)⟩

theorem runOn_withoutPlayback (a : Aud) (d : Adjust) : (a.runOn d).withoutPlayback = a.withoutPlayback := by
  unfold Aud.runOn
  split <;> rfl

theorem sampleFill_withoutPlayback (a : Aud) : a.sampleFill.withoutPlayback = a.withoutPlayback := by
  rw [sampleFill_eq]
  rfl

theorem fadeOut_withoutPlayback (a : Aud) : a.fadeOut.withoutPlayback = a.withoutPlayback := by
  unfold Aud.fadeOut
  split <;> rfl

theorem notMade_withoutPlayback (a : Aud) : a.notMade.withoutPlayback = a.withoutPlayback := by
  unfold Aud.notMade
  split <;> rfl

theorem of_adjusted (d : Adjust) : PlaysOnly s (s.adjusted d) := by
  have made (c : Counter) (h : c ∉ captureCounters) :=
    (bump s c h).trans (modAud _ (fun a => a.runOn d) (runOn_withoutPlayback _ d))
  have limit (t : State) := ((modAud t (fun a => { a with runLength := 0 }) rfl).trans
    (bump _ .driftLimits (by decide))).trans (raise _ .driftLimit)
  unfold State.adjusted
  cases d
  all_goals
    dsimp only
    split
    · exact (made _ (by decide)).trans (limit _)
    · exact made _ (by decide)

theorem of_underrun : PlaysOnly s s.underrun := by
  unfold State.underrun
  refine ((modAud s _ ?_).trans (bump _ _ (by decide))).trans (raise _ _)
  exact fadeOut_withoutPlayback _

theorem of_playInstant : PlaysOnly s s.playInstant := by
  have sampled (t : State) : PlaysOnly t (t.modAud Aud.sampleFill) := modAud t _ (sampleFill_withoutPlayback _)
  unfold State.playInstant
  split
  · exact modAud s _ (sampleFill_withoutPlayback _)
  · split
    · exact of_underrun s
    · exact ((modAud s _ rfl).trans (of_adjusted _ _)).trans (sampled _)
    · exact ((modAud s _ rfl).trans (of_adjusted _ _)).trans (sampled _)
    · exact modAud s _ ((sampleFill_withoutPlayback _).trans (notMade_withoutPlayback _))

theorem of_tryPlay : PlaysOnly s (s.tryPlay Aud.silent) := by
  unfold State.tryPlay
  split
  · exact (modAud s _ rfl).trans (of_playInstant _)
  · exact modAud s _ rfl

theorem of_playback : PlaysOnly s s.playback := by
  unfold State.playback
  split
  · exact modAud s _ rfl
  · exact of_tryPlay s
  · exact of_playInstant s
  · split
    · exact modAud s _ (fadeOut_withoutPlayback _)
    · exact of_tryPlay s

end PlaysOnly

namespace CapturesOnly

section
variable {s t : State} (h : CapturesOnly s t)
include h

theorem requested : t.aud.requested = s.aud.requested := (congrArg Aud.requested h.aud :)
theorem applied : t.aud.applied = s.aud.applied := (congrArg Aud.applied h.aud :)
theorem target : t.aud.target = s.aud.target := (congrArg Aud.target h.aud :)
theorem lastInstant : t.aud.lastInstant = s.aud.lastInstant := (congrArg Aud.lastInstant h.aud :)
theorem playback : t.aud.playback = s.aud.playback := (congrArg Aud.playback h.aud :)
theorem buffer : t.aud.buffer = s.aud.buffer := (congrArg Aud.buffer h.aud :)
theorem played : t.aud.played = s.aud.played := (congrArg Aud.played h.aud :)
theorem window : t.aud.window = s.aud.window := (congrArg Aud.window h.aud :)
theorem lastErr : t.aud.lastErr = s.aud.lastErr := (congrArg Aud.lastErr h.aud :)
theorem due : t.aud.due = s.aud.due := (congrArg Aud.due h.aud :)
theorem again : t.aud.again = s.aud.again := (congrArg Aud.again h.aud :)
theorem runDirection : t.aud.runDirection = s.aud.runDirection := (congrArg Aud.runDirection h.aud :)
theorem runLength : t.aud.runLength = s.aud.runLength := (congrArg Aud.runLength h.aud :)
theorem lastValue : t.aud.lastValue = s.aud.lastValue := (congrArg Aud.lastValue h.aud :)
theorem faded : t.aud.faded = s.aud.faded := (congrArg Aud.faded h.aud :)
theorem out : t.aud.out = s.aud.out := (congrArg Aud.out h.aud :)

end

variable (s : State)

theorem refl : CapturesOnly s s := ⟨.refl s, rfl, fun _ _ => rfl⟩

theorem trans {s t u : State} (h : CapturesOnly s t) (g : CapturesOnly t u) : CapturesOnly s u :=
  ⟨h.toInstantFrame.trans g.toInstantFrame, g.aud.trans h.aud, fun c hc => (g.counts c hc).trans (h.counts c hc)⟩

theorem modAud (f : Aud → Aud) (h : (f s.aud).withoutCapture = s.aud.withoutCapture) : CapturesOnly s (s.modAud f) :=
  ⟨.modAud s f, h, fun _ _ => rfl⟩

theorem modTlc (f : Tlc → Tlc) : CapturesOnly s (s.modTlc f) := ⟨.modTlc s f, rfl, fun _ _ => rfl⟩

theorem bump (c : Counter) (h : c ∉ playbackCounters) : CapturesOnly s (s.bump c) :=
  ⟨.bump s c, rfl, fun d hd => by rw [count_bump, if_neg (by rintro rfl; exact h hd)]⟩

theorem of_report {s t : State} (h : SameButNotices s t)
    (raised : ∀ c, s.ntu.pending.has c = true → t.ntu.pending.has c = true) : CapturesOnly s t :=
  ⟨.of_report h raised, congrArg Aud.withoutCapture h.aud,
    fun c hc => h.counts c (by rintro rfl; revert hc; decide) (by rintro rfl; revert hc; decide)⟩

theorem raise (c : Condition) : CapturesOnly s (s.raise c) := of_report (sbn_raise s c) (InstantFrame.raise s c).raised

theorem opportunity : CapturesOnly s s.opportunity := of_report (sbn_opportunity s) fun c h => by simpa using h

theorem cutIf (x : Transmission) : CapturesOnly s (s.cutIf x) := by
  unfold State.cutIf
  split
  · exact modTlc s _
  · exact refl s

theorem of_enqueueCapture (b : CaptureBlock) : CapturesOnly s (s.enqueueCapture b) := by
  unfold State.enqueueCapture
  split
  · exact (modAud s _ rfl).trans (opportunity _)
  · split
    · exact refl s
    · exact ((((modAud s _ rfl).trans (cutIf _ _)).trans (bump _ _ (by decide))).trans (raise _ _)).trans (opportunity _)

theorem of_queueBlock (b : CaptureBlock) (o : Bool) : CapturesOnly s (s.queueBlock b o) :=
  ((modAud s _ rfl).trans (modTlc _ _)).trans (of_enqueueCapture _ _)

theorem of_gateBlock : CapturesOnly s s.gateBlock := (modAud s _ rfl).trans (bump _ _ (by decide))

theorem of_gate (b : CaptureBlock) : CapturesOnly s (s.gate b) := by
  unfold State.gate
  dsimp only
  split
  · exact of_queueBlock s b false
  · split
    · split
      · exact (((modAud s _ rfl).trans (of_queueBlock _ b true)).trans (raise _ _)).trans (bump _ _ (by decide))
      · exact (modAud s _ rfl).trans (of_gateBlock _)
    · exact (modAud s _ rfl).trans (of_gateBlock _)
  · split
    · exact (modAud s _ rfl).trans (of_queueBlock _ b false)
    · split
      · exact (modAud s _ rfl).trans (of_queueBlock _ b false)
      · exact ((of_queueBlock s b false).trans (modAud _ _ rfl)).trans (raise _ _)

theorem of_completeBlock (g : Forming) : CapturesOnly s (s.completeBlock g) := by
  unfold State.completeBlock
  dsimp only
  split
  · exact ((modAud s _ rfl).trans (bump _ _ (by decide))).trans (of_gate _ _)
  · exact (modAud s _ rfl).trans (of_gate _ _)

theorem of_capture (m1 m2 : Int) : CapturesOnly s (s.capture m1 m2) := by
  unfold State.capture
  dsimp only
  split
  · split
    · exact refl s
    · split
      · exact of_completeBlock s _
      · exact modAud s _ rfl
  · exact refl s

end CapturesOnly

end Sys2Proof.Machine
end

section
/-!
What the attenuation depends on (R135, R136), the requested and the applied attenuation, the shed level and the loaded request, and
the operations that leave all of it as it is, in the order of the model's files: it moves with a volume, a ramp step, a shed level, a
load and a reset alone.
-/

namespace Sys2Proof.Machine

/-- What `State.gainSound` speaks of. -/
structure GainView where
  requested : Nat
  applied : Nat
  level : Level
  loaded : Nat

def State.gainView (s : State) : GainView := ⟨s.aud.requested, s.aud.applied, s.pmg.level, s.loaded.requested⟩

/-- Two states alike in it are sound together. -/
theorem gainSound_congr {s t : State} (h : t.gainView = s.gainView) : s.gainSound → t.gainSound := by
  obtain ⟨requested, applied, level, loaded⟩ := GainView.mk.inj h
  unfold State.gainSound
  rw [requested, applied, level, loaded]
  exact id

theorem foldl_gainView {α : Type} {f : State → α → State} (h : ∀ s a, (f s a).gainView = s.gainView) (xs : List α)
    (s : State) : (xs.foldl f s).gainView = s.gainView := by
  induction xs generalizing s with
  | nil => rfl
  | cons x xs ih => exact (ih _).trans (h s x)

section
variable (s : State)

/-! ### Single blocks -/

@[simp] theorem modTlc_gainView (f : Tlc → Tlc) : (s.modTlc f).gainView = s.gainView := rfl
@[simp] theorem modMsu_gainView (f : Msu → Msu) : (s.modMsu f).gainView = s.gainView := rfl
@[simp] theorem modOin_gainView (f : Oin → Oin) : (s.modOin f).gainView = s.gainView := rfl
@[simp] theorem modFst_gainView (f : Fst → Fst) : (s.modFst f).gainView = s.gainView := rfl
@[simp] theorem modSou_gainView (f : Sou → Sou) : (s.modSou f).gainView = s.gainView := rfl
@[simp] theorem modIlg_gainView (f : Ilg → Ilg) : (s.modIlg f).gainView = s.gainView := rfl
@[simp] theorem modPrr_gainView (f : Prr → Prr) : (s.modPrr f).gainView = s.gainView := rfl
@[simp] theorem modNtu_gainView (f : Ntu → Ntu) : (s.modNtu f).gainView = s.gainView := rfl
@[simp] theorem modCmu_gainView (f : Cmu → Cmu) : (s.modCmu f).gainView = s.gainView := rfl
@[simp] theorem addCount_gainView (c : Counter) (n : Nat) : (s.addCount c n).gainView = s.gainView := rfl
@[simp] theorem bump_gainView (c : Counter) : (s.bump c).gainView = s.gainView := rfl

/-- A change of the AUD that leaves both attenuations. -/
@[simp] theorem modAud_gainView (f : Aud → Aud) (hr : (f s.aud).requested = s.aud.requested)
    (ha : (f s.aud).applied = s.aud.applied) : (s.modAud f).gainView = s.gainView := by
  simp [State.gainView, hr, ha]

/-- A change of the PMG that leaves the shed level. -/
@[simp] theorem modPmg_gainView (f : Pmg → Pmg) (h : (f s.pmg).level = s.pmg.level) :
    (s.modPmg f).gainView = s.gainView := by
  simp [State.gainView, h]

/-! ### Messages and notices (R183 to R203) -/

theorem SameButNotices.gainView {s t : State} (h : SameButNotices s t) : t.gainView = s.gainView := by
  simp only [State.gainView, h.aud, h.pmg, h.loaded]

@[simp] theorem opportunity_gainView : s.opportunity.gainView = s.gainView := (sbn_opportunity s).gainView
@[simp] theorem uartStart_gainView : s.uartStart.gainView = s.gainView := (sbn_uartStart s).gainView
@[simp] theorem attend_gainView : s.attend.gainView = s.gainView := (sbn_attend s).gainView
@[simp] theorem noticeDue_gainView : s.noticeDue.gainView = s.gainView := (sbn_noticeDue s).gainView
@[simp] theorem issue_gainView : s.issue.gainView = s.gainView := (sbn_issue s).gainView
@[simp] theorem raise_gainView (c : Condition) : (s.raise c).gainView = s.gainView := (sbn_raise s c).gainView
@[simp] theorem lower_gainView (c : Condition) : (s.lower c).gainView = s.gainView := (sbn_lower s c).gainView
@[simp] theorem follow_gainView (c : Condition) (b : Bool) : (s.follow c b).gainView = s.gainView :=
  (sbn_follow s c b).gainView

@[simp] theorem reply_gainView (k : Byte) (p : Port) (tag : Byte) (x : Status) (v : List Byte) (r : MessageRole) :
    (s.reply k p tag x v r).gainView = s.gainView := (sbn_place _ p r _).gainView

@[simp] theorem cutIf_gainView (x : Transmission) : (s.cutIf x).gainView = s.gainView := by
  unfold State.cutIf
  split <;> rfl

@[simp] theorem release_gainView (p : Port) : (s.release p).gainView = s.gainView := attend_gainView _

@[simp] theorem roleTaken_gainView : s.roleTaken.gainView = s.gainView := by
  unfold State.roleTaken
  dsimp only
  split <;> simp

@[simp] theorem arrive_gainView (p : Port) (b : List Byte) : (s.arrive p b).gainView = s.gainView := by
  unfold State.arrive
  split <;> simp

@[simp] theorem hunt_gainView (late : Bool) (n : Nat) (rx : List Byte) : (s.hunt late n rx).gainView = s.gainView := by
  induction n generalizing s rx with
  | zero => rfl
  | succ n ih =>
    cases rx with
    | nil => rfl
    | cons b bs =>
      unfold State.hunt
      repeat' split
      all_goals simp [ih]

@[simp] theorem timeOutBytes_gainView : s.timeOutBytes.gainView = s.gainView := by
  unfold State.timeOutBytes
  split <;> simp

@[simp] theorem dueFor_gainView (cs : List Condition) : (s.dueFor cs).gainView = s.gainView :=
  foldl_gainView (fun t _ => noticeDue_gainView t) cs s

@[simp] theorem holdoffExpires_gainView : s.holdoffExpires.gainView = s.gainView := by
  unfold State.holdoffExpires
  dsimp only
  split <;> simp

@[simp] theorem clearCounts_gainView (cs : List Counter) : (s.clearCounts cs).gainView = s.gainView :=
  foldl_gainView (f := fun t c => t.setCount c 0) (fun _ _ => rfl) cs s

/-! ### Illumination and the runner (R118, R169 to R182) -/

@[simp] theorem judgeDark_gainView : s.judgeDark.gainView = s.gainView := by
  unfold State.judgeDark
  repeat' split
  all_goals rfl

@[simp] theorem endProc_gainView (r : ProcResult) (v : List ProcValue) : (s.endProc r v).gainView = s.gainView := by
  unfold State.endProc
  split <;> simp

@[simp] theorem targetLeft_gainView (x : Sensor) : (s.targetLeft x).gainView = s.gainView := by
  unfold State.targetLeft
  split <;> simp

@[simp] theorem collect_gainView (x : Sensor) (r : Axes) (t : Int) : (s.collect x r t).gainView = s.gainView := by
  unfold State.collect
  repeat' split
  all_goals rfl

@[simp] theorem modImu_gainView (x : Sensor) (f : Imu → Imu) : (s.modImu x f).gainView = s.gainView := rfl

@[simp] theorem hold_gainView (t : Targets) (n : Nat) : (s.hold t n).gainView = s.gainView :=
  foldl_gainView (f := fun s x => s.modImu x fun i => { i with syncAt := some n }) (fun _ _ => rfl) _ s

@[simp] theorem unhold_gainView (t : Targets) : (s.unhold t).gainView = s.gainView :=
  foldl_gainView (f := fun s x => s.modImu x fun i => { i with syncAt := none }) (fun _ _ => rfl) _ s

@[simp] theorem startCheck_gainView (a : StartArgs) : (s.startCheck a).gainView = s.gainView := by
  unfold State.startCheck
  cases a <;> dsimp only <;> split <;> simp

@[simp] theorem load_gainView (b : Bool) : (s.load b).gainView = s.gainView := rfl

@[simp] theorem work_gainView (w : Work) : (s.work w).gainView = s.gainView := rfl

@[simp] theorem stopWork_gainView (w : Work) : (s.stopWork w).gainView = s.gainView := by
  cases w <;> simp [State.stopWork]

@[simp] theorem cableEnd_gainView (v1 i1 v2 i2 v3 i3 : Nat) : (s.cableEnd v1 i1 v2 i2 v3 i3).gainView = s.gainView := by
  unfold State.cableEnd
  dsimp only
  split <;> simp

@[simp] theorem cableStep_gainView (m : Measurement) : (s.cableStep m).gainView = s.gainView := by
  unfold State.cableStep
  dsimp only
  repeat' split
  all_goals simp

@[simp] theorem writeBias_gainView (x : Sensor) (c : Collection) : (s.writeBias x c).gainView = s.gainView := rfl

@[simp] theorem judgeBias_gainView (t : Targets) (n : Nat) (a b : Collection) :
    (s.judgeBias t n a b).gainView = s.gainView := by
  have written := foldl_gainView (fun s x => writeBias_gainView s x (collectionOf a b x)) t.list s
  unfold State.judgeBias
  dsimp only
  repeat' split
  all_goals simp [written]

/-! ### Orientation (R53 to R63) -/

@[simp] theorem followStale_gainView : s.followStale.gainView = s.gainView := follow_gainView _ _ _

@[simp] theorem bind_gainView (x : Sensor) : (s.bind x).gainView = s.gainView := rfl

@[simp] theorem failover_gainView : s.failover.gainView = s.gainView := raise_gainView _ _

@[simp] theorem primaryFails_gainView : s.primaryFails.gainView = s.gainView := by
  unfold State.primaryFails
  split <;> simp

@[simp] theorem primaryLeft_gainView (x : Sensor) : (s.primaryLeft x).gainView = s.gainView := by
  unfold State.primaryLeft
  split <;> rfl

@[simp] theorem reportRunning_gainView (x : Sensor) : (s.reportRunning x).gainView = s.gainView := by
  unfold State.reportRunning
  repeat' split
  all_goals simp

@[simp] theorem reportFault_gainView (x : Sensor) : (s.reportFault x).gainView = s.gainView := by
  unfold State.reportFault
  split <;> simp

@[simp] theorem reportOff_gainView (x : Sensor) : (s.reportOff x).gainView = s.gainView := by
  unfold State.reportOff
  split <;> simp

@[simp] theorem testSample_gainView (b : Bool) : (s.testSample b).gainView = s.gainView := by
  unfold State.testSample
  dsimp only
  repeat' split
  all_goals simp

@[simp] theorem takeSample_gainView (x : Sensor) (t : Nat) (r : Axes) (b : Bool) :
    (s.takeSample x t r b).gainView = s.gainView := by
  unfold State.takeSample
  split <;> simp

/-! ### Motion and wear (R28 to R47) -/

@[simp] theorem startImus_gainView : s.startImus.gainView = s.gainView := by
  rw [startImus_rest]
  rfl

@[simp] theorem enterRunning_gainView (x : Sensor) : (s.enterRunning x).gainView = s.gainView := by
  simp [State.enterRunning]

@[simp] theorem enterFault_gainView (x : Sensor) : (s.enterFault x).gainView = s.gainView := by
  unfold State.enterFault
  dsimp only
  split <;> simp

@[simp] theorem enterOff_gainView (x : Sensor) : (s.enterOff x).gainView = s.gainView := by
  unfold State.enterOff
  dsimp only
  repeat' split
  all_goals simp

@[simp] theorem enqueueRecord_gainView (r : MotionRecord) : (s.enqueueRecord r).gainView = s.gainView := by
  unfold State.enqueueRecord
  dsimp only
  repeat' split
  all_goals simp

@[simp] theorem makeRecord_gainView (t : Nat) (r : Read) (d : ImuData) : (s.makeRecord t r d).gainView = s.gainView := by
  unfold State.makeRecord
  dsimp only
  split <;> simp

@[simp] theorem handSample_gainView (t : Nat) (r : Read) (d : ImuData) : (s.handSample t r d).gainView = s.gainView := by
  simp [State.handSample]

theorem eachSucceeded_gainView {f : State → Read → ImuData → State} (h : ∀ s r d, (f s r d).gainView = s.gainView)
    (rs : List Read) : (eachSucceeded f rs s).gainView = s.gainView := by
  refine foldl_gainView (fun s r => ?_) rs s
  split
  · exact h s r _
  · rfl

@[simp] theorem syncDone_gainView (t : Tick) : (s.syncDone t).gainView = s.gainView := by
  unfold State.syncDone
  repeat' split
  all_goals simp

@[simp] theorem finishTick_gainView (t : Tick) : (s.finishTick t).gainView = s.gainView := by
  simp [State.finishTick, State.markGaps, eachSucceeded_gainView]

@[simp] theorem completeTicks_gainView : s.completeTicks.gainView = s.gainView :=
  foldl_gainView finishTick_gainView _ _

@[simp] theorem imusOff_gainView : s.imusOff.gainView = s.gainView := by simp [State.imusOff]

@[simp] theorem readFails_gainView (x : Sensor) : (s.readFails x).gainView = s.gainView := by
  unfold State.readFails
  dsimp only
  split <;> simp

@[simp] theorem startupGoesOn_gainView (x : Sensor) (k : StartStep) (e : Nat) (ok : Bool) :
    (s.startupGoesOn x k e ok).gainView = s.gainView := by
  cases k <;> cases ok <;> simp [State.startupGoesOn]

@[simp] theorem reformSync_gainView (n : Nat) : (s.reformSync n).gainView = s.gainView := by
  unfold State.reformSync
  split <;> rfl

@[simp] theorem changeWear_gainView (w : Wear) : (s.changeWear w).gainView = s.gainView := by simp [State.changeWear]

@[simp] theorem awayExpires_gainView : s.awayExpires.gainView = s.gainView := by
  unfold State.awayExpires
  split <;> simp

@[simp] theorem wearRead_gainView (r : WearResult) : (s.wearRead r).gainView = s.gainView := by
  unfold State.wearRead State.judgeWear
  dsimp only
  repeat' split
  all_goals simp

@[simp] theorem wearStops_gainView : s.wearStops.gainView = s.gainView := by
  unfold State.wearStops
  dsimp only
  split <;> simp

/-! ### Pictures (R72 to R104) -/

@[simp] theorem modSlots_gainView (f : Slots → Slots) : (s.modSlots f).gainView = s.gainView := rfl

@[simp] theorem abandon_gainView : s.abandon.gainView = s.gainView := by
  unfold State.abandon
  split <;> simp

@[simp] theorem frameBegin_gainView (b : Option FrameBegin) : (s.frameBegin b).gainView = s.gainView := by
  unfold State.frameBegin
  repeat' split
  all_goals simp

@[simp] theorem lines_gainView (b : Option LinesBlock) : (s.lines b).gainView = s.gainView := by
  unfold State.lines
  repeat' split
  all_goals rfl

@[simp] theorem frameEnd_gainView (b : Option FrameNo) : (s.frameEnd b).gainView = s.gainView := by
  unfold State.frameEnd
  repeat' split
  all_goals simp

@[simp] theorem dropFrames_gainView (n : Nat) : (s.dropFrames n).gainView = s.gainView := by
  unfold State.dropFrames
  split <;> simp

@[simp] theorem lateShift_gainView : s.lateShift.gainView = s.gainView := by
  unfold State.lateShift State.countZeroed
  dsimp only
  repeat' split
  all_goals simp

@[simp] theorem selectFrame_gainView : s.selectFrame.gainView = s.gainView := by
  unfold State.selectFrame State.beginScan State.scanIdle
  dsimp only
  repeat' split
  all_goals simp

@[simp] theorem outputAtBlank_gainView : s.outputAtBlank.gainView = s.gainView := by
  unfold State.outputAtBlank
  split <;> simp

@[simp] theorem restartScan_gainView : s.restartScan.gainView = s.gainView := by
  unfold State.restartScan
  split <;> rfl

@[simp] theorem freeShown_gainView : s.freeShown.gainView = s.gainView := dropFrames_gainView _ _

@[simp] theorem scanOff_gainView : s.scanOff.gainView = s.gainView := by
  unfold State.scanOff
  split <;> simp

@[simp] theorem scanStart_gainView : s.scanStart.gainView = s.gainView := by
  rw [scanStart_rest]
  rfl

/-! ### Sound (R126 to R142) -/

@[simp] theorem stopPlayback_gainView : s.stopPlayback.gainView = s.gainView := rfl

@[simp] theorem stopCapture_gainView : s.stopCapture.gainView = s.gainView := by
  unfold State.stopCapture
  dsimp only
  split <;> simp

@[simp] theorem appendFrames_gainView (f : List Stereo) : (s.appendFrames f).gainView = s.gainView := by
  unfold State.appendFrames
  dsimp only
  split <;> simp

@[simp] theorem takeSound_gainView (b : Option (Seq × List Stereo)) : (s.takeSound b).gainView = s.gainView := by
  unfold State.takeSound
  repeat' split
  · rfl
  · rfl
  · rfl
  · exact (appendFrames_gainView _ _).trans rfl

/-! ### Power (R146 to R165) -/

@[simp] theorem formBudget_gainView : s.formBudget.gainView = s.gainView := rfl

@[simp] theorem judgePower_gainView (m : Measurement) : (s.judgePower m).gainView = s.gainView := by
  simp [State.judgePower]

@[simp] theorem setRail_gainView (x : Rail) (st : RailState) : (s.setRail x st).gainView = s.gainView := by
  have taken : (s.railTaken x st).gainView = s.gainView := by
    unfold State.railTaken State.followRail State.putRail
    repeat' split
    all_goals simp
  have reached (t : State) : (t.railReached x).gainView = t.gainView := by cases x <;> simp [State.railReached]
  have left (t : State) (b : Bool) : (t.railLeft x b).gainView = t.gainView := by
    cases x <;> cases b <;> simp [State.railLeft]
  rw [setRail_eq]
  repeat' split
  all_goals simp [taken, reached, left]

@[simp] theorem sequence_gainView : s.sequence.gainView = s.gainView :=
  foldl_gainView (fun t x => by split <;> simp) _ s

@[simp] theorem takeDown_gainView (xs : List Rail) : (s.takeDown xs).gainView = s.gainView :=
  foldl_gainView (fun t x => by split <;> simp) _ s

@[simp] theorem railFails_gainView (x : Rail) : (s.railFails x).gainView = s.gainView := by simp [State.railFails]

@[simp] theorem formTarget_gainView : s.formTarget.gainView = s.gainView := by simp [State.formTarget]

@[simp] theorem tellPmg_gainView (b : Bool) : (s.tellPmg b).gainView = s.gainView := by simp [State.tellPmg]

@[simp] theorem linkStep_gainView : s.linkStep.gainView = s.gainView := by
  unfold State.linkStep
  split <;> rfl

@[simp] theorem enterNormal_gainView : s.enterNormal.gainView = s.gainView := by simp [State.enterNormal]

@[simp] theorem leaveStart_gainView (m : Measurement) : (s.leaveStart m).gainView = s.gainView := by
  unfold State.leaveStart
  split <;> simp

@[simp] theorem enterBrownout_gainView : s.enterBrownout.gainView = s.gainView := by simp [State.enterBrownout]

@[simp] theorem brownoutTest_gainView (m : Measurement) : (s.brownoutTest m).gainView = s.gainView := by
  unfold State.brownoutTest
  dsimp only
  split <;> simp

/-! ### The link (R1 to R25) -/

@[simp] theorem leaveActive_gainView : s.leaveActive.gainView = s.gainView := rfl

@[simp] theorem enterActive_gainView (c : Channel) (n : Nat) : (s.enterActive c n).gainView = s.gainView := rfl

@[simp] theorem enterDown_gainView : s.enterDown.gainView = s.gainView := by
  unfold State.enterDown
  dsimp only
  split <;> simp

@[simp] theorem trainingFails_gainView : s.trainingFails.gainView = s.gainView := by
  unfold State.trainingFails
  repeat' split
  all_goals simp

@[simp] theorem retrainFails_gainView : s.retrainFails.gainView = s.gainView := by
  unfold State.retrainFails
  repeat' split
  all_goals simp

@[simp] theorem moveOffset_gainView (e : Int) : (s.moveOffset e).gainView = s.gainView := by
  unfold State.moveOffset
  repeat' split
  all_goals simp

@[simp] theorem lockBasis_gainView : s.lockBasis.gainView = s.gainView := lower_gainView _ _

@[simp] theorem takeBeat_gainView : s.takeBeat.gainView = s.gainView := by
  unfold State.takeBeat
  dsimp only
  split <;> simp

@[simp] theorem wake_gainView : s.wake.gainView = s.gainView := by simp [State.wake]

@[simp] theorem reportLive_gainView : s.reportLive.gainView = s.gainView := by
  have told := foldl_gainView (f := fun t x => t.follow (railFault x) (t.pmg.rails.get x == .fault))
    (fun t x => follow_gainView t _ _) railOrder ((s.follow .timeFree (s.tlc.basis == .free)).followStale)
  exact told.trans (by simp)

end
end Sys2Proof.Machine
end

section
/-! The applied attenuation stays at least the shed cap and at most MUTE, row by row, and with every step (O9). -/

namespace Sys2Proof.Machine

/-! ### Both halves of an output instant (R128, R138) -/

theorem PlaysOnly.gainView {s t : State} (h : PlaysOnly s t) : t.gainView = s.gainView := by
  simp only [State.gainView, h.requested, h.applied, h.pmg, h.loaded]

theorem CapturesOnly.gainView {s t : State} (h : CapturesOnly s t) : t.gainView = s.gainView := by
  simp only [State.gainView, h.requested, h.applied, h.pmg, h.loaded]

@[simp] theorem setGate_gainView (s : State) (b : Bool) : (s.setGate b).gainView = s.gainView := by
  unfold State.setGate
  split <;> simp

@[simp] theorem takeCapture_gainView (s : State) (c : CaptureArgs) : (s.takeCapture c).gainView = s.gainView := by
  unfold State.takeCapture
  dsimp only
  split <;> simp

/-! ### The cap and the ramp (R135 to R137) -/

theorem gainCap_le (l : Level) : l.gainCap ≤ 181 := by cases l <;> decide

theorem gainCap_le_effective (s : State) : s.pmg.level.gainCap ≤ s.effective :=
  (Nat.le_max_right _ _).trans (Nat.le_max_left _ _)

theorem effective_le {s : State} (h : s.aud.requested ≤ 180) : s.effective ≤ 181 := by
  have muted (p : Prop) [Decidable p] : (if p then muteStep else 0) ≤ 181 := by
    split <;> decide
  exact max_le (max_le (by omega) (gainCap_le _)) (max_le (muted _) (muted _))

/-- R136: a step toward a goal stays in every range that holds both. -/
theorem rampStep_mem {lo hi a e : Nat} (ha : lo ≤ a ∧ a ≤ hi) (he : lo ≤ e ∧ e ≤ hi) :
    lo ≤ rampStep a e ∧ rampStep a e ≤ hi := by
  unfold rampStep
  split_ifs <;> omega

theorem restartLevel_le (x : Supply) :
    (restartLevel x).gainCap ≤ if (restartLevel x).gainCap == muteStep then 181 else 180 := by
  cases x <;> decide

/-! ### Stored values (R144, R207) -/

theorem storedValues_requested_le (q : List Byte) : (storedValues q).requested ≤ 180 := by
  show inRange 0 180 24 (natAt q 73 1) ≤ 180
  unfold inRange
  split <;> omega

theorem parseVolume_requested_le {q : List Byte} {v : VolumeArgs} (h : parseVolume q = some v) : v.requested ≤ 180 := by
  unfold parseVolume at h
  split at h
  · dsimp only at h
    split at h
    next good => exact Option.some.inj h ▸ good.2.1
    next => exact absurd h (by simp)
  · exact absurd h (by simp)

/-! ### The relation that operations compose -/

/-- R136: a sound gain stays so. -/
def KeepsGain (s t : State) : Prop := s.gainSound → t.gainSound

namespace KeepsGain

section
variable {s t u : State}

theorem trans (h : KeepsGain s t) (g : KeepsGain t u) : KeepsGain s u := g ∘ h

theorem of_same (e : t.gainView = s.gainView) : KeepsGain s t := gainSound_congr e

/-- An operation that comes after others that leave the attenuations and the level. -/
theorem after_same (h : KeepsGain t u) (e : t.gainView = s.gainView) : KeepsGain s u := (of_same e).trans h

/-- An operation that others come after, which leave the attenuations and the level. -/
theorem then_same (h : KeepsGain s t) (e : u.gainView = t.gainView) : KeepsGain s u := h.trans (of_same e)

end

variable (s : State)

theorem refl : KeepsGain s s := id

/-! ### Shed levels (R150 to R156) -/

/-- R136, R153: a new level lifts the applied attenuation to its cap. -/
theorem setLevel (l : Level) : KeepsGain s (s.setLevel l) := by
  have lifted : KeepsGain s (s.modPmg fun p => { p with level := l, rise := 0, fall := 0 }).judgeDark.capGain := by
    intro ⟨requested, loaded, applied, _⟩
    have view := judgeDark_gainView (s.modPmg fun p => { p with level := l, rise := 0, fall := 0 })
    generalize (s.modPmg fun p => { p with level := l, rise := 0, fall := 0 }).judgeDark = t at view
    obtain ⟨hr, ha, hl, hv⟩ := GainView.mk.inj view
    refine ⟨hr.trans_le requested, hv.trans_le loaded, ?_, Nat.le_max_right _ _⟩
    exact max_le (ha.trans_le applied) (gainCap_le _)
  exact lifted.then_same (reformSync_gainView _ _)

theorem changeLevel (l : Level) : KeepsGain s (s.changeLevel l) := by
  unfold State.changeLevel
  split
  · exact refl s
  · exact (setLevel s l).then_same (by simp)

theorem counted (l : Level) (c : Counter) : KeepsGain s ((s.changeLevel l).bump c) := (changeLevel s l).then_same (by simp)

theorem jump : KeepsGain s s.jump := by
  unfold State.jump
  split
  · exact of_same (by simp)
  · exact counted s .l3 .shedJumps

theorem riseTest (m : Measurement) : KeepsGain s (s.riseTest m) := by
  unfold State.riseTest
  dsimp only
  split
  · split
    · exact (counted _ _ _).after_same (by simp)
    · exact of_same (by simp)
  · exact of_same (by simp)

theorem fallTest (m : Measurement) : KeepsGain s (s.fallTest m) := by
  unfold State.fallTest
  dsimp only
  split
  · split
    · exact (counted _ _ _).after_same (by simp)
    · exact of_same (by simp)
  · exact of_same (by simp)

theorem shed (m : Measurement) : KeepsGain s (s.shed m) := by
  unfold State.shed
  split
  · exact refl s
  · split
    · exact jump s
    · exact (riseTest s m).trans (fallTest _ m)

theorem recover : KeepsGain s s.recover := by
  unfold State.recover
  exact (changeLevel s .l2).then_same (by simp)

theorem supplyTests (m : Measurement) : KeepsGain s (s.supplyTests m) := by
  unfold State.supplyTests
  split
  · unfold State.recoveryTest
    dsimp only
    split
    · exact (recover _).after_same (by simp)
    · exact of_same (by simp)
  · exact of_same (by simp)
  · exact of_same (by simp)

theorem measure (m : Measurement) : KeepsGain s (s.measure m) := by
  unfold State.measure
  exact (((shed _ m).after_same (by simp)).trans (supplyTests _ m)).then_same (cableStep_gainView _ m)

/-! ### The reset and the store load (R145, R168, R207, R209) -/

/-- R145, R168: after a reset the applied attenuation is MUTE at L3 and 180 otherwise. -/
theorem doRestart : KeepsGain s s.doRestart := by
  have reset : KeepsGain s s.blocksRestart := fun ⟨_, loaded, _, _⟩ =>
    ⟨loaded, loaded, by show (if _ then 181 else 180) ≤ 181; split <;> decide, restartLevel_le _⟩
  unfold State.doRestart
  exact reset.then_same (by simp)

theorem restartOnLeave : KeepsGain s s.restartOnLeave := by
  unfold State.restartOnLeave
  split
  · exact doRestart s
  · exact refl s

theorem enterRetrain (c : Channel) : KeepsGain s (s.enterRetrain c) := by
  unfold State.enterRetrain
  exact (restartOnLeave _).after_same (by simp)

theorem enterSleep : KeepsGain s s.enterSleep := by
  unfold State.enterSleep
  exact (restartOnLeave _).after_same (by simp)

/-- R144, R207: the load puts a request in range in force, and the ramp goes to it. -/
theorem endLoad (x : StoreState) {v : Loaded} (h : v.requested ≤ 180) : KeepsGain s (s.endLoad x v) := by
  have taken : KeepsGain s (s.takeLoaded v) := fun ⟨_, _, applied, cap⟩ => ⟨h, h, applied, cap⟩
  unfold State.endLoad
  dsimp only
  split <;> exact taken.then_same (by simp)

end KeepsGain
end Sys2Proof.Machine
end

section
/-! Every command keeps the gain sound, row by row, and with it every step (O9). -/

namespace Sys2Proof.Machine

namespace KeepsGain
variable (s : State)

/-! ### What the rows share -/

/-- A row that acts under a condition, and otherwise has no effect. -/
theorem only {p : Prop} [Decidable p] {t : State} (h : KeepsGain s t) : KeepsGain s (if p then t else s) := by
  split
  · exact h
  · exact refl s

theorem request (k : ReqKind) (p : Port) (tag : Byte) (q : List Byte) (own : State → Answer)
    (h : KeepsGain s (own s).state) : KeepsGain s (s.request k p tag q own) := by
  refine only s ?_
  split
  · exact of_same (by simp)
  · exact h.then_same (by simp)

theorem withoutArgs (q : List Byte) (own : State → Answer) (h : KeepsGain s (own s).state) :
    KeepsGain s (withoutArgs q own s).state := by
  unfold Machine.withoutArgs
  split
  · exact h
  · exact refl s

/-! ### Power and link rows -/

theorem storeLoadComplete (r : Option (List Byte)) : Lands KeepsGain (.storeLoadComplete r) s := ⟨_, rfl, by
  have builtIn : Loaded.builtIn.requested ≤ 180 := by decide
  refine only s ?_
  split
  · split
    · exact endLoad s _ (storedValues_requested_le _)
    · exact endLoad s _ builtIn
  · exact endLoad s _ builtIn⟩

theorem inputMeasurement (v i : Nat) : Lands KeepsGain (.inputMeasurement v i) s := ⟨_, rfl, by
  split
  · exact refl s
  · exact (measure _ _).after_same (by simp)⟩

theorem railPowerGood (x : Rail) : Lands KeepsGain (.railPowerGood x) s := ⟨_, rfl, of_same (by split <;> simp)⟩

theorem railRampTimeout (x : Rail) : Lands KeepsGain (.railRampTimeout x) s := ⟨_, rfl, by
  split
  · exact only s (of_same (by simp))
  · exact refl s⟩

theorem trainingRecordReceived (r : BaseRecord) (l : BitVec 4) : Lands KeepsGain (.trainingRecordReceived r l) s :=
  ⟨_, rfl, by
    split
    · split <;> exact of_same (by simp)
    · exact refl s⟩

theorem trainingAttemptSucceeds (n : Nat) : Lands KeepsGain (.trainingAttemptSucceeds n) s := ⟨_, rfl, by
  split
  · exact only s (of_same (by simp))
  · exact refl s⟩

theorem trainingAttemptTimeout : Lands KeepsGain .trainingAttemptTimeout s := ⟨_, rfl, by
  split
  · exact only s (of_same (by simp))
  · exact refl s⟩

theorem symbolLockLost (l : Fin 4) : Lands KeepsGain (.symbolLockLost l) s := ⟨_, rfl, by
  split
  · exact only s (enterRetrain s _)
  · exact only s (of_same (by simp))
  · exact only s (of_same (by simp))
  · exact refl s⟩

theorem retrainAttemptSucceeds (n : Nat) : Lands KeepsGain (.retrainAttemptSucceeds n) s := ⟨_, rfl, by
  split
  · exact only s (of_same (by simp))
  · exact refl s⟩

theorem retrainAttemptTimeout : Lands KeepsGain .retrainAttemptTimeout s := ⟨_, rfl, by
  split
  · exact only s (of_same (by simp))
  · exact refl s⟩

theorem retryTimerExpiry : Lands KeepsGain .retryTimerExpiry s := ⟨_, rfl, by
  split
  · exact only s (of_same (by simp))
  · exact refl s⟩

theorem crcError : KeepsGain s s.crcError := by
  unfold State.crcError
  dsimp only
  split
  · exact (only _ (enterRetrain _ _)).after_same (by simp)
  · exact of_same (by simp)

theorem discard (d : Discard) : KeepsGain s (s.discard d) := by
  cases d with
  | crc => exact crcError s
  | stream | linkKind | pictureKind => exact id

theorem linkBlockDiscarded (b : List Byte) : Lands KeepsGain (.linkBlockDiscarded b) s := ⟨_, rfl, by
  split
  · split
    · exact discard s _
    · exact refl s
  · exact only s (of_same (by simp))⟩

theorem timeMark (q : List Byte) : Lands KeepsGain (.timeMark q) s :=
  ⟨_, rfl, only s (of_same (by split <;> simp))⟩

theorem timeBasisFree : Lands KeepsGain .timeBasisFree s := ⟨_, rfl, by
  split
  · exact only s (of_same (by simp))
  · exact refl s⟩

theorem sleepMark (q : List Byte) : Lands KeepsGain (.sleepMark q) s := ⟨_, rfl, only s (by
  split
  · exact enterSleep s
  · exact of_same (by simp))⟩

theorem messageLeft (p : Port) (r : MessageRole) : KeepsGain s (s.messageLeft p r) := by
  cases r with
  | notice | reply => exact id
  | restartReply => exact (doRestart _).after_same rfl
  | sleepReply =>
    unfold State.messageLeft
    dsimp only
    split
    · exact (enterSleep (s.replyLeft p)).after_same rfl
    · exact id

theorem blockSent (x : Transmission) : KeepsGain s (s.blockSent x) := by
  unfold State.blockSent
  dsimp only
  split
  · exact id
  · exact id
  · exact id
  · exact id
  · split
    · exact id
    · exact (messageLeft _ _ _).after_same (by simp)

theorem upstreamBlockSent : Lands KeepsGain .upstreamBlockSent s := ⟨_, rfl, by
  refine only s ?_
  split
  · exact (blockSent s _).then_same (opportunity_gainView _)
  · exact refl s⟩

theorem serviceFrameSent : Lands KeepsGain .serviceFrameSent s := ⟨_, rfl, by
  have sent : KeepsGain s s.frameSent := by
    unfold State.frameSent
    dsimp only
    split
    · exact (messageLeft _ _ _).after_same (by simp)
    · exact id
  split
  · exact refl s
  · exact sent.then_same (by simp)⟩

/-! ### Requests -/

section
variable (p : Port) (tag : Byte) (q : List Byte)

theorem attach : Lands KeepsGain (.attach p tag q) s := ⟨_, rfl, by
  have asked := request s .attach p tag q _ (withoutArgs s q (attachTo p) (of_same (by
    unfold attachTo
    repeat' split
    all_goals rfl)))
  split
  · exact asked.then_same (by simp)
  · exact asked⟩

theorem detach : Lands KeepsGain (.detach p tag q) s := ⟨_, rfl, by
  have asked := request s .detach p tag q _ (withoutArgs s q (fun s => .ok s []) id)
  split
  · exact asked.then_same (by simp)
  · exact asked⟩

theorem restart : Lands KeepsGain (.restart p tag q) s := ⟨_, rfl, by
  have asked := request s .restart p tag q _ (withoutArgs s q (restartBy p) id)
  split
  · exact asked.trans (doRestart _)
  · exact asked⟩

theorem startProcedure : Lands KeepsGain (.startProcedure p tag q) s := ⟨_, rfl, by
  have asked := request s .startProcedure p tag q (startBy q) (of_same (by
    unfold startBy
    repeat' split
    all_goals rfl))
  split
  · split
    · exact asked.then_same (by simp)
    · exact asked
  · exact asked⟩

/-- R137: a volume out of range is refused. -/
theorem setVolume : KeepsGain s (setVolume q s).state := by
  unfold Machine.setVolume
  split
  · exact refl s
  next v parsed =>
    have taken : KeepsGain s (s.modAud fun a => { a with requested := v.requested, mute := v.mute, target := v.target }) :=
      fun ⟨_, loaded, applied, cap⟩ => ⟨parseVolume_requested_le parsed, loaded, applied, cap⟩
    dsimp only
    split
    · exact taken.then_same (stopPlayback_gainView _)
    · exact taken

end

/-! ### Requests that leave the attenuations and the level -/

section
variable (p : Port) (q : List Byte)

theorem statusOf_gainView : (statusOf q s).state.gainView = s.gainView := by
  unfold statusOf
  split <;> rfl

theorem linkSleepBy_gainView : (linkSleepBy s).state.gainView = s.gainView := by
  unfold linkSleepBy
  repeat' split
  all_goals rfl

theorem setRate_gainView : (setRate q s).state.gainView = s.gainView := by
  unfold setRate
  split
  · rfl
  · exact reformSync_gainView _ _

theorem setWear_gainView : (setWear q s).state.gainView = s.gainView := by
  unfold setWear
  split
  · rfl
  · exact awayExpires_gainView _

theorem mapAxes_gainView : (mapAxes q s).state.gainView = s.gainView := by
  unfold mapAxes
  split
  · rfl
  · exact followStale_gainView _

theorem select_gainView : (select q s).state.gainView = s.gainView := by
  unfold select
  repeat' split
  all_goals rfl

theorem anchorBy_gainView : (anchorBy q s).state.gainView = s.gainView := by
  unfold anchorBy
  dsimp only
  repeat' split
  all_goals rfl

theorem setPose_gainView : (setPose q s).state.gainView = s.gainView := by
  unfold setPose
  split <;> rfl

theorem setProfile_gainView : (setProfile q s).state.gainView = s.gainView := by
  unfold setProfile
  split
  · rfl
  · simp [Answer.ok]

theorem stage_gainView : (stage q s).state.gainView = s.gainView := by
  unfold stage
  split <;> rfl

theorem setCapture_gainView : (setCapture q s).state.gainView = s.gainView := by
  unfold setCapture
  split
  · rfl
  · exact takeCapture_gainView _ _

theorem setLimits_gainView : (setLimits q s).state.gainView = s.gainView := by
  unfold setLimits
  split <;> rfl

theorem setResistance_gainView : (setResistance q s).state.gainView = s.gainView := by
  unfold setResistance
  split <;> rfl

theorem restartRails_gainView : (restartRails s).state.gainView = s.gainView := by
  unfold restartRails
  dsimp only
  split
  · rfl
  · simp [Answer.ok]

theorem abortBy_gainView : (abortBy s).state.gainView = s.gainView := by
  unfold abortBy
  split
  · rfl
  · simp [Answer.ok]

theorem readCountersBy_gainView : (readCountersBy p q s).state.gainView = s.gainView := by
  unfold readCountersBy
  split
  · rfl
  · split
    · rfl
    next clear _ =>
      cases clear
      · rfl
      · exact clearCounts_gainView s _

theorem clearBy_gainView : (clearBy q s).state.gainView = s.gainView := by
  unfold clearBy
  split
  · rfl
  · exact attend_gainView _

theorem maskBy_gainView : (maskBy q s).state.gainView = s.gainView := by
  unfold maskBy
  split
  · rfl
  · simp [Answer.ok]

end

/-! ### Procedures, sensors and sound -/

theorem biasCalCollectionEnd : Lands KeepsGain .biasCalCollectionEnd s := ⟨_, rfl, by
  split
  · exact only s (of_same (by simp))
  · exact refl s⟩

theorem storeWriteComplete : Lands KeepsGain .storeWriteComplete s := ⟨_, rfl, by split <;> exact id⟩

theorem storeReadbackComplete (b : List Byte) : Lands KeepsGain (.storeReadbackComplete b) s := ⟨_, rfl, by
  split
  · split <;> exact of_same (by simp)
  · exact refl s⟩

theorem sampleReadEnd (x : Sensor) (r : ReadResult) : Lands KeepsGain (.sampleReadEnd x r) s := ⟨_, rfl, by
  cases r <;> exact only s (of_same (by simp [State.readSucceeds]))⟩

theorem imuStartupTransaction (x : Sensor) (r : StartupResult) : Lands KeepsGain (.imuStartupTransaction x r) s :=
  ⟨_, rfl, by
    split
    · dsimp only
      split <;> exact of_same (by simp)
    · exact of_same (by simp)
    · exact refl s⟩

theorem imuStartupTimeout (x : Sensor) : Lands KeepsGain (.imuStartupTimeout x) s := ⟨_, rfl, by
  split
  · exact only s (of_same (by simp))
  · exact refl s⟩

theorem imuRetryExpiry (x : Sensor) : Lands KeepsGain (.imuRetryExpiry x) s := ⟨_, rfl, by
  split
  · exact only s id
  · exact refl s⟩

theorem wearReadDone (r : WearResult) : Lands KeepsGain (.wearReadDone r) s := ⟨_, rfl, only s (of_same (by
  unfold State.wearWakes
  split <;> simp))⟩

theorem blankStart : Lands KeepsGain .blankStart s :=
  ⟨_, rfl, only s (of_same (by simp [State.takeBlank, State.copyAtBlank]))⟩

theorem outputInstant (m1 m2 : Int) : Lands KeepsGain (.outputInstant m1 m2) s := ⟨_, rfl, only s (of_same
  ((CapturesOnly.of_capture _ m1 m2).gainView.trans ((PlaysOnly.of_playback _).gainView.trans rfl)))⟩

/-- R136: the ramp goes toward the effective attenuation, which is at least the cap. -/
theorem attenuationRampStep : Lands KeepsGain .attenuationRampStep s := ⟨_, rfl, only s fun sound => by
  obtain ⟨requested, loaded, applied, cap⟩ := sound
  obtain ⟨stepCap, stepApplied⟩ := rampStep_mem ⟨cap, applied⟩ ⟨gainCap_le_effective s, effective_le requested⟩
  exact ⟨requested, loaded, stepApplied, stepCap⟩⟩

/-- R206, R208: the values after power-on are those of the reset state. -/
theorem powerOn (x : Straps) : Lands KeepsGain (.powerOn x) s := ⟨_, rfl, by
  have on : KeepsGain s (s.powerOn x) := fun _ => by
    show State.reset.gainSound
    unfold State.gainSound
    decide
  split
  · exact on
  · exact on.trans (endLoad _ _ (by decide))⟩

/-! ### Every command -/

theorem exec (i : Instr) : Lands KeepsGain i s := by
  cases i with
  | powerOn x => exact powerOn s x
  | storeLoadComplete r => exact storeLoadComplete s r
  | inputMeasurement v i => exact inputMeasurement s v i
  | railPowerGood x => exact railPowerGood s x
  | railRampTimeout x => exact railRampTimeout s x
  | powerGoodWithdrawn x => exact ⟨_, rfl, only s (of_same (by simp))⟩
  | trainingRecordReceived r l => exact trainingRecordReceived s r l
  | trainingAttemptSucceeds n => exact trainingAttemptSucceeds s n
  | trainingAttemptTimeout => exact trainingAttemptTimeout s
  | symbolLockLost l => exact symbolLockLost s l
  | retrainAttemptSucceeds n => exact retrainAttemptSucceeds s n
  | retrainAttemptTimeout => exact retrainAttemptTimeout s
  | retryTimerExpiry => exact retryTimerExpiry s
  | lineEnergyDetected => exact ⟨_, rfl, only s (of_same (by simp))⟩
  | linkBlockDiscarded b => exact linkBlockDiscarded s b
  | crcWindowBoundary => exact ⟨_, rfl, only s id⟩
  | timeMark q => exact timeMark s q
  | timeBasisFree => exact timeBasisFree s
  | sleepMark q => exact sleepMark s q
  | statusBeatDue => exact ⟨_, rfl, only s (of_same (by simp))⟩
  | upstreamBlockSent => exact upstreamBlockSent s
  | frameBegin q => exact ⟨_, rfl, only s (of_same (by simp))⟩
  | lines q => exact ⟨_, rfl, only s (of_same (by simp))⟩
  | frameEnd q => exact ⟨_, rfl, only s (of_same (by simp))⟩
  | sound q => exact ⟨_, rfl, only s (of_same (by simp))⟩
  | controlBlockReceived q => exact ⟨_, rfl, only s (of_same (by split <;> simp))⟩
  | serviceFrameReceived b => exact ⟨_, rfl, only s (of_same (by simp [State.hearBytes]))⟩
  | serviceByteTimeout => exact ⟨_, rfl, of_same (by simp)⟩
  | serviceFrameSent => exact serviceFrameSent s
  | unknownKind p tag k q => exact ⟨_, rfl, only s (of_same (by simp))⟩
  | attach p tag q => exact attach s p tag q
  | detach p tag q => exact detach s p tag q
  | getInfo p tag q => exact ⟨_, rfl, request s _ p tag q _ (withoutArgs s q (fun s => .ok s (s.infoBytes p)) id)⟩
  | getStatus p tag q => exact ⟨_, rfl, request s _ p tag q _ (of_same (statusOf_gainView s q))⟩
  | restart p tag q => exact restart s p tag q
  | linkSleep p tag q => exact ⟨_, rfl, request s _ p tag q _ (withoutArgs s q _ (of_same (linkSleepBy_gainView s)))⟩
  | setSensorRate p tag q => exact ⟨_, rfl, request s _ p tag q _ (of_same (setRate_gainView s q))⟩
  | setWear p tag q => exact ⟨_, rfl, request s _ p tag q _ (of_same (setWear_gainView s q))⟩
  | setAxisMap p tag q => exact ⟨_, rfl, request s _ p tag q _ (of_same (mapAxes_gainView s q))⟩
  | selectPrimary p tag q => exact ⟨_, rfl, request s _ p tag q _ (of_same (select_gainView s q))⟩
  | anchor p tag q => exact ⟨_, rfl, request s _ p tag q _ (of_same (anchorBy_gainView s q))⟩
  | setPoseOverride p tag q => exact ⟨_, rfl, request s _ p tag q _ (of_same (setPose_gainView s q))⟩
  | clearPoseOverride p tag q => exact ⟨_, rfl, request s _ p tag q _ (withoutArgs s q _ id)⟩
  | setProfile p tag q => exact ⟨_, rfl, request s _ p tag q _ (of_same (setProfile_gainView s q))⟩
  | stagePulses p tag q => exact ⟨_, rfl, request s _ p tag q _ (of_same (stage_gainView s q))⟩
  | setVolume p tag q => exact ⟨_, rfl, request s _ p tag q _ (setVolume s q)⟩
  | setCapture p tag q => exact ⟨_, rfl, request s _ p tag q _ (of_same (setCapture_gainView s q))⟩
  | setPowerLimits p tag q => exact ⟨_, rfl, request s _ p tag q _ (of_same (setLimits_gainView s q))⟩
  | setCableResistance p tag q => exact ⟨_, rfl, request s _ p tag q _ (of_same (setResistance_gainView s q))⟩
  | railRestart p tag q => exact ⟨_, rfl, request s _ p tag q _ (withoutArgs s q _ (of_same (restartRails_gainView s)))⟩
  | startProcedure p tag q => exact startProcedure s p tag q
  | abortProcedure p tag q => exact ⟨_, rfl, request s _ p tag q _ (withoutArgs s q _ (of_same (abortBy_gainView s)))⟩
  | getProcedureResult p tag q => exact ⟨_, rfl, request s _ p tag q _ (withoutArgs s q (fun s => .ok s s.prr.bytes) id)⟩
  | readConditions p tag q => exact ⟨_, rfl, request s _ p tag q _ (withoutArgs s q (fun s => .ok s s.conditionBytes) id)⟩
  | readCounters p tag q => exact ⟨_, rfl, request s _ p tag q _ (of_same (readCountersBy_gainView s p q))⟩
  | clearConditions p tag q => exact ⟨_, rfl, request s _ p tag q _ (of_same (clearBy_gainView s q))⟩
  | setNoticeMask p tag q => exact ⟨_, rfl, request s _ p tag q _ (of_same (maskBy_gainView s q))⟩
  | biasCalCollectionEnd => exact biasCalCollectionEnd s
  | storeWriteComplete => exact storeWriteComplete s
  | storeReadbackComplete b => exact storeReadbackComplete s b
  | sampleTick => exact ⟨_, rfl, only s id⟩
  | sampleReadEnd x r => exact sampleReadEnd s x r
  | imuStartupTransaction x r => exact imuStartupTransaction s x r
  | imuStartupTimeout x => exact imuStartupTimeout s x
  | imuRetryExpiry x => exact imuRetryExpiry s x
  | silenceWatchExpiry => exact ⟨_, rfl, only s (of_same (by simp))⟩
  | poseStale => exact ⟨_, rfl, of_same (by simp)⟩
  | wearReadTick => exact ⟨_, rfl, only s id⟩
  | wearReadDone r => exact wearReadDone s r
  | awayTimerExpiry => exact ⟨_, rfl, of_same (by simp)⟩
  | blankStart => exact blankStart s
  | illumPulseStart x => exact ⟨_, rfl, only s id⟩
  | illumPulseEnd x => exact ⟨_, rfl, only s id⟩
  | outputInstant m1 m2 => exact outputInstant s m1 m2
  | attenuationRampStep => exact attenuationRampStep s
  | holdoffExpiry => exact ⟨_, rfl, only s (of_same (by simp))⟩
  | quietHoldEnd => exact ⟨_, rfl, only s (of_same (by simp))⟩

end KeepsGain

/-- Settles O9: a step is a command, which keeps the gain sound, or the passing of a microsecond, which leaves it. -/
theorem gainStaysAboveCap : Obligations.GainStaysAboveCap := by
  intro s t sound h
  obtain ⟨c, rest, _, he⟩ | ⟨_, rfl⟩ := step_cases h
  · exact (KeepsGain.exec _ c).of_exec he sound
  · exact sound

end Sys2Proof.Machine
end

section
/-! SOUND blocks: what is discarded, late and missed, and the frames that are appended (O55). -/

namespace Sys2Proof.Machine

/-! ### The block and its frames (R126, R127, R213) -/

theorem soundFrames_length (q : List Byte) (off n : Nat) : (soundFrames q off n).length = n := by
  induction n generalizing off with
  | zero => rfl
  | succ n ih => rw [soundFrames, List.length_cons, ih]

theorem audioOn_eq_false {s : State} : s.audioOn = false ↔ s.pmg.rails.audio ≠ .on := beq_eq_false_iff_ne

theorem exec_sound_active {s : State} {c : Channel} (h : s.tlc.link = .active c) (q : List Byte) :
    exec (.sound q) s = .next (s.takeSound (parseSound q)) :=
  congrArg Host.Outcome.next (if_pos (linkActive_of h))

theorem parseSound_short {q : List Byte} (h : q.length < 290) : parseSound q = none := if_pos h

theorem parseSound_whole {q : List Byte} (h : 290 ≤ q.length) :
    parseSound q = some (BitVec.ofNat 16 (natAt q 0 2), soundFrames q 2 48) := if_neg (by omega)

/-- R129: in STOPPED with the rail not ON no block is played. -/
def State.unplayed (s : State) : Prop := s.aud.playback = .stopped ∧ s.pmg.rails.audio ≠ .on

theorem takeSound_unplayed {s : State} (h : s.unplayed) (b : Option (Seq × List Stereo)) :
    s.takeSound b = s.bump .soundBlocksDiscarded := by
  obtain ⟨stopped, off⟩ := h
  cases b with
  | none => rfl
  | some b => exact if_pos ⟨stopped, audioOn_eq_false.2 off⟩

theorem judgeSequence_late {x : Option Seq} {e seq : Seq} (h : x = some e) (late : 32768 ≤ (seq - e).toNat) :
    judgeSequence x seq = none := by
  rw [h]
  exact if_neg (by omega)

theorem judgeSequence_missed {x : Option Seq} {seq : Seq} {missed : Nat}
    (h : x = none ∧ missed = 0 ∨ ∃ e, x = some e ∧ missed = (seq - e).toNat ∧ missed < 32768) :
    judgeSequence x seq = some missed := by
  obtain ⟨rfl, rfl⟩ | ⟨e, rfl, rfl, early⟩ := h
  · rfl
  · exact if_pos (by omega)

/-! ### An accepted block (R126, R129) -/

/-- R126, R129: an accepted block before its frames are appended. -/
def State.inSequence (s : State) (seq : Seq) (missed : Nat) : State :=
  ((s.addCount .soundBlocksMissed missed).bump .soundBlocksAccepted).modAud fun a =>
    { a with expected := some (seq + 1), playback := if a.playback = .stopped then .priming else a.playback }

section
variable {s : State} {seq : Seq} {frames : List Stereo} (played : ¬ s.unplayed)
include played

theorem takeSound_late (h : judgeSequence s.aud.expected seq = none) :
    s.takeSound (some (seq, frames)) = s.bump .soundBlocksLate := by
  refine (if_neg fun ⟨stopped, off⟩ => played ⟨stopped, audioOn_eq_false.1 off⟩).trans ?_
  rw [h]

theorem takeSound_accepted {missed : Nat} (h : judgeSequence s.aud.expected seq = some missed) :
    s.takeSound (some (seq, frames)) = (s.inSequence seq missed).appendFrames frames := by
  refine (if_neg fun ⟨stopped, off⟩ => played ⟨stopped, audioOn_eq_false.1 off⟩).trans ?_
  rw [h]
  rfl

end

/-! ### The frames of an accepted block (R127) -/

/-- R127: what of a block's frames the buffer takes. -/
def Aud.keeps (a : Aud) (frames : List Stereo) : List Stereo := frames.take (512 - a.buffer.length)

section
variable {s : State} {frames : List Stereo}

theorem appendFrames_all (h : (s.aud.keeps frames).length = frames.length) :
    s.appendFrames frames = s.modAud fun a => { a with buffer := a.buffer ++ s.aud.keeps frames } :=
  if_pos (Nat.sub_eq_zero_of_le h.ge)

theorem appendFrames_overrun (h : (s.aud.keeps frames).length < frames.length) :
    s.appendFrames frames = ((s.modAud fun a => { a with buffer := a.buffer ++ s.aud.keeps frames }).addCount
      .playbackFramesDiscarded (frames.length - (s.aud.keeps frames).length)).raise .overrun :=
  if_neg (Nat.sub_ne_zero_of_lt h)

/-- R127: what an append leaves alone. -/
structure Appended (s t : State) (frames : List Stereo) : Prop where
  aud : t.aud = { s.aud with buffer := s.aud.buffer ++ s.aud.keeps frames }
  count : ∀ c, c ≠ .playbackFramesDiscarded → c ≠ .noticesIssued → c ≠ .noticesCoalesced → t.count c = s.count c
  fst : t.fst = s.fst
  oin : t.oin = s.oin
  msu : t.msu = s.msu
  pmg : t.pmg = s.pmg

theorem appendFrames_appended : Appended s (s.appendFrames frames) frames := by
  obtain h | h := Nat.lt_or_eq_of_le (List.length_take_le' (512 - s.aud.buffer.length) frames)
  · rw [appendFrames_overrun h]
    refine ⟨by simp, fun c hc hi hn => ?_, by simp, by simp, by simp, by simp⟩
    rw [State.raise_count _ _ _ hi hn, count_addCount, if_neg hc]
    rfl
  · rw [appendFrames_all h]
    exact ⟨rfl, fun _ _ _ _ => rfl, rfl, rfl, rfl, rfl⟩

end

/-- Settles O55: a block is short, unplayed, late or in sequence, and what the buffer takes of the last. -/
theorem soundBlocksAreTaken : Obligations.SoundBlocksAreTaken := by
  intro s c q link seq stopped kept
  rw [exec_sound_active link]
  refine ⟨fun h => ?_, fun long played => ?_⟩
  · obtain short | unplayed := h
    · rw [parseSound_short short]
      rfl
    · rw [takeSound_unplayed unplayed]
  rw [parseSound_whole long]
  refine ⟨fun e he late => ?_, fun missed hm => ⟨_, rfl, ?_⟩⟩
  · rw [takeSound_late played (judgeSequence_late he late)]
  rw [takeSound_accepted played (judgeSequence_missed hm)]
  have appended := appendFrames_appended (s := s.inSequence seq missed) (frames := soundFrames q 2 48)
  have keeps : (s.inSequence seq missed).aud.keeps (soundFrames q 2 48) = kept := rfl
  have length := soundFrames_length q 2 48
  refine ⟨appended.aud, ?_, ?_, fun fewer => ?_, fun all => ?_, appended.fst, appended.oin, appended.msu, appended.pmg⟩
  · rw [appended.count _ Counter.noConfusion Counter.noConfusion Counter.noConfusion]
    simp [State.inSequence, oneMore]
  · rw [appended.count _ Counter.noConfusion Counter.noConfusion Counter.noConfusion]
    simp [State.inSequence]
  · rw [appendFrames_overrun (by rw [keeps, length]; exact fewer), keeps, length]
    simp [State.inSequence]
  · rw [appendFrames_all (by rw [keeps, length]; exact all)]
    rfl

end Sys2Proof.Machine
end

section
/-! The ramp of the applied attenuation, SET_VOLUME and SET_CAPTURE (O57). -/

namespace Sys2Proof.Machine

/-! ### The effective attenuation and the ramp (R135, R136) -/

/-- R135: the greatest of a request, the shed cap and the two mutes. -/
def State.goal (s : State) (requested : Nat) (mute : Bool) : Nat :=
  max (max requested (match s.pmg.level with | .l0 | .l1 => 0 | .l2 => 12 | .l3 => 181))
    (if s.msu.wear = .away ∨ mute = true then 181 else 0)

theorem effective_eq (s : State) : s.effective = s.goal s.aud.requested s.aud.mute := by
  have cap : s.pmg.level.gainCap = match s.pmg.level with | .l0 | .l1 => 0 | .l2 => 12 | .l3 => 181 := by
    cases s.pmg.level <;> rfl
  unfold State.effective State.goal
  rw [cap]
  refine congrArg _ ?_
  by_cases away : s.msu.wear = .away <;> cases s.aud.mute <;> simp [away, muteStep]

theorem exec_rampStep {s : State} (h : s.lt % 1000 = 0) (last : s.aud.lastRamp ≠ some s.lt) :
    exec .attenuationRampStep s = .next { s with aud := { s.aud with
      applied := rampStep s.aud.applied (s.goal s.aud.requested s.aud.mute), lastRamp := some s.lt } } := by
  have due : s.rampDue = true := by simp [State.rampDue, h, last]
  rw [← effective_eq]
  exact congrArg Host.Outcome.next (if_pos due)

/-! ### SET_VOLUME (R137) -/

/-- R137: the ranges of the arguments. -/
def VolumeInRange (q : List Byte) : Prop :=
  q.length = 5 ∧ natAt q 0 1 ≤ 180 ∧ natAt q 1 1 ≤ 1 ∧ 96 ≤ natAt q 2 2 ∧ natAt q 2 2 ≤ 384 ∧ natAt q 4 1 ≤ 1

theorem parseVolume_good {q : List Byte} (h : VolumeInRange q) :
    parseVolume q = some ⟨natAt q 0 1, natAt q 1 1 == 1, natAt q 2 2, natAt q 4 1 == 1⟩ := by
  obtain ⟨len, requested, mute, least, most, flush⟩ := h
  rw [natAt_one (off := 1) (by omega)] at mute ⊢
  rw [natAt_one (off := 4) (by omega)] at flush ⊢
  rw [parseVolume, parseBool_le_one mute, parseBool_le_one flush]
  exact if_pos ⟨len, requested, least, most⟩

theorem parseVolume_bad {q : List Byte} (h : ¬ VolumeInRange q) : parseVolume q = none := by
  unfold parseVolume
  by_cases mute : (byteAt q 1).toNat ≤ 1
  · by_cases flush : (byteAt q 4).toNat ≤ 1
    · rw [parseBool_le_one mute, parseBool_le_one flush]
      refine if_neg fun ⟨len, requested, least, most⟩ => h ⟨len, requested, ?_, least, most, ?_⟩
      · rw [natAt_one (by omega)]
        exact mute
      · rw [natAt_one (by omega)]
        exact flush
    · rw [parseBool_above flush]
      split <;> simp_all
  · rw [parseBool_above mute]

/-- R137: the three settings taken. -/
def State.volumeTaken (s : State) (q : List Byte) : State :=
  s.modAud fun a => { a with requested := natAt q 0 1, mute := natAt q 1 1 == 1, target := natAt q 2 2 }

/-- R137: the values of the reply. -/
def State.volumeValues (s : State) (q : List Byte) : List Byte :=
  attenuationBytes (s.goal (natAt q 0 1) (natAt q 1 1 == 1)) ++ attenuationBytes s.aud.applied

section
variable {s : State} {q : List Byte} (h : VolumeInRange q)
include h

theorem setVolume_kept (flush : natAt q 4 1 = 0) : setVolume q s = .ok (s.volumeTaken q) (s.volumeValues q) := by
  rw [setVolume, parseVolume_good h, flush]
  exact congrArg (fun e => Answer.ok (s.volumeTaken q) (attenuationBytes e ++ attenuationBytes s.aud.applied))
    (effective_eq (s.volumeTaken q))

theorem setVolume_flushed (flush : natAt q 4 1 = 1) :
    setVolume q s = .ok (s.volumeTaken q).stopPlayback (s.volumeValues q) := by
  rw [setVolume, parseVolume_good h, flush]
  exact congrArg (fun e => Answer.ok (s.volumeTaken q).stopPlayback (attenuationBytes e ++ attenuationBytes s.aud.applied))
    (effective_eq (s.volumeTaken q).stopPlayback)

end

theorem setVolume_bad {s : State} {q : List Byte} (h : ¬ VolumeInRange q) : setVolume q s = .plain s .badArgument := by
  rw [setVolume, parseVolume_bad h]

/-! ### SET_CAPTURE (R138, R139, R142) -/

/-- R142: the ranges of the arguments. -/
def CaptureInRange (q : List Byte) : Prop :=
  q.length = 6 ∧ natAt q 0 1 ≤ 1 ∧ natAt q 1 1 ≤ 1 ∧ 1 ≤ natAt q 2 2 ∧ natAt q 2 2 ≤ 32767 ∧ 10 ≤ natAt q 4 2 ∧
    natAt q 4 2 ≤ 1000

/-- R142: the arguments that a payload carries. -/
def captureArgs (q : List Byte) : CaptureArgs := ⟨natAt q 0 1 == 1, natAt q 1 1 == 1, natAt q 2 2, natAt q 4 2⟩

theorem parseCapture_good {q : List Byte} (h : CaptureInRange q) : parseCapture q = some (captureArgs q) := by
  obtain ⟨len, capture, gate, ranges⟩ := h
  unfold captureArgs
  rw [natAt_one (off := 0) (by omega)] at capture ⊢
  rw [natAt_one (off := 1) (by omega)] at gate ⊢
  rw [parseCapture, parseBool_le_one capture, parseBool_le_one gate]
  exact if_pos ⟨len, ranges⟩

theorem parseCapture_bad {q : List Byte} (h : ¬ CaptureInRange q) : parseCapture q = none := by
  unfold parseCapture
  by_cases capture : (byteAt q 0).toNat ≤ 1
  · by_cases gate : (byteAt q 1).toNat ≤ 1
    · rw [parseBool_le_one capture, parseBool_le_one gate]
      refine if_neg fun ⟨len, ranges⟩ => h ⟨len, ?_, ?_, ranges⟩
      · rw [natAt_one (by omega)]
        exact capture
      · rw [natAt_one (by omega)]
        exact gate
    · rw [parseBool_above gate]
      split <;> simp_all
  · rw [parseBool_above capture]

/-- R138, R139, R141: the AUD after capture has stopped running. -/
def Aud.captureStopped (a : Aud) : Aud :=
  { a with
    forming := none
    gapPending := true
    gate := if a.gate = .open then .closed else a.gate
    loudRun := if a.gate = .open then 0 else a.loudRun
    quietRun := if a.gate = .open then 0 else a.quietRun }

/-- R139: the AUD after the gate has been enabled or disabled. -/
def Aud.gateSet (a : Aud) (enabled : Bool) : Aud :=
  match a.gate, enabled with
  | .disabled, true => { a with gate := .closed, loudRun := 0, quietRun := 0 }
  | .open, false => { a with gate := .disabled, loudRun := 0, quietRun := 0 }
  | .closed, false => { a with gate := .disabled, loudRun := 0, quietRun := 0, gateMark := a.gateMark || a.gatedSince }
  | _, _ => a

theorem stopCapture_aud (s : State) : s.stopCapture.aud = s.aud.captureStopped := by
  unfold State.stopCapture
  dsimp only
  split
  · exact State.raise_aud _ _
  · rfl

theorem setGate_aud (s : State) (b : Bool) : (s.setGate b).aud = s.aud.gateSet b := by
  unfold State.setGate Aud.gateSet
  cases s.aud.gate <;> cases b
  case open.false => exact State.raise_aud _ _
  all_goals rfl

/-- R139: a gate that closes or is disabled while OPEN ends the voice. -/
theorem stopCapture_voiceEnd {s : State} (h : s.aud.gate = .open) : s.stopCapture.ntu.pending.has .voiceEnd = true := by
  simp [State.stopCapture, h]

theorem setGate_voiceEnd {s : State} (h : s.aud.gate = .open) : (s.setGate false).ntu.pending.has .voiceEnd = true := by
  simp [State.setGate, h]

section
variable (a : Aud)

theorem Aud.gateSet_eq (b : Bool) : a.gateSet b = { a with
    gate := (a.gateSet b).gate, loudRun := (a.gateSet b).loudRun, quietRun := (a.gateSet b).quietRun
    gateMark := (a.gateSet b).gateMark } := by
  unfold Aud.gateSet
  split <;> rfl

theorem Aud.gateSet_disabled : (a.gateSet false).gate = .disabled := by
  unfold Aud.gateSet
  cases h : a.gate <;> simp [h]

theorem Aud.gateSet_enabled : (a.gateSet true).gate = if a.gate = .open then .open else .closed := by
  unfold Aud.gateSet
  cases h : a.gate <;> simp [h]

theorem Aud.gateSet_mark (h : a.gate = .closed) : (a.gateSet false).gateMark = (a.gateMark || a.gatedSince) := by
  simp [Aud.gateSet, h]

end

namespace InstantFrame
variable (s : State)

theorem of_stopCapture : InstantFrame s s.stopCapture := by
  unfold State.stopCapture
  dsimp only
  split
  · exact (modAud s _).trans (raise _ _)
  · exact modAud s _

theorem of_setGate (b : Bool) : InstantFrame s (s.setGate b) := by
  unfold State.setGate
  split
  · exact modAud s _
  · exact (modAud s _).trans (raise _ _)
  · exact modAud s _
  · exact refl s

end InstantFrame

/-- R142: the settings taken, before capture stops and the gate is set. -/
def State.captureSet (s : State) (c : CaptureArgs) : State :=
  s.modAud fun a => { a with captureEnabled := c.capture, openThreshold := c.threshold, hangover := c.hangover }

/-- R138, R142: whether the request stops capture. -/
def State.stops (s : State) (c : CaptureArgs) : Bool := s.captureRuns && !c.capture

/-- R138, R142: the settings taken, and capture stopped where they disable it. -/
def State.captureTaken (s : State) (c : CaptureArgs) : State :=
  if s.stops c then (s.captureSet c).stopCapture else s.captureSet c

theorem takeCapture_eq (s : State) (c : CaptureArgs) : s.takeCapture c = (s.captureTaken c).setGate c.gate := rfl

theorem setCapture_good {s : State} {q : List Byte} (h : CaptureInRange q) :
    setCapture q s = .ok (s.takeCapture (captureArgs q)) [] := by
  rw [setCapture, parseCapture_good h]

theorem setCapture_bad {s : State} {q : List Byte} (h : ¬ CaptureInRange q) : setCapture q s = .plain s .badArgument := by
  rw [setCapture, parseCapture_bad h]

theorem stops_iff {s : State} {q : List Byte} (h : CaptureInRange q) :
    s.stops (captureArgs q) = true ↔ s.pmg.rails.audio = .on ∧ s.aud.captureEnabled = true ∧ natAt q 0 1 = 0 := by
  have kept : natAt q 0 1 = 0 ↔ ¬ natAt q 0 1 = 1 := by
    obtain ⟨_, capture, _⟩ := h
    omega
  simp only [kept, State.stops, State.captureRuns, State.audioOn, captureArgs, Bool.and_eq_true, beq_iff_eq, Bool.not_eq_true',
    beq_eq_false_iff_ne, ne_eq, and_assoc]

section
variable (s : State) (c : CaptureArgs)

theorem takeCapture_frame : InstantFrame s (s.takeCapture c) := by
  rw [takeCapture_eq]
  refine .trans ?_ (.of_setGate _ c.gate)
  unfold State.captureTaken
  split
  · exact (InstantFrame.modAud s _).trans (.of_stopCapture _)
  · exact InstantFrame.modAud s _

theorem captureTaken_aud : (s.captureTaken c).aud =
    if s.stops c then (s.captureSet c).aud.captureStopped else (s.captureSet c).aud := by
  unfold State.captureTaken
  split
  · exact stopCapture_aud _
  · rfl

/-- R139, R142: the gate before it is set: closed where capture stops. -/
theorem captureTaken_gate : (s.captureTaken c).aud.gate =
    if s.aud.gate = .open ∧ s.stops c = true then .closed else s.aud.gate := by
  rw [captureTaken_aud]
  by_cases stops : s.stops c = true
  · by_cases open_ : s.aud.gate = .open <;> simp [stops, open_, Aud.captureStopped, State.captureSet]
  · simp [stops, State.captureSet]

theorem captureTaken_marks : (s.captureTaken c).aud.gateMark = s.aud.gateMark ∧
    (s.captureTaken c).aud.gatedSince = s.aud.gatedSince := by
  rw [captureTaken_aud]
  split <;> exact ⟨rfl, rfl⟩

/-- R138, R139, R142: what SET_CAPTURE moves of the AUD. -/
theorem takeCapture_aud : (s.takeCapture c).aud = { s.aud with
    captureEnabled := c.capture, openThreshold := c.threshold, hangover := c.hangover, gate := (s.takeCapture c).aud.gate
    loudRun := (s.takeCapture c).aud.loudRun, quietRun := (s.takeCapture c).aud.quietRun
    gateMark := (s.takeCapture c).aud.gateMark
    forming := if s.stops c then none else s.aud.forming, gapPending := s.aud.gapPending || s.stops c } := by
  rw [takeCapture_eq, setGate_aud, Aud.gateSet_eq, captureTaken_aud]
  by_cases stops : s.stops c = true
  · simp [stops, Aud.captureStopped, State.captureSet]
  · simp [stops, State.captureSet]

/-- R139: a voice that the request ends. -/
theorem takeCapture_voiceEnd (h : s.aud.gate = .open) (ends : c.gate = false ∨ s.stops c = true) :
    (s.takeCapture c).ntu.pending.has .voiceEnd = true := by
  rw [takeCapture_eq]
  by_cases stops : s.stops c = true
  · refine (InstantFrame.of_setGate _ c.gate).raised _ ?_
    rw [State.captureTaken, if_pos stops]
    exact stopCapture_voiceEnd h
  · rw [ends.resolve_right stops]
    exact setGate_voiceEnd (by rw [captureTaken_gate, if_neg fun e => stops e.2, h])

end

/-- Settles O57: the ramp, and each request by its ranges, with what the settings of capture do to the gate. -/
theorem gainAndCaptureSettings : Obligations.GainAndCaptureSettings := by
  refine fun s p tag q => ⟨exec_rampStep, fun h => ?_, fun h => ?_⟩
  · exact ⟨fun good flush => answers_of_directed h rfl (setVolume_kept good flush),
      fun good flush => answers_of_directed h rfl (setVolume_flushed good flush),
      fun bad => answers_of_directed h rfl (setVolume_bad bad)⟩
  refine ⟨fun good => ?_, fun bad => answers_of_directed h rfl (setCapture_bad bad)⟩
  obtain ⟨t, taken, replied⟩ := answers_of_directed (i := .setCapture p tag q) h rfl (setCapture_good good)
  have rest := replied.rest
  have aud : t.aud = (s.takeCapture (captureArgs q)).aud := by rw [rest]
  have ntu : t.ntu = (s.takeCapture (captureArgs q)).ntu := by rw [rest]
  have frame := takeCapture_frame s (captureArgs q)
  have stops := stops_iff (s := s) good
  have disabled : natAt q 1 1 = 0 → (captureArgs q).gate = false := fun e => by simp [captureArgs, e]
  have gateSet : (s.takeCapture (captureArgs q)).aud =
      (s.captureTaken (captureArgs q)).aud.gateSet (captureArgs q).gate := setGate_aud _ _
  refine ⟨t, taken, replied.lastReply, ?_, fun e => ?_, fun e => ?_, fun open_ ends => ?_, fun closed e => ?_,
    by rw [rest]; exact frame.pmg, by rw [rest]; exact frame.fst, by rw [rest]; exact frame.oin,
    by rw [rest]; exact frame.msu⟩
  · refine aud.trans ((takeCapture_aud s _).trans ?_)
    rw [aud, Bool.eq_iff_iff.2 (stops.trans decide_eq_true_iff.symm)]
    simp only [decide_eq_true_eq]
    rfl
  · rw [aud, gateSet, disabled e]
    exact Aud.gateSet_disabled _
  · rw [aud, gateSet, show (captureArgs q).gate = true by simp [captureArgs, e], Aud.gateSet_enabled, captureTaken_gate]
    by_cases open_ : s.aud.gate = .open
    · simp [open_, stops]
    · simp [open_]
  · rw [ntu]
    exact takeCapture_voiceEnd s _ open_ (ends.imp disabled stops.2)
  · rw [aud, gateSet, disabled e, Aud.gateSet_mark _ (by rw [captureTaken_gate, closed]; simp)]
    obtain ⟨mark, since⟩ := captureTaken_marks s (captureArgs q)
    rw [mark, since]

end Sys2Proof.Machine
end

section
/-! The playback half of an output instant (R128 to R134), case by case: what is delivered, the drift window and the drift run. -/

namespace Sys2Proof.Machine

/-! ### The drift servo (R132 to R134) -/

section
variable (a : Aud)

@[simp] theorem Aud.sampleFill_playback : a.sampleFill.playback = a.playback := by rw [sampleFill_eq]
@[simp] theorem Aud.sampleFill_buffer : a.sampleFill.buffer = a.buffer := by rw [sampleFill_eq]
@[simp] theorem Aud.sampleFill_played : a.sampleFill.played = a.played := by rw [sampleFill_eq]
@[simp] theorem Aud.sampleFill_again : a.sampleFill.again = a.again := by rw [sampleFill_eq]
@[simp] theorem Aud.sampleFill_lastValue : a.sampleFill.lastValue = a.lastValue := by rw [sampleFill_eq]
@[simp] theorem Aud.sampleFill_out : a.sampleFill.out = a.out := by rw [sampleFill_eq]
@[simp] theorem Aud.sampleFill_runDirection : a.sampleFill.runDirection = a.runDirection := by rw [sampleFill_eq]

variable {a}

theorem Aud.sampleFill_between (h : a.played % 48 ≠ 0) : a.sampleFill = a := if_neg h

theorem Aud.sampleFill_sampled (h : a.played % 48 = 0) (open_ : a.window.length < 9) :
    a.sampleFill = { a with window := a.window ++ [a.buffer.length] } := by
  have short : ¬ 10 ≤ (a.window ++ [a.buffer.length]).length := by
    rw [List.length_append, List.length_singleton]
    omega
  exact (if_pos h).trans (if_neg short)

theorem Aud.sampleFill_ended (h : a.played % 48 = 0) (full : a.window.length = 9) :
    let err := windowErr (a.window ++ [a.buffer.length]) a.target
    a.sampleFill = { a with
      window := [], lastErr := some err, due := decide_ err
      runLength := if (decide_ err).isNone then 0 else a.runLength } := by
  have whole : 10 ≤ (a.window ++ [a.buffer.length]).length := by
    rw [List.length_append, List.length_singleton, full]
  exact (if_pos h).trans (if_pos whole)

/-- R132: a sample leaves a run of zero at zero. -/
theorem Aud.sampleFill_runLength (h : a.runLength = 0) : a.sampleFill.runLength = 0 := by
  unfold Aud.sampleFill
  split
  · dsimp only
    split
    · dsimp only
      split
      · rfl
      · exact h
    · exact h
  · exact h

end

/-- R132: the AUD of an instant of PLAYING taken in `s`, before its fill is sampled. -/
structure Unsampled (s : State) (a : Aud) : Prop where
  played : a.played = s.aud.played + 1
  window : a.window = s.aud.window
  lastErr : a.lastErr = s.aud.lastErr
  due : a.due = none
  target : a.target = s.aud.target

/-- R132: the decision on an err. -/
theorem decide_cases (e : Int) : (48 < e → decide_ e = some .removal) ∧ (e < -48 → decide_ e = some .insertion) ∧
    (-48 ≤ e → e ≤ 48 → decide_ e = none) := by
  unfold decide_
  refine ⟨fun h => if_pos h, fun h => ?_, fun low high => ?_⟩
  · rw [if_neg (by omega), if_pos h]
  · rw [if_neg (by omega), if_neg (by omega)]

section
variable {s t u : State} {a : Aud}

/-- R132, R134: the window after an instant whose fill has been sampled. -/
theorem driftWindow_of (sampled : u.aud = a.sampleFill) (unsampled : Unsampled s a) (c : CapturesOnly u t) :
    DriftWindow s t := by
  obtain ⟨played, window, lastErr, due, target⟩ := unsampled
  have hw := c.window
  have he := c.lastErr
  have hd := c.due
  have hr := c.runLength
  have hb := c.buffer
  rw [sampled] at hw he hd hr hb
  rw [Aud.sampleFill_buffer] at hb
  refine ⟨?_, ?_, ?_⟩ <;> rw [← played, ← window]
  · intro between
    rw [Aud.sampleFill_between between] at hw he hd
    exact ⟨hw, he.trans lastErr, hd.trans due⟩
  · intro at48 open_
    rw [Aud.sampleFill_sampled at48 open_] at hw he hd
    exact ⟨hb ▸ hw, he.trans lastErr, hd.trans due⟩
  · intro at48 full
    rw [← target, hb]
    rw [Aud.sampleFill_ended at48 full] at hw he hd hr
    have err : windowErr (a.window ++ [a.buffer.length]) a.target =
        ((a.window.sum + a.buffer.length) / 10 : Nat) - (a.target : Int) := by
      rw [windowErr, List.sum_append, List.sum_singleton]
    rw [err] at he hd hr
    obtain ⟨above, below, inside⟩ := decide_cases (((a.window.sum + a.buffer.length) / 10 : Nat) - (a.target : Int))
    refine ⟨hw, he, fun h => hd.trans (above h), fun h => hd.trans (below h), fun low high =>
      ⟨hd.trans (inside low high), ?_⟩⟩
    rw [hr, inside low high]
    rfl

/-- R134: the length of the drift run after an adjustment, before the limit is judged. -/
def Aud.runAfter (a : Aud) (d : Adjust) : Nat := if a.runDirection = d then a.runLength + 1 else 1

theorem Aud.runOn_eq (a : Aud) (d : Adjust) : a.runOn d = { a with runDirection := d, runLength := a.runAfter d } := by
  unfold Aud.runOn Aud.runAfter
  split
  next same => rw [← same]
  next => rfl

theorem adjusted_aud_eq (d : Adjust) : (s.adjusted d).aud =
    { s.aud with runDirection := d, runLength := if 10 ≤ s.aud.runAfter d then 0 else s.aud.runAfter d } := by
  rw [adjusted_aud, Aud.runOn_eq]
  split <;> rfl

theorem Unsampled.adjusted (h : Unsampled s u.aud) (d : Adjust) : Unsampled s (u.adjusted d).aud := by
  rw [adjusted_aud_eq]
  exact ⟨h.played, h.window, h.lastErr, h.due, h.target⟩

/-- R134: the drift run after an adjustment made in `u`, which has the counters and the run of `s`. -/
theorem driftRun_of {d : Adjust} (c : CapturesOnly ((u.adjusted d).modAud Aud.sampleFill) t)
    (run : u.aud.runAfter d = s.aud.runAfter d) (played : u.aud.played = s.aud.played + 1)
    (count : u.count .driftLimits = s.count .driftLimits) : DriftRun d s t := by
  have hr : t.aud.runLength = (u.adjusted d).aud.sampleFill.runLength := c.runLength
  have hc : t.count .driftLimits = (u.adjusted d).count .driftLimits := c.counts _ (by decide)
  have length : (u.adjusted d).aud.runLength = if 10 ≤ s.aud.runAfter d then 0 else s.aud.runAfter d := by
    rw [adjusted_aud_eq, run]
  have runs : (u.aud.runOn d).runLength = s.aud.runAfter d := by rw [Aud.runOn_eq, run]
  rw [adjusted_count _ _ _ Counter.noConfusion Counter.noConfusion, runs, count] at hc
  refine ⟨?_, ?_, ?_⟩
  · rw [c.runDirection, State.modAud_aud, Aud.sampleFill_runDirection, adjusted_aud_eq]
  · intro n below
    refine ⟨hc.trans (if_neg ?_), fun between => ?_⟩
    · rintro (made | ⟨_, ten⟩)
      · cases d <;> exact Counter.noConfusion made
      · exact absurd ten (Nat.not_le.2 below)
    · rw [hr, Aud.sampleFill_between (by rw [adjusted_aud_eq]; exact played ▸ between), length]
      exact if_neg (Nat.not_le.2 below)
  · intro n atLimit
    refine ⟨?_, c.raised _ (adjusted_limit u d (by rw [runs]; exact atLimit)), hc.trans (if_pos (.inr ⟨rfl, atLimit⟩))⟩
    rw [hr]
    exact Aud.sampleFill_runLength (length.trans (if_pos atLimit))

end

/-! ### The instant (R128 to R130) -/

/-- R133, R134: without a due adjustment nothing is dropped. -/
theorem Aud.notMade_none {a : Aud} (h : a.due = none) : a.notMade = a := by
  rw [Aud.notMade, h]
  rfl

theorem Aud.notMade_some {a : Aud} {d : Adjust} (h : a.due = some d) : a.notMade = { a with due := none, runLength := 0 } := by
  rw [Aud.notMade, h]
  rfl

/-- R128: the instant has been taken, and nothing has acted on it. -/
def State.instantTaken (s : State) : State := s.modAud fun a => { a with lastInstant := some s.lt }

theorem isInstant_of {lt : Nat} (h : ∃ j < 48, lt % 1000 = j * 125 / 6) : isInstant lt = true := by
  obtain ⟨j, hj, r⟩ := h
  have number : (6 * (lt % 1000) + 124) / 125 = j := by omega
  simp only [isInstant, number, Bool.and_eq_true, decide_eq_true_eq, beq_iff_eq]
  exact ⟨hj, r.symm⟩

theorem exec_outputInstant {s : State} (on : s.pmg.rails.audio = .on) (last : s.aud.lastInstant ≠ some s.lt)
    (h : ∃ j < 48, s.lt % 1000 = j * 125 / 6) (m1 m2 : Int) :
    exec (.outputInstant m1 m2) s = .next (s.instantTaken.playback.capture m1 m2) := by
  have due : s.instantDue = true := by simp [State.instantDue, State.audioOn, on, isInstant_of h, last]
  exact congrArg Host.Outcome.next (if_pos due)

/-- R133: an instant at which an adjustment is due has delivered its frame; the adjustment is still to be counted. -/
def State.delivers (s : State) (f : Stereo) (rest : List Stereo) (again : Option Stereo) : State :=
  s.modAud fun a => ({ a with buffer := rest, due := none, again := again } : Aud).deliver f

theorem Unsampled.delivers (s : State) (f : Stereo) (rest : List Stereo) (again : Option Stereo) :
    Unsampled s (s.instantTaken.delivers f rest again).aud := ⟨rfl, rfl, rfl, rfl, rfl⟩

section
variable {s : State}

theorem playback_stopped (h : s.aud.playback = .stopped) : s.playback = s.modAud Aud.silent := by
  rw [State.playback, h]

theorem playback_playing (h : s.aud.playback = .playing) : s.playback = s.playInstant := by rw [State.playback, h]

theorem playback_fades (h : s.aud.playback = .underrun) (fading : s.aud.faded < 64) : s.playback = s.modAud Aud.fadeOut := by
  rw [State.playback, h]
  exact if_pos fading

/-- R129, R130: PRIMING, and an UNDERRUN that has faded out, wait for the target fill. -/
theorem playback_waits (h : s.aud.playback = .priming ∨ s.aud.playback = .underrun ∧ 64 ≤ s.aud.faded) :
    s.playback = s.tryPlay Aud.silent := by
  unfold State.playback
  obtain h | ⟨h, faded⟩ := h
  · rw [h]
  · rw [h]
    exact if_neg (Nat.not_lt.2 faded)

theorem tryPlay_below (h : s.aud.buffer.length < s.aud.target) (f : Aud → Aud) : s.tryPlay f = s.modAud f :=
  if_neg (Nat.not_le.2 h)

theorem tryPlay_filled (h : s.aud.target ≤ s.aud.buffer.length) (f : Aud → Aud) :
    s.tryPlay f = (s.modAud Aud.enterPlaying).playInstant := if_pos h

theorem playInstant_again {f : Stereo} (h : s.aud.again = some f) :
    s.playInstant = s.modAud fun a => (({ a with again := none } : Aud).deliver f).sampleFill := by
  rw [State.playInstant, h]

variable (once : s.aud.again = none)
include once

theorem playInstant_empty (h : s.aud.buffer = []) : s.playInstant = s.underrun := by
  rw [State.playInstant, once, h]

theorem playInstant_plain {f : Stereo} {rest : List Stereo} (due : s.aud.due = none) (h : s.aud.buffer = f :: rest) :
    s.playInstant = s.modAud fun a => (({ a with buffer := rest } : Aud).deliver f).sampleFill := by
  rw [State.playInstant, once, due, h]
  have kept := congrArg (fun a => { s with aud := (a.deliver f).sampleFill })
    (Aud.notMade_none (a := { s.aud with buffer := rest }) due)
  cases rest <;> exact kept

theorem playInstant_notMade {f : Stereo} (due : s.aud.due = some .removal) (h : s.aud.buffer = [f]) :
    s.playInstant = s.modAud fun a =>
      (({ a with buffer := [], due := none, runLength := 0 } : Aud).deliver f).sampleFill := by
  rw [State.playInstant, once, due, h]
  exact congrArg (fun a => { s with aud := (a.deliver f).sampleFill })
    (Aud.notMade_some (a := { s.aud with buffer := [] }) due)

theorem playInstant_removal {f g : Stereo} {rest : List Stereo} (due : s.aud.due = some .removal)
    (h : s.aud.buffer = f :: g :: rest) :
    s.playInstant = ((s.delivers (f.mean g) rest s.aud.again).adjusted .removal).modAud Aud.sampleFill := by
  conv_lhs => rw [State.playInstant, once, due, h]
  rfl

theorem playInstant_insertion {f : Stereo} {rest : List Stereo} (due : s.aud.due = some .insertion)
    (h : s.aud.buffer = f :: rest) :
    s.playInstant = ((s.delivers f rest (some f)).adjusted .insertion).modAud Aud.sampleFill := by
  rw [State.playInstant, once, due, h]
  cases rest <;> rfl

end

/-! ### What a delivered instant is (R128 to R134) -/

/-- R130: the fade-out goes on. -/
theorem Aud.fadeOut_fading {a : Aud} (h : a.faded < 64) : a.fadeOut =
    { a with faded := a.faded + 1, out := (a.lastValue.scale64 (64 - (a.faded + 1))).gain a.applied } := if_pos h

section
variable {s t : State} (c : CapturesOnly s.instantTaken.playback t)
include c

theorem done_silent (h : s.aud.playback = .stopped ∨ (s.aud.playback = .priming ∨ s.aud.playback = .underrun ∧ 64 ≤ s.aud.faded) ∧
    s.aud.buffer.length < s.aud.target) :
    t.aud.out = ⟨0, 0⟩ ∧ t.aud.playback = s.aud.playback ∧ t.aud.buffer = s.aud.buffer := by
  have silent : s.instantTaken.playback = s.instantTaken.modAud Aud.silent := by
    obtain stopped | ⟨waits, below⟩ := h
    · exact playback_stopped stopped
    · exact (playback_waits (s := s.instantTaken) waits).trans (tryPlay_below (s := s.instantTaken) below _)
  rw [silent] at c
  exact ⟨c.out, c.playback, c.buffer⟩

theorem done_starts {f : Stereo} {rest : List Stereo}
    (h : s.aud.playback = .priming ∨ s.aud.playback = .underrun ∧ 64 ≤ s.aud.faded) (buffer : s.aud.buffer = f :: rest)
    (filled : s.aud.target ≤ rest.length + 1) :
    t.aud.playback = .playing ∧ t.aud.buffer = rest ∧ t.aud.played = 1 ∧ t.aud.window = [] ∧
      t.aud.out = s.louder (fadedIn 1 f) := by
  have full : s.aud.target ≤ s.aud.buffer.length := by
    rw [buffer]
    exact filled
  rw [playback_waits (s := s.instantTaken) h, tryPlay_filled (s := s.instantTaken) full,
    playInstant_plain (s := s.instantTaken.modAud Aud.enterPlaying) rfl rfl buffer] at c
  have aud := State.modAud_aud (s.instantTaken.modAud Aud.enterPlaying) fun a =>
    (({ a with buffer := rest } : Aud).deliver f).sampleFill
  rw [Aud.sampleFill_between (show 1 % 48 ≠ 0 by decide)] at aud
  refine ⟨?_, ?_, ?_, ?_, ?_⟩
  · rw [c.playback, aud]
    rfl
  · rw [c.buffer, aud]
    rfl
  · rw [c.played, aud]
    rfl
  · rw [c.window, aud]
    rfl
  · rw [c.out, aud]
    rfl

theorem done_empties (h : s.aud.playback = .playing) (once : s.aud.again = none) (buffer : s.aud.buffer = []) :
    t.aud.playback = .underrun ∧ t.aud.faded = 1 ∧ t.aud.due = none ∧ t.aud.runLength = 0 ∧
      t.ntu.pending.has .underrun = true ∧ t.count .playbackUnderruns = oneMore (s.count .playbackUnderruns) ∧
      t.count .driftRemovals = s.count .driftRemovals ∧ t.count .driftInsertions = s.count .driftInsertions ∧
      t.aud.out = s.louder ⟨roundDiv (s.aud.lastValue.left * 63) 64, roundDiv (s.aud.lastValue.right * 63) 64⟩ := by
  rw [playback_playing (s := s.instantTaken) h, playInstant_empty (s := s.instantTaken) once buffer] at c
  have aud : s.instantTaken.underrun.aud = ({ s.instantTaken.aud with
      playback := .underrun, window := [], due := none, runLength := 0, faded := 0 } : Aud).fadeOut := State.raise_aud _ _
  rw [Aud.fadeOut_fading (Nat.zero_lt_succ 63)] at aud
  have count (d : Counter) (hd : d ∈ playbackCounters) : t.count d =
      if d = .playbackUnderruns then oneMore (s.count .playbackUnderruns) else s.count d := by
    rw [c.counts d hd, State.underrun, State.raise_count _ _ _ (by rintro rfl; revert hd; decide)
      (by rintro rfl; revert hd; decide), count_bump]
    rfl
  refine ⟨?_, ?_, ?_, ?_, c.raised _ (by simp [State.underrun]), ?_, ?_, ?_, ?_⟩
  · rw [c.playback, aud]
  · rw [c.faded, aud]
  · rw [c.due, aud]
  · rw [c.runLength, aud]
  · exact count _ (by decide)
  · exact count _ (by decide)
  · exact count _ (by decide)
  · rw [c.out, aud]
    rfl

theorem done_fades (h : s.aud.playback = .underrun) (fading : s.aud.faded < 64) :
    let left : Int := 64 - (s.aud.faded + 1)
    t.aud.playback = .underrun ∧ t.aud.buffer = s.aud.buffer ∧ t.aud.faded = s.aud.faded + 1 ∧
      t.aud.lastValue = s.aud.lastValue ∧
      t.aud.out = s.louder ⟨roundDiv (s.aud.lastValue.left * left) 64, roundDiv (s.aud.lastValue.right * left) 64⟩ := by
  rw [playback_fades (s := s.instantTaken) h fading] at c
  have aud : (s.instantTaken.modAud Aud.fadeOut).aud = _ := Aud.fadeOut_fading (a := s.instantTaken.aud) fading
  have left : ((64 - (s.aud.faded + 1) : Nat) : Int) = 64 - (s.aud.faded + 1) := by omega
  refine ⟨?_, ?_, ?_, ?_, ?_⟩
  · rw [c.playback, aud]
    exact h
  · rw [c.buffer, aud]
    rfl
  · rw [c.faded, aud]
    rfl
  · rw [c.lastValue, aud]
    rfl
  · rw [c.out, aud, ← left]
    rfl

theorem done_plays {f : Stereo} {rest : List Stereo} (h : s.aud.playback = .playing) (once : s.aud.again = none)
    (due : s.aud.due = none) (buffer : s.aud.buffer = f :: rest) :
    t.aud.playback = .playing ∧ t.aud.buffer = rest ∧ t.aud.played = s.aud.played + 1 ∧
      t.aud.lastValue = fadedIn (s.aud.played + 1) f ∧ t.aud.out = s.louder (fadedIn (s.aud.played + 1) f) ∧
      DriftWindow s t := by
  rw [playback_playing (s := s.instantTaken) h, playInstant_plain (s := s.instantTaken) once due buffer] at c
  have aud := State.modAud_aud s.instantTaken fun a => (({ a with buffer := rest } : Aud).deliver f).sampleFill
  refine ⟨?_, ?_, ?_, ?_, ?_, driftWindow_of aud ⟨rfl, rfl, rfl, due, rfl⟩ c⟩
  · rw [c.playback, aud, Aud.sampleFill_playback]
    exact h
  · rw [c.buffer, aud, Aud.sampleFill_buffer]
    rfl
  · rw [c.played, aud, Aud.sampleFill_played]
    rfl
  · rw [c.lastValue, aud, Aud.sampleFill_lastValue]
    rfl
  · rw [c.out, aud, Aud.sampleFill_out]
    rfl

theorem done_notMade {f : Stereo} (h : s.aud.playback = .playing) (once : s.aud.again = none)
    (due : s.aud.due = some .removal) (buffer : s.aud.buffer = [f]) :
    t.aud.playback = .playing ∧ t.aud.buffer = [] ∧ t.aud.runLength = 0 ∧
      t.count .driftRemovals = s.count .driftRemovals ∧ t.aud.out = s.louder (fadedIn (s.aud.played + 1) f) ∧
      DriftWindow s t := by
  rw [playback_playing (s := s.instantTaken) h, playInstant_notMade (s := s.instantTaken) once due buffer] at c
  have aud := State.modAud_aud s.instantTaken fun a =>
    (({ a with buffer := [], due := none, runLength := 0 } : Aud).deliver f).sampleFill
  refine ⟨?_, ?_, ?_, c.counts _ (by decide), ?_, driftWindow_of aud ⟨rfl, rfl, rfl, rfl, rfl⟩ c⟩
  · rw [c.playback, aud, Aud.sampleFill_playback]
    exact h
  · rw [c.buffer, aud, Aud.sampleFill_buffer]
    rfl
  · rw [c.runLength, aud]
    exact Aud.sampleFill_runLength rfl
  · rw [c.out, aud, Aud.sampleFill_out]
    rfl

theorem done_removal {f g : Stereo} {rest : List Stereo} (h : s.aud.playback = .playing) (once : s.aud.again = none)
    (due : s.aud.due = some .removal) (buffer : s.aud.buffer = f :: g :: rest) :
    t.aud.buffer = rest ∧ t.count .driftRemovals = oneMore (s.count .driftRemovals) ∧
      t.aud.out = s.louder (fadedIn (s.aud.played + 1)
        ⟨roundDiv (f.left + g.left) 2, roundDiv (f.right + g.right) 2⟩) ∧
      DriftRun .removal s t ∧ DriftWindow s t := by
  rw [playback_playing (s := s.instantTaken) h, playInstant_removal (s := s.instantTaken) once due buffer] at c
  have aud := State.modAud_aud ((s.instantTaken.delivers (f.mean g) rest s.instantTaken.aud.again).adjusted .removal)
    Aud.sampleFill
  refine ⟨?_, ?_, ?_, driftRun_of c rfl rfl rfl, driftWindow_of aud ((Unsampled.delivers _ _ _ _).adjusted _) c⟩
  · rw [c.buffer, aud, Aud.sampleFill_buffer, adjusted_aud_eq]
    rfl
  · rw [c.counts _ (by decide), State.modAud_count, adjusted_count _ _ _ Counter.noConfusion Counter.noConfusion]
    exact if_pos (.inl rfl)
  · rw [c.out, aud, Aud.sampleFill_out, adjusted_aud_eq]
    rfl

theorem done_insertion {f : Stereo} {rest : List Stereo} (h : s.aud.playback = .playing) (once : s.aud.again = none)
    (due : s.aud.due = some .insertion) (buffer : s.aud.buffer = f :: rest) :
    t.aud.buffer = rest ∧ t.aud.again = some f ∧ t.aud.out = s.louder (fadedIn (s.aud.played + 1) f) ∧
      t.count .driftInsertions = oneMore (s.count .driftInsertions) ∧ DriftRun .insertion s t ∧ DriftWindow s t := by
  rw [playback_playing (s := s.instantTaken) h, playInstant_insertion (s := s.instantTaken) once due buffer] at c
  have aud := State.modAud_aud ((s.instantTaken.delivers f rest (some f)).adjusted .insertion) Aud.sampleFill
  refine ⟨?_, ?_, ?_, ?_, driftRun_of c rfl rfl rfl,
    driftWindow_of aud ((Unsampled.delivers _ _ _ _).adjusted _) c⟩
  · rw [c.buffer, aud, Aud.sampleFill_buffer, adjusted_aud_eq]
    rfl
  · rw [c.again, aud, Aud.sampleFill_again, adjusted_aud_eq]
    rfl
  · rw [c.out, aud, Aud.sampleFill_out, adjusted_aud_eq]
    rfl
  · rw [c.counts _ (by decide), State.modAud_count, adjusted_count _ _ _ Counter.noConfusion Counter.noConfusion]
    exact if_pos (.inl rfl)

/-- R133: the second instant of an insertion. -/
theorem done_again {f : Stereo} (h : s.aud.playback = .playing) (twice : s.aud.again = some f) :
    t.aud.playback = .playing ∧ t.aud.buffer = s.aud.buffer ∧ t.aud.again = none ∧
      t.aud.out = s.louder (fadedIn (s.aud.played + 1) f) := by
  rw [playback_playing (s := s.instantTaken) h, playInstant_again (s := s.instantTaken) twice] at c
  have aud := State.modAud_aud s.instantTaken fun a => (({ a with again := none } : Aud).deliver f).sampleFill
  refine ⟨?_, ?_, ?_, ?_⟩
  · rw [c.playback, aud, Aud.sampleFill_playback]
    exact h
  · rw [c.buffer, aud, Aud.sampleFill_buffer]
    rfl
  · rw [c.again, aud, Aud.sampleFill_again]
    rfl
  · rw [c.out, aud, Aud.sampleFill_out]
    rfl

/-- R128 to R134: what capture leaves of the playback half is what the playback state asks for. -/
theorem playbackDone : PlaybackDone s t where
  stopped h := by
    obtain ⟨out, playback, buffer⟩ := done_silent c (.inl h)
    exact ⟨out, playback.trans h, buffer⟩
  primes h below := by
    obtain ⟨out, playback, buffer⟩ := done_silent c (.inr ⟨.inl h, below⟩)
    exact ⟨out, playback.trans h, buffer⟩
  starts _ _ h buffer filled := done_starts c h buffer filled
  empties h once buffer := done_empties c h once buffer
  fades h fading := done_fades c h fading
  silent h faded below := by
    obtain ⟨out, playback, buffer⟩ := done_silent c (.inr ⟨.inr ⟨h, faded⟩, below⟩)
    exact ⟨playback.trans h, buffer, out⟩
  plays _ _ h once due buffer := done_plays c h once due buffer
  removal _ _ _ h once due buffer := done_removal c h once due buffer
  notMade _ h once due buffer := done_notMade c h once due buffer
  insertion _ _ h once due buffer := done_insertion c h once due buffer
  again _ h twice := done_again c h twice

end
end Sys2Proof.Machine
end

section
/-! The capture half of an output instant (R138 to R141): the block in formation, the voice gate and the capture queue (O56). -/

namespace Sys2Proof.Machine

/-! ### What moves the gate alone -/

/-- The AUD without the state and the runs of the gate (R139). -/
def Aud.withoutGate (a : Aud) : Aud := { a with gate := .disabled, loudRun := 0, quietRun := 0 }

/-- The counters by which a block is queued, gated or lost (R139, R140). -/
def blockCounters : List Counter := [.captureBlocksGated, .captureQueueDrops]

/-- A step of the gate that neither queues nor gates a block; no condition is cleared. -/
structure GateOnly (s t : State) : Prop where
  aud : t.aud.withoutGate = s.aud.withoutGate
  tlc : t.tlc.stepCapture = s.tlc.stepCapture
  counts : ∀ c ∈ blockCounters, t.count c = s.count c
  raised : ∀ c, s.ntu.pending.has c = true → t.ntu.pending.has c = true

namespace GateOnly

section
variable {s t : State} (h : GateOnly s t)
include h

theorem queue : t.aud.queue = s.aud.queue := (congrArg Aud.queue h.aud :)
theorem captureSeq : t.aud.captureSeq = s.aud.captureSeq := (congrArg Aud.captureSeq h.aud :)
theorem gapPending : t.aud.gapPending = s.aud.gapPending := (congrArg Aud.gapPending h.aud :)
theorem gateMark : t.aud.gateMark = s.aud.gateMark := (congrArg Aud.gateMark h.aud :)

end

variable (s : State)

theorem refl : GateOnly s s := ⟨rfl, rfl, fun _ _ => rfl, fun _ => id⟩

theorem trans {s t u : State} (h : GateOnly s t) (g : GateOnly t u) : GateOnly s u :=
  ⟨g.aud.trans h.aud, g.tlc.trans h.tlc, fun c hc => (g.counts c hc).trans (h.counts c hc),
    fun c => g.raised c ∘ h.raised c⟩

theorem modAud (f : Aud → Aud) (h : (f s.aud).withoutGate = s.aud.withoutGate) : GateOnly s (s.modAud f) :=
  ⟨h, rfl, fun _ _ => rfl, fun _ => id⟩

theorem bump (c : Counter) (h : c ∉ blockCounters) : GateOnly s (s.bump c) :=
  ⟨rfl, rfl, fun d hd => by rw [count_bump, if_neg (by rintro rfl; exact h hd)], fun _ => id⟩

theorem raise (c : Condition) : GateOnly s (s.raise c) :=
  ⟨by simp, by simp, fun d hd => (sbn_raise s c).counts d (by rintro rfl; revert hd; decide) (by rintro rfl; revert hd; decide),
    (InstantFrame.raise s c).raised⟩

end GateOnly

/-! ### The capture queue (R19, R139, R140) -/

section
variable {s : State} {b : CaptureBlock}

theorem cutIf_aud (s : State) (x : Transmission) : (s.cutIf x).aud = s.aud := by
  unfold State.cutIf
  split <;> rfl

theorem cutIf_stepCapture (s : State) (x : Transmission) : (s.cutIf x).tlc.stepCapture = s.tlc.stepCapture := by
  unfold State.cutIf
  split <;> rfl

theorem enqueueCapture_room (h : s.aud.queue.length < 32) :
    s.enqueueCapture b = (s.modAud fun a => { a with queue := a.queue ++ [b] }).opportunity := if_pos h

/-- R140: a full queue loses its oldest block. -/
theorem enqueueCapture_full {old : CaptureBlock} {rest : List CaptureBlock} (h : 32 ≤ s.aud.queue.length)
    (queue : s.aud.queue = old :: rest) : s.enqueueCapture b =
      ((((s.modAud fun a => { a with queue := inherit old (rest ++ [b]) }).cutIf .capture).bump
        .captureQueueDrops).raise .captureDrop).opportunity := by
  refine (if_neg (Nat.not_lt.2 h)).trans ?_
  rw [queue]

variable (s b)

theorem enqueueCapture_cases : s.enqueueCapture b = (s.modAud fun a => { a with queue := a.queue ++ [b] }).opportunity ∨
    ∃ old rest, s.enqueueCapture b = ((((s.modAud fun a => { a with queue := inherit old (rest ++ [b]) }).cutIf .capture).bump
      .captureQueueDrops).raise .captureDrop).opportunity := by
  by_cases room : s.aud.queue.length < 32
  · exact .inl (enqueueCapture_room room)
  · obtain ⟨old, rest, queue⟩ := List.exists_cons_of_length_pos (Nat.lt_of_lt_of_le (by decide) (Nat.not_lt.1 room))
    exact .inr ⟨old, rest, enqueueCapture_full (Nat.not_lt.1 room) queue⟩

theorem enqueueCapture_aud : (s.enqueueCapture b).aud = { s.aud with queue := (s.enqueueCapture b).aud.queue } := by
  obtain e | ⟨_, _, e⟩ := enqueueCapture_cases s b <;> rw [e] <;> simp [cutIf_aud]

theorem enqueueCapture_stepCapture : (s.enqueueCapture b).tlc.stepCapture = s.tlc.stepCapture := by
  obtain e | ⟨_, _, e⟩ := enqueueCapture_cases s b <;> rw [e] <;> simp [cutIf_stepCapture]

theorem enqueueCapture_count (c : Counter) (hc : c ≠ .captureQueueDrops) (hi : c ≠ .noticesIssued)
    (hn : c ≠ .noticesCoalesced) : (s.enqueueCapture b).count c = s.count c := by
  have cut (u : State) : (u.cutIf .capture).count c = u.count c := by
    unfold State.cutIf
    split <;> rfl
  obtain e | ⟨_, _, e⟩ := enqueueCapture_cases s b
  · rw [e, State.opportunity_count _ _ hi hn]
    rfl
  · rw [e, State.opportunity_count _ _ hi hn, State.raise_count _ _ _ hi hn, count_bump, if_neg hc, cut]
    rfl

end

/-- R19, R139, R141: the marks are taken. -/
def State.captureMarksTaken (s : State) : State :=
  (s.modAud fun a => { a with gapPending := false, gateMark := false, gatedSince := false }).modTlc
    fun t => { t with stepCapture := false }

/-- R19, R139, R141: a block with the marks it takes. -/
def State.marked (s : State) (b : CaptureBlock) (opens : Bool) : CaptureBlock :=
  { b with gap := s.aud.gapPending, timeStep := s.tlc.stepCapture, gateOpen := opens || s.aud.gateMark }

section
variable (s : State) (b : CaptureBlock) (o : Bool)

theorem queueBlock_eq : s.queueBlock b o = s.captureMarksTaken.enqueueCapture (s.marked b o) := rfl

/-- R139: a block that is queued leaves the gate and the formation. -/
theorem queueBlock_aud : (s.queueBlock b o).aud = { s.aud with
    gapPending := false, gateMark := false, gatedSince := false, queue := (s.queueBlock b o).aud.queue } :=
  enqueueCapture_aud s.captureMarksTaken (s.marked b o)

theorem queueBlock_gate : (s.queueBlock b o).aud.gate = s.aud.gate := by rw [queueBlock_aud]
theorem queueBlock_loudRun : (s.queueBlock b o).aud.loudRun = s.aud.loudRun := by rw [queueBlock_aud]
theorem queueBlock_quietRun : (s.queueBlock b o).aud.quietRun = s.aud.quietRun := by rw [queueBlock_aud]
theorem queueBlock_forming : (s.queueBlock b o).aud.forming = s.aud.forming := by rw [queueBlock_aud]
theorem queueBlock_captureSeq : (s.queueBlock b o).aud.captureSeq = s.aud.captureSeq := by rw [queueBlock_aud]

theorem queueBlock_count (c : Counter) (hc : c ≠ .captureQueueDrops) (hi : c ≠ .noticesIssued)
    (hn : c ≠ .noticesCoalesced) : (s.queueBlock b o).count c = s.count c :=
  enqueueCapture_count s.captureMarksTaken (s.marked b o) c hc hi hn

variable {s b o}

theorem queueBlock_room (h : s.aud.queue.length < 32) : (s.queueBlock b o).aud.queue = s.aud.queue ++ [s.marked b o] := by
  rw [queueBlock_eq, enqueueCapture_room (s := s.captureMarksTaken) h, State.opportunity_aud]
  rfl

theorem queueBlock_full {old : CaptureBlock} {rest : List CaptureBlock} (h : 32 ≤ s.aud.queue.length)
    (queue : s.aud.queue = old :: rest) : (s.queueBlock b o).aud.queue = inherit old (rest ++ [s.marked b o]) ∧
      (s.queueBlock b o).count .captureQueueDrops = oneMore (s.count .captureQueueDrops) ∧
      (s.queueBlock b o).ntu.pending.has .captureDrop = true := by
  have cut (u : State) : (u.cutIf .capture).count .captureQueueDrops = u.count .captureQueueDrops := by
    unfold State.cutIf
    split <;> rfl
  rw [queueBlock_eq, enqueueCapture_full (s := s.captureMarksTaken) h queue]
  refine ⟨by simp [cutIf_aud], ?_, by simp⟩
  rw [State.opportunity_count _ _ Counter.noConfusion Counter.noConfusion,
    State.raise_count _ _ _ Counter.noConfusion Counter.noConfusion, count_bump, if_pos rfl, cut]
  rfl

end

/-! ### A completed block (R138, R139) -/

/-- R138: a completed block has taken its number, and a clipped one is counted. -/
def State.numbered (s : State) (g : Forming) : State :=
  let s' := s.modAud fun a => { a with captureSeq := a.captureSeq + 1, forming := none }
  if (s.blockOf g).clipped then s'.bump .captureClippedBlocks else s'

theorem completeBlock_eq (s : State) (g : Forming) : s.completeBlock g = (s.numbered g).gate (s.blockOf g) := rfl

section
variable (s : State) (g : Forming)

theorem numbered_aud : (s.numbered g).aud = { s.aud with captureSeq := s.aud.captureSeq + 1, forming := none } := by
  unfold State.numbered
  dsimp only
  split <;> rfl

theorem numbered_tlc : (s.numbered g).tlc = s.tlc := by
  unfold State.numbered
  dsimp only
  split <;> rfl

theorem numbered_count (c : Counter) (h : c ≠ .captureClippedBlocks) : (s.numbered g).count c = s.count c := by
  unfold State.numbered
  dsimp only
  split
  · rw [count_bump, if_neg h]
    rfl
  · rfl

theorem clips_iff (v : Int) : clips v = true ↔ v = 32767 ∨ v = -32768 := by simp [clips]

/-- R138: what a completed block carries before the gate. -/
theorem blockOf_captured (o : Bool) {v : State} (gap : v.aud.gapPending = s.aud.gapPending)
    (mark : v.aud.gateMark = s.aud.gateMark) (step : v.tlc.stepCapture = s.tlc.stepCapture) :
    Captured s g.start g.frames o (v.marked (s.blockOf g) o) where
  seq := rfl
  time := rfl
  frames := rfl
  gap := gap
  gateOpen := congrArg (o || ·) mark
  timeStep := step
  freeTime := beq_iff_eq
  clipped := by
    show (g.frames.any fun f => clips f.1 || clips f.2) = true ↔ _
    simp only [List.any_eq_true, Bool.or_eq_true, clips_iff]

end

section
variable {s v t : State} {g : Forming} {o : Bool}

/-- R138 to R141: a completed block that is queued, with the gate moved before or after. -/
theorem Queued.of_gate (before : GateOnly (s.numbered g) v) (after : GateOnly (v.queueBlock (s.blockOf g) o) t) :
    Queued s t g.start g.frames o := by
  have queue : v.aud.queue = s.aud.queue := by rw [before.queue, numbered_aud]
  refine ⟨⟨v.marked (s.blockOf g) o, ?_, fun room => ?_, fun old h rest full e => ?_⟩, ⟨?_, ?_, ?_⟩, ?_, ?_⟩
  · exact blockOf_captured s g o (by rw [before.gapPending, numbered_aud]) (by rw [before.gateMark, numbered_aud])
      (by rw [before.tlc, numbered_tlc])
  · rw [after.queue, queueBlock_room (by rw [queue]; exact room), queue]
  · obtain ⟨first, tail, parts⟩ := List.exists_cons_of_length_pos (Nat.lt_of_lt_of_le (by decide : 0 < 32) full)
    rw [parts, List.cons_append, List.cons.injEq] at e
    obtain ⟨rfl, e⟩ := e
    obtain ⟨moved, dropped, raised⟩ := queueBlock_full (b := s.blockOf g) (o := o) (by rw [queue]; exact full)
      (queue.trans parts)
    refine ⟨?_, ?_, after.raised _ raised⟩
    · rw [after.queue, moved, e]
      rfl
    · rw [after.counts _ (by decide), dropped, before.counts _ (by decide), numbered_count _ _ _ Counter.noConfusion]
  · rw [after.gapPending, queueBlock_aud]
  · rw [after.gateMark, queueBlock_aud]
  · rw [after.tlc]
    exact enqueueCapture_stepCapture v.captureMarksTaken _
  · rw [after.captureSeq, queueBlock_captureSeq, before.captureSeq, numbered_aud]
  · rw [after.counts _ (by decide), queueBlock_count _ _ _ _ Counter.noConfusion Counter.noConfusion Counter.noConfusion,
      before.counts _ (by decide), numbered_count _ _ _ Counter.noConfusion]

theorem Gated.of_gate (before : GateOnly (s.numbered g) v) : Gated s v.gateBlock := by
  refine ⟨?_, ⟨?_, ?_⟩, ?_, ?_, ?_⟩
  · exact before.queue.trans (by rw [numbered_aud])
  · exact before.captureSeq.trans (by rw [numbered_aud])
  · rw [State.gateBlock, count_bump, if_pos rfl, State.modAud_count, before.counts _ (by decide),
      numbered_count _ _ _ Counter.noConfusion]
    rfl
  · exact before.gapPending.trans (by rw [numbered_aud])
  · exact before.gateMark.trans (by rw [numbered_aud])
  · exact before.tlc.trans (by rw [numbered_tlc])

end

/-! ### The voice gate (R139) -/

theorem le_peak_from (n p : Nat) (frames : List (Int × Int)) :
    n ≤ frames.foldl (fun p f => max p (max f.1.natAbs f.2.natAbs)) p ↔
      n ≤ p ∨ ∃ f ∈ frames, n ≤ f.1.natAbs ∨ n ≤ f.2.natAbs := by
  induction frames generalizing p with
  | nil => simp
  | cons f fs ih => simp only [List.foldl_cons, ih, le_max_iff, List.exists_mem_cons_iff, or_assoc]

/-- R139: a block is loud by the greatest of its magnitudes. -/
theorem le_peak_iff {frames : List (Int × Int)} (h : frames ≠ []) (n : Nat) :
    n ≤ peak frames ↔ ∃ f ∈ frames, n ≤ f.1.natAbs ∨ n ≤ f.2.natAbs := by
  refine (le_peak_from n 0 frames).trans (or_iff_right_of_imp fun zero => ?_)
  obtain ⟨f, mem⟩ := List.exists_mem_of_ne_nil frames h
  exact ⟨f, mem, .inl (by omega)⟩

section
variable {s : State} {b : CaptureBlock}

theorem gate_disabled (h : s.aud.gate = .disabled) : s.gate b = s.queueBlock b false := by
  rw [State.gate, h]

theorem gate_closed_quiet (h : s.aud.gate = .closed) (quiet : ¬ s.aud.openThreshold ≤ peak b.frames) :
    s.gate b = (s.modAud fun a => { a with loudRun := 0 }).gateBlock := by
  rw [State.gate, h]
  exact if_neg (by rwa [decide_eq_true_iff])

theorem gate_closed_loud (h : s.aud.gate = .closed) (loud : s.aud.openThreshold ≤ peak b.frames) (run : s.aud.loudRun = 0) :
    s.gate b = (s.modAud fun a => { a with loudRun := a.loudRun + 1 }).gateBlock := by
  rw [State.gate, h]
  exact (if_pos (by rwa [decide_eq_true_iff])).trans (if_neg (by omega))

theorem gate_opens (h : s.aud.gate = .closed) (loud : s.aud.openThreshold ≤ peak b.frames) (run : 1 ≤ s.aud.loudRun) :
    s.gate b = (((s.modAud fun a => { a with gate := .open, loudRun := 0, quietRun := 0 }).queueBlock b true).raise
      .voiceStart).bump .voiceStarts := by
  rw [State.gate, h]
  exact (if_pos (by rwa [decide_eq_true_iff])).trans (if_pos (by omega))

theorem gate_open_loud (h : s.aud.gate = .open) (loud : s.aud.openThreshold ≤ peak b.frames) :
    s.gate b = (s.modAud fun a => { a with quietRun := 0 }).queueBlock b false := by
  rw [State.gate, h]
  exact if_pos (by rwa [decide_eq_true_iff])

theorem gate_open_quiet (h : s.aud.gate = .open) (quiet : ¬ s.aud.openThreshold ≤ peak b.frames)
    (within : s.aud.quietRun + 1 < s.aud.hangover) :
    s.gate b = (s.modAud fun a => { a with quietRun := a.quietRun + 1 }).queueBlock b false := by
  rw [State.gate, h]
  exact (if_neg (by rwa [decide_eq_true_iff])).trans (if_pos within)

theorem gate_closes (h : s.aud.gate = .open) (quiet : ¬ s.aud.openThreshold ≤ peak b.frames)
    (spent : s.aud.hangover ≤ s.aud.quietRun + 1) :
    s.gate b = ((s.queueBlock b false).modAud fun a => { a with gate := .closed, quietRun := 0 }).raise .voiceEnd := by
  rw [State.gate, h]
  exact (if_neg (by rwa [decide_eq_true_iff])).trans (if_neg (by omega))

end
end Sys2Proof.Machine
end

section
/-! The output instant (O56): its capture half, seen from the state before its playback half, and the two halves together. -/

namespace Sys2Proof.Machine

/-! ### The block in formation (R138) -/

/-- R138: the block in formation after one more frame. -/
def Forming.grown (g : Forming) (m1 m2 : Int) : Forming := ⟨g.start, g.frames ++ [(m1, m2)]⟩

section
variable {s : State} {m1 m2 : Int} {g : Forming}

theorem capture_disabled (h : s.aud.captureEnabled = false) : s.capture m1 m2 = s :=
  if_neg (by simp [State.captureRuns, h])

variable (runs : s.captureRuns = true)
include runs

theorem capture_begins (h : s.lt % 1000 = 0) :
    s.capture m1 m2 = s.modAud fun a => { a with forming := some ⟨s.lt, [(m1, m2)]⟩ } := by
  refine (if_pos runs).trans ?_
  dsimp only
  rw [if_pos h]
  rfl

theorem capture_waits (h : s.lt % 1000 ≠ 0) (forming : s.aud.forming = none) : s.capture m1 m2 = s := by
  refine (if_pos runs).trans ?_
  dsimp only
  rw [if_neg h, forming]
  rfl

theorem capture_grows (h : s.lt % 1000 ≠ 0) (forming : s.aud.forming = some g) (short : g.frames.length < 47) :
    s.capture m1 m2 = s.modAud fun a => { a with forming := some (g.grown m1 m2) } := by
  refine (if_pos runs).trans ?_
  dsimp only
  rw [if_neg h, forming]
  exact if_neg (by rw [List.length_append, List.length_singleton]; omega)

theorem capture_completes (h : s.lt % 1000 ≠ 0) (forming : s.aud.forming = some g) (full : g.frames.length = 47) :
    s.capture m1 m2 = s.completeBlock (g.grown m1 m2) := by
  refine (if_pos runs).trans ?_
  dsimp only
  rw [if_neg h, forming]
  exact if_pos (by rw [List.length_append, full, List.length_singleton])

end

/-! ### A completed block in each state of the gate (R139) -/

section
variable (s : State) (g : Forming)

theorem numbered_gate : (s.numbered g).aud.gate = s.aud.gate := by rw [numbered_aud]
theorem numbered_loudRun : (s.numbered g).aud.loudRun = s.aud.loudRun := by rw [numbered_aud]
theorem numbered_quietRun : (s.numbered g).aud.quietRun = s.aud.quietRun := by rw [numbered_aud]
theorem numbered_hangover : (s.numbered g).aud.hangover = s.aud.hangover := by rw [numbered_aud]
theorem numbered_openThreshold : (s.numbered g).aud.openThreshold = s.aud.openThreshold := by rw [numbered_aud]

theorem gate_forming (b : CaptureBlock) : (s.gate b).aud.forming = s.aud.forming := by
  unfold State.gate
  dsimp only
  split
  · exact queueBlock_forming _ _ _
  · split
    · split
      · exact (congrArg Aud.forming (State.raise_aud _ _)).trans (queueBlock_forming _ _ _)
      · rfl
    · rfl
  · split
    · exact queueBlock_forming _ _ _
    · split
      · exact queueBlock_forming _ _ _
      · exact (congrArg Aud.forming (State.raise_aud _ _)).trans (queueBlock_forming _ _ _)

theorem completed_forming : (s.completeBlock g).aud.forming = none := by
  rw [completeBlock_eq, gate_forming, numbered_aud]

variable {s}

theorem completed_disabled (h : s.aud.gate = .disabled) :
    (s.completeBlock g).aud.gate = .disabled ∧ Queued s (s.completeBlock g) g.start g.frames false := by
  have e := gate_disabled (b := s.blockOf g) ((numbered_gate s g).trans h)
  rw [completeBlock_eq, e]
  exact ⟨by rw [queueBlock_gate, numbered_gate, h], .of_gate (.refl _) (.refl _)⟩

theorem completed_closed_quiet (h : s.aud.gate = .closed) (quiet : ¬ s.aud.openThreshold ≤ peak g.frames) :
    (s.completeBlock g).aud.gate = .closed ∧ (s.completeBlock g).aud.loudRun = 0 ∧ Gated s (s.completeBlock g) := by
  have e := gate_closed_quiet (b := s.blockOf g) ((numbered_gate s g).trans h)
    (by rw [numbered_openThreshold]; exact quiet)
  rw [completeBlock_eq, e]
  exact ⟨(numbered_gate s g).trans h, rfl, .of_gate (.modAud _ _ rfl)⟩

theorem completed_closed_loud (h : s.aud.gate = .closed) (loud : s.aud.openThreshold ≤ peak g.frames)
    (run : s.aud.loudRun = 0) :
    (s.completeBlock g).aud.gate = .closed ∧ (s.completeBlock g).aud.loudRun = 1 ∧ Gated s (s.completeBlock g) := by
  have e := gate_closed_loud (b := s.blockOf g) ((numbered_gate s g).trans h)
    (by rw [numbered_openThreshold]; exact loud) ((numbered_loudRun s g).trans run)
  rw [completeBlock_eq, e]
  exact ⟨(numbered_gate s g).trans h, congrArg (· + 1) ((numbered_loudRun s g).trans run), .of_gate (.modAud _ _ rfl)⟩

theorem completed_opens (h : s.aud.gate = .closed) (loud : s.aud.openThreshold ≤ peak g.frames)
    (run : 1 ≤ s.aud.loudRun) :
    let t := s.completeBlock g
    t.aud.gate = .open ∧ t.aud.loudRun = 0 ∧ t.aud.quietRun = 0 ∧ t.ntu.pending.has .voiceStart = true ∧
      t.count .voiceStarts = oneMore (s.count .voiceStarts) ∧ Queued s t g.start g.frames true := by
  have e := gate_opens (b := s.blockOf g) ((numbered_gate s g).trans h)
    (by rw [numbered_openThreshold]; exact loud) (by rw [numbered_loudRun]; exact run)
  rw [completeBlock_eq, e]
  refine ⟨?_, ?_, ?_, by simp, ?_, .of_gate (.modAud _ _ rfl) ((GateOnly.raise _ _).trans (.bump _ _ (by decide)))⟩
  · simp [queueBlock_gate]
  · simp [queueBlock_loudRun]
  · simp [queueBlock_quietRun]
  · rw [count_bump, if_pos rfl, State.raise_count _ _ _ Counter.noConfusion Counter.noConfusion,
      queueBlock_count _ _ _ _ Counter.noConfusion Counter.noConfusion Counter.noConfusion, State.modAud_count,
      numbered_count _ _ _ Counter.noConfusion]
    rfl

theorem completed_open_loud (h : s.aud.gate = .open) (loud : s.aud.openThreshold ≤ peak g.frames) :
    (s.completeBlock g).aud.gate = .open ∧ (s.completeBlock g).aud.quietRun = 0 ∧
      Queued s (s.completeBlock g) g.start g.frames false := by
  have e := gate_open_loud (b := s.blockOf g) ((numbered_gate s g).trans h)
    (by rw [numbered_openThreshold]; exact loud)
  rw [completeBlock_eq, e]
  refine ⟨?_, by rw [queueBlock_quietRun]; rfl, .of_gate (.modAud _ _ rfl) (.refl _)⟩
  rw [queueBlock_gate]
  exact (numbered_gate s g).trans h

theorem completed_open_quiet (h : s.aud.gate = .open) (quiet : ¬ s.aud.openThreshold ≤ peak g.frames)
    (within : s.aud.quietRun + 1 < s.aud.hangover) :
    (s.completeBlock g).aud.gate = .open ∧ (s.completeBlock g).aud.quietRun = s.aud.quietRun + 1 ∧
      Queued s (s.completeBlock g) g.start g.frames false := by
  have e := gate_open_quiet (b := s.blockOf g) ((numbered_gate s g).trans h)
    (by rw [numbered_openThreshold]; exact quiet) (by rw [numbered_quietRun, numbered_hangover]; exact within)
  rw [completeBlock_eq, e]
  refine ⟨?_, ?_, .of_gate (.modAud _ _ rfl) (.refl _)⟩
  · rw [queueBlock_gate]
    exact (numbered_gate s g).trans h
  · rw [queueBlock_quietRun]
    exact congrArg (· + 1) (numbered_quietRun s g)

theorem completed_closes (h : s.aud.gate = .open) (quiet : ¬ s.aud.openThreshold ≤ peak g.frames)
    (spent : s.aud.hangover ≤ s.aud.quietRun + 1) :
    let t := s.completeBlock g
    t.aud.gate = .closed ∧ t.aud.quietRun = 0 ∧ t.ntu.pending.has .voiceEnd = true ∧
      Queued s t g.start g.frames false := by
  have e := gate_closes (b := s.blockOf g) ((numbered_gate s g).trans h)
    (by rw [numbered_openThreshold]; exact quiet) (by rw [numbered_quietRun, numbered_hangover]; exact spent)
  rw [completeBlock_eq, e]
  exact ⟨by simp, by simp, by simp, .of_gate (.refl _) ((GateOnly.modAud _ _ rfl).trans (.raise _ _))⟩

end

/-! ### The two halves together (O56) -/

section
variable {s u t : State} (p : PlaysOnly s.instantTaken u)
include p

/-- Playback leaves what a captured block is made of. -/
theorem Captured.before {n : Nat} {l : List (Int × Int)} {o : Bool} {b : CaptureBlock} (h : Captured u n l o b) :
    Captured s n l o b where
  seq := h.seq.trans (congrArg (· + 1) p.captureSeq)
  time := h.time.trans (congrArg ((n : Int) + ·) p.offset)
  frames := h.frames
  gap := h.gap.trans p.gapPending
  gateOpen := h.gateOpen.trans (congrArg (o || ·) p.gateMark)
  timeStep := h.timeStep.trans p.step
  freeTime := h.freeTime.trans (iff_of_eq (congrArg (· = _) p.basis))
  clipped := h.clipped

theorem Queued.before {n : Nat} {l : List (Int × Int)} {o : Bool} (h : Queued u t n l o) : Queued s t n l o := by
  obtain ⟨⟨b, captured, room, full⟩, marks, seq, gated⟩ := h
  rw [p.queue] at room full
  rw [p.counts _ (by decide)] at full gated
  exact ⟨⟨b, captured.before p, room, full⟩, marks, seq.trans (congrArg (· + 1) p.captureSeq), gated⟩

theorem Gated.before (h : Gated u t) : Gated s t := by
  obtain ⟨queue, ⟨seq, gated⟩, gap, mark, step⟩ := h
  exact ⟨queue.trans p.queue, ⟨seq.trans (congrArg (· + 1) p.captureSeq),
    gated.trans (congrArg oneMore (p.counts _ (by decide)))⟩, gap.trans p.gapPending, mark.trans p.gateMark,
    step.trans p.step⟩

variable {m1 m2 : Int} (on : s.pmg.rails.audio = .on) (enabled : s.aud.captureEnabled = true)
include on enabled

/-- R138 to R141: what capture does after playback, from the state before both. -/
theorem captureDone : CaptureDone s (u.capture m1 m2) m1 m2 := by
  have runs : u.captureRuns = true := by
    have on' : u.pmg.rails.audio = .on := (congrArg (·.rails.audio) p.pmg).trans on
    have enabled' : u.aud.captureEnabled = true := p.captureEnabled.trans enabled
    simp [State.captureRuns, State.audioOn, on', enabled']
  have lt : u.lt = s.lt := p.lt
  have forming : u.aud.forming = s.aud.forming := p.forming
  refine ⟨fun at1000 => ?_, fun between none => ?_, fun g between some short => ?_, fun g between some full => ?_⟩
  · rw [capture_begins runs (by rwa [lt]), lt]
    exact ⟨rfl, p.queue⟩
  · rw [capture_waits runs (by rwa [lt]) (forming.trans none)]
    exact ⟨forming.trans none, p.queue⟩
  · rw [capture_grows runs (by rwa [lt]) (forming.trans some) short]
    exact ⟨rfl, p.queue⟩
  · rw [capture_completes runs (by rwa [lt]) (forming.trans some) full]
    dsimp only
    have isLoud := le_peak_iff (frames := g.frames ++ [(m1, m2)]) (by simp) s.aud.openThreshold
    have threshold : u.aud.openThreshold = s.aud.openThreshold := p.openThreshold
    rw [← isLoud, ← threshold]
    have starts := p.counts .voiceStarts (by decide)
    have run : u.aud.loudRun = s.aud.loudRun := p.loudRun
    have quietRun : u.aud.quietRun = s.aud.quietRun := p.quietRun
    have hangover : u.aud.hangover = s.aud.hangover := p.hangover
    rw [← run, ← quietRun, ← hangover]
    refine ⟨completed_forming _ _, fun gate => ?_, fun gate quiet => ?_, fun gate loud run => ?_,
      fun gate loud run => ?_, fun gate loud => ?_, fun gate quiet within => ?_, fun gate quiet spent => ?_⟩ <;>
      replace gate := p.gate.trans gate
    · obtain ⟨after, queued⟩ := completed_disabled (g.grown m1 m2) gate
      exact ⟨after, queued.before p⟩
    · obtain ⟨after, run, gated⟩ := completed_closed_quiet (g.grown m1 m2) gate quiet
      exact ⟨after, run, gated.before p⟩
    · obtain ⟨after, run, gated⟩ := completed_closed_loud (g.grown m1 m2) gate loud run
      exact ⟨after, run, gated.before p⟩
    · obtain ⟨after, loudRun, quietRun, raised, count, queued⟩ := completed_opens (g.grown m1 m2) gate loud run
      exact ⟨after, loudRun, quietRun, raised, count.trans (congrArg oneMore starts), queued.before p⟩
    · obtain ⟨after, run, queued⟩ := completed_open_loud (g.grown m1 m2) gate loud
      exact ⟨after, run, queued.before p⟩
    · obtain ⟨after, run, queued⟩ := completed_open_quiet (g.grown m1 m2) gate quiet within
      exact ⟨after, run, queued.before p⟩
    · obtain ⟨after, run, raised, queued⟩ := completed_closes (g.grown m1 m2) gate quiet spent
      exact ⟨after, run, raised, queued.before p⟩

end

/-- Settles O56: playback and capture each leave the other's part of the AUD, so each half is judged case by case from the state
before the instant. -/
theorem outputInstantPlaysAndCaptures : Obligations.OutputInstantPlaysAndCaptures := by
  intro s m1 m2 on last instant
  have p : PlaysOnly s.instantTaken s.instantTaken.playback := .of_playback _
  have c : CapturesOnly s.instantTaken.playback (s.instantTaken.playback.capture m1 m2) := .of_capture _ m1 m2
  have f : InstantFrame s.instantTaken _ := p.toInstantFrame.trans c.toInstantFrame
  refine ⟨_, exec_outputInstant on last instant m1 m2, c.lastInstant.trans p.lastInstant, f.fst, f.oin, f.pmg, f.ilg, f.msu,
    f.prr, f.entries, c.requested.trans p.requested, c.applied.trans p.applied, c.target.trans p.target, playbackDone c,
    captureDone p on, fun disabled => ?_⟩
  rw [capture_disabled (p.captureEnabled.trans disabled)]
  exact ⟨p.forming, p.queue, p.captureSeq⟩

end Sys2Proof.Machine
end

section
/-!
What the statements of chapter 8 depend on (R151 to R165, R176), and the operations that leave all of it as it is, in the order of
the model's files. The view holds the PMG without its figures, budget and R_cable, the loaded limits, and the measurements counted
by a running CABLE_MEASURE: it moves with a measurement, a rail, the target, the power settings, a CABLE_MEASURE, a load and a
reset alone.
-/

namespace Sys2Proof.Machine

/-- R176: the measurements that a running CABLE_MEASURE has taken. -/
def Prr.cableCount (q : Prr) : Option Nat :=
  match q.running with
  | some ⟨_, _, .cable n ..⟩ => some n
  | _ => none

/-- What `State.powerSound`, `Pmg.countsFit` and `State.loadSound` speak of. -/
structure PowerView where
  pmg : Pmg
  loaded : Limits
  cable : Option Nat

def State.powerView (s : State) : PowerView :=
  ⟨{ s.pmg with meas := none, measuredAt := none, budget := 0, rCable := 0 }, s.loaded.limits, s.prr.cableCount⟩

theorem foldl_powerView {α : Type} {f : State → α → State} (h : ∀ s a, (f s a).powerView = s.powerView) (xs : List α)
    (s : State) : (xs.foldl f s).powerView = s.powerView := by
  induction xs generalizing s with
  | nil => rfl
  | cons x xs ih => exact (ih _).trans (h s x)

section
variable (s : State)

/-! ### Single blocks -/

@[simp] theorem modTlc_powerView (f : Tlc → Tlc) : (s.modTlc f).powerView = s.powerView := rfl
@[simp] theorem modMsu_powerView (f : Msu → Msu) : (s.modMsu f).powerView = s.powerView := rfl
@[simp] theorem modOin_powerView (f : Oin → Oin) : (s.modOin f).powerView = s.powerView := rfl
@[simp] theorem modFst_powerView (f : Fst → Fst) : (s.modFst f).powerView = s.powerView := rfl
@[simp] theorem modSou_powerView (f : Sou → Sou) : (s.modSou f).powerView = s.powerView := rfl
@[simp] theorem modIlg_powerView (f : Ilg → Ilg) : (s.modIlg f).powerView = s.powerView := rfl
@[simp] theorem modAud_powerView (f : Aud → Aud) : (s.modAud f).powerView = s.powerView := rfl
@[simp] theorem modNtu_powerView (f : Ntu → Ntu) : (s.modNtu f).powerView = s.powerView := rfl
@[simp] theorem modCmu_powerView (f : Cmu → Cmu) : (s.modCmu f).powerView = s.powerView := rfl
@[simp] theorem addCount_powerView (c : Counter) (n : Nat) : (s.addCount c n).powerView = s.powerView := rfl
@[simp] theorem bump_powerView (c : Counter) : (s.bump c).powerView = s.powerView := rfl

/-- A change of the PRR that leaves the measurements counted by a running CABLE_MEASURE. -/
theorem modPrr_powerView (f : Prr → Prr) (h : (f s.prr).cableCount = s.prr.cableCount) :
    (s.modPrr f).powerView = s.powerView := by
  simp [State.powerView, h]

/-! ### Messages and notices (R183 to R203) -/

theorem SameButNotices.powerView {s t : State} (h : SameButNotices s t) : t.powerView = s.powerView := by
  simp only [State.powerView, h.pmg, h.loaded, h.prr]

@[simp] theorem opportunity_powerView : s.opportunity.powerView = s.powerView := (sbn_opportunity s).powerView
@[simp] theorem uartStart_powerView : s.uartStart.powerView = s.powerView := (sbn_uartStart s).powerView
@[simp] theorem attend_powerView : s.attend.powerView = s.powerView := (sbn_attend s).powerView
@[simp] theorem noticeDue_powerView : s.noticeDue.powerView = s.powerView := (sbn_noticeDue s).powerView
@[simp] theorem issue_powerView : s.issue.powerView = s.powerView := (sbn_issue s).powerView
@[simp] theorem raise_powerView (c : Condition) : (s.raise c).powerView = s.powerView := (sbn_raise s c).powerView
@[simp] theorem lower_powerView (c : Condition) : (s.lower c).powerView = s.powerView := (sbn_lower s c).powerView
@[simp] theorem follow_powerView (c : Condition) (b : Bool) : (s.follow c b).powerView = s.powerView :=
  (sbn_follow s c b).powerView

@[simp] theorem reply_powerView (k : Byte) (p : Port) (tag : Byte) (x : Status) (v : List Byte) (r : MessageRole) :
    (s.reply k p tag x v r).powerView = s.powerView := (sbn_place _ p r _).powerView

@[simp] theorem cutIf_powerView (x : Transmission) : (s.cutIf x).powerView = s.powerView := by
  unfold State.cutIf
  split <;> rfl

@[simp] theorem release_powerView (p : Port) : (s.release p).powerView = s.powerView := attend_powerView _

@[simp] theorem roleTaken_powerView : s.roleTaken.powerView = s.powerView := by
  unfold State.roleTaken
  dsimp only
  split <;> simp

@[simp] theorem arrive_powerView (p : Port) (b : List Byte) : (s.arrive p b).powerView = s.powerView := by
  unfold State.arrive
  split <;> simp

@[simp] theorem hunt_powerView (late : Bool) (n : Nat) (rx : List Byte) : (s.hunt late n rx).powerView = s.powerView := by
  induction n generalizing s rx with
  | zero => rfl
  | succ n ih =>
    cases rx with
    | nil => rfl
    | cons b bs =>
      unfold State.hunt
      repeat' split
      all_goals simp [ih]

@[simp] theorem timeOutBytes_powerView : s.timeOutBytes.powerView = s.powerView := by
  unfold State.timeOutBytes
  split <;> simp

@[simp] theorem dueFor_powerView (cs : List Condition) : (s.dueFor cs).powerView = s.powerView :=
  foldl_powerView (fun t _ => noticeDue_powerView t) cs s

@[simp] theorem holdoffExpires_powerView : s.holdoffExpires.powerView = s.powerView := by
  unfold State.holdoffExpires
  dsimp only
  split <;> simp

@[simp] theorem clearCounts_powerView (cs : List Counter) : (s.clearCounts cs).powerView = s.powerView :=
  foldl_powerView (f := fun t c => t.setCount c 0) (fun _ _ => rfl) cs s

/-! ### Illumination and the runner (R118, R169 to R182) -/

@[simp] theorem judgeDark_powerView : s.judgeDark.powerView = s.powerView := by
  unfold State.judgeDark
  repeat' split
  all_goals rfl

/-- R170: an ending of another procedure, or of none. -/
theorem endProc_powerView {s : State} (h : s.prr.cableCount = none) (r : ProcResult) (v : List ProcValue) :
    (s.endProc r v).powerView = s.powerView := by
  unfold State.endProc
  split
  · rfl
  · rw [raise_powerView]
    exact modPrr_powerView _ _ h.symm

theorem cableCount_of_watches {q : Prr} {x : Sensor} (h : q.watches x = true) : q.cableCount = none := by
  unfold Prr.watches at h
  unfold Prr.cableCount
  split at h
  · rw [‹q.running = _›]
  · rw [‹q.running = _›]
  · exact absurd h Bool.noConfusion

@[simp] theorem targetLeft_powerView (x : Sensor) : (s.targetLeft x).powerView = s.powerView := by
  unfold State.targetLeft
  split
  next h => exact endProc_powerView (cableCount_of_watches h) _ _
  next => rfl

@[simp] theorem collect_powerView (x : Sensor) (r : Axes) (t : Int) : (s.collect x r t).powerView = s.powerView := by
  unfold State.collect
  split
  next h =>
    split
    · refine modPrr_powerView s _ ?_
      cases x <;> simp [Prr.cableCount, h]
    · rfl
  next => rfl

@[simp] theorem modImu_powerView (x : Sensor) (f : Imu → Imu) : (s.modImu x f).powerView = s.powerView := rfl

@[simp] theorem unhold_powerView (t : Targets) : (s.unhold t).powerView = s.powerView :=
  foldl_powerView (f := fun s x => s.modImu x fun i => { i with syncAt := none }) (fun _ _ => rfl) _ s

@[simp] theorem writeBias_powerView (x : Sensor) (c : Collection) : (s.writeBias x c).powerView = s.powerView := rfl

theorem judgeBias_powerView {s : State} (h : s.prr.cableCount = none) (t : Targets) (n : Nat) (a b : Collection) :
    (s.judgeBias t n a b).powerView = s.powerView := by
  have written := foldl_powerView (fun s x => writeBias_powerView s x (collectionOf a b x)) t.list s
  unfold State.judgeBias
  dsimp only
  split
  · exact endProc_powerView h _ _
  · split
    · exact endProc_powerView h _ _
    · exact (endProc_powerView ((PowerView.mk.inj written).2.2.trans h) _ _).trans written

/-! ### Orientation (R53 to R63) -/

@[simp] theorem followStale_powerView : s.followStale.powerView = s.powerView := follow_powerView _ _ _

@[simp] theorem bind_powerView (x : Sensor) : (s.bind x).powerView = s.powerView := rfl

@[simp] theorem failover_powerView : s.failover.powerView = s.powerView := raise_powerView _ _

@[simp] theorem primaryFails_powerView : s.primaryFails.powerView = s.powerView := by
  unfold State.primaryFails
  split <;> simp

@[simp] theorem primaryLeft_powerView (x : Sensor) : (s.primaryLeft x).powerView = s.powerView := by
  unfold State.primaryLeft
  split <;> rfl

@[simp] theorem reportRunning_powerView (x : Sensor) : (s.reportRunning x).powerView = s.powerView := by
  unfold State.reportRunning
  repeat' split
  all_goals simp

@[simp] theorem reportFault_powerView (x : Sensor) : (s.reportFault x).powerView = s.powerView := by
  unfold State.reportFault
  split <;> simp

@[simp] theorem reportOff_powerView (x : Sensor) : (s.reportOff x).powerView = s.powerView := by
  unfold State.reportOff
  split <;> simp

@[simp] theorem testSample_powerView (b : Bool) : (s.testSample b).powerView = s.powerView := by
  unfold State.testSample
  dsimp only
  repeat' split
  all_goals simp

@[simp] theorem takeSample_powerView (x : Sensor) (t : Nat) (r : Axes) (b : Bool) :
    (s.takeSample x t r b).powerView = s.powerView := by
  unfold State.takeSample
  split <;> simp

/-! ### Motion and wear (R28 to R47) -/

@[simp] theorem startImus_powerView : s.startImus.powerView = s.powerView := by
  rw [startImus_rest]
  rfl

@[simp] theorem enterRunning_powerView (x : Sensor) : (s.enterRunning x).powerView = s.powerView := by
  simp [State.enterRunning]

@[simp] theorem enterFault_powerView (x : Sensor) : (s.enterFault x).powerView = s.powerView := by
  unfold State.enterFault
  dsimp only
  split <;> simp

@[simp] theorem enterOff_powerView (x : Sensor) : (s.enterOff x).powerView = s.powerView := by
  unfold State.enterOff
  dsimp only
  repeat' split
  all_goals simp

@[simp] theorem enqueueRecord_powerView (r : MotionRecord) : (s.enqueueRecord r).powerView = s.powerView := by
  unfold State.enqueueRecord
  dsimp only
  repeat' split
  all_goals simp

@[simp] theorem makeRecord_powerView (t : Nat) (r : Read) (d : ImuData) : (s.makeRecord t r d).powerView = s.powerView := by
  unfold State.makeRecord
  dsimp only
  split <;> simp

@[simp] theorem handSample_powerView (t : Nat) (r : Read) (d : ImuData) : (s.handSample t r d).powerView = s.powerView := by
  simp [State.handSample]

theorem eachSucceeded_powerView {f : State → Read → ImuData → State} (h : ∀ s r d, (f s r d).powerView = s.powerView)
    (rs : List Read) : (eachSucceeded f rs s).powerView = s.powerView := by
  refine foldl_powerView (fun s r => ?_) rs s
  split
  · exact h s r _
  · rfl

@[simp] theorem syncDone_powerView (t : Tick) : (s.syncDone t).powerView = s.powerView := by
  unfold State.syncDone
  split
  next h =>
    split
    · exact endProc_powerView (by simp [Prr.cableCount, h]) _ _
    · rfl
  next => rfl

@[simp] theorem finishTick_powerView (t : Tick) : (s.finishTick t).powerView = s.powerView := by
  simp [State.finishTick, State.markGaps, eachSucceeded_powerView]

@[simp] theorem completeTicks_powerView : s.completeTicks.powerView = s.powerView :=
  foldl_powerView finishTick_powerView _ _

@[simp] theorem imusOff_powerView : s.imusOff.powerView = s.powerView := by simp [State.imusOff]

@[simp] theorem readFails_powerView (x : Sensor) : (s.readFails x).powerView = s.powerView := by
  unfold State.readFails
  dsimp only
  split <;> simp

@[simp] theorem startupGoesOn_powerView (x : Sensor) (k : StartStep) (e : Nat) (ok : Bool) :
    (s.startupGoesOn x k e ok).powerView = s.powerView := by
  cases k <;> cases ok <;> simp [State.startupGoesOn]

theorem syncMoved_cableCount : s.syncMoved.cableCount = s.prr.cableCount := by
  unfold State.syncMoved
  split
  next h =>
    split
    · simp [Prr.cableCount, h]
    · rfl
  next => rfl

@[simp] theorem reformSync_powerView (n : Nat) : (s.reformSync n).powerView = s.powerView := by
  by_cases h : s.period = n
  · rw [reformSync_same h]
  · rw [reformSync_changed h]
    exact congrArg (PowerView.mk _ _) (syncMoved_cableCount s)

@[simp] theorem changeWear_powerView (w : Wear) : (s.changeWear w).powerView = s.powerView := by simp [State.changeWear]

@[simp] theorem awayExpires_powerView : s.awayExpires.powerView = s.powerView := by
  unfold State.awayExpires
  split <;> simp

@[simp] theorem wearRead_powerView (r : WearResult) : (s.wearRead r).powerView = s.powerView := by
  unfold State.wearRead State.judgeWear
  dsimp only
  repeat' split
  all_goals simp

@[simp] theorem wearStops_powerView : s.wearStops.powerView = s.powerView := by
  unfold State.wearStops
  dsimp only
  split <;> simp

/-! ### Pictures (R72 to R104) -/

@[simp] theorem modSlots_powerView (f : Slots → Slots) : (s.modSlots f).powerView = s.powerView := rfl

@[simp] theorem abandon_powerView : s.abandon.powerView = s.powerView := by
  unfold State.abandon
  split <;> simp

@[simp] theorem frameBegin_powerView (b : Option FrameBegin) : (s.frameBegin b).powerView = s.powerView := by
  unfold State.frameBegin
  repeat' split
  all_goals simp

@[simp] theorem lines_powerView (b : Option LinesBlock) : (s.lines b).powerView = s.powerView := by
  unfold State.lines
  repeat' split
  all_goals rfl

@[simp] theorem frameEnd_powerView (b : Option FrameNo) : (s.frameEnd b).powerView = s.powerView := by
  unfold State.frameEnd
  repeat' split
  all_goals simp

@[simp] theorem dropFrames_powerView (n : Nat) : (s.dropFrames n).powerView = s.powerView := by
  unfold State.dropFrames
  split <;> simp

@[simp] theorem lateShift_powerView : s.lateShift.powerView = s.powerView := by
  unfold State.lateShift State.countZeroed
  dsimp only
  repeat' split
  all_goals simp

@[simp] theorem selectFrame_powerView : s.selectFrame.powerView = s.powerView := by
  unfold State.selectFrame State.beginScan State.scanIdle
  dsimp only
  repeat' split
  all_goals simp

@[simp] theorem outputAtBlank_powerView : s.outputAtBlank.powerView = s.powerView := by
  unfold State.outputAtBlank
  split <;> simp

@[simp] theorem restartScan_powerView : s.restartScan.powerView = s.powerView := by
  unfold State.restartScan
  split <;> rfl

@[simp] theorem freeShown_powerView : s.freeShown.powerView = s.powerView := dropFrames_powerView _ _

@[simp] theorem scanOff_powerView : s.scanOff.powerView = s.powerView := by
  unfold State.scanOff
  split <;> simp

@[simp] theorem scanStart_powerView : s.scanStart.powerView = s.powerView := by
  rw [scanStart_rest]
  rfl

/-! ### Sound (R126 to R142) -/

@[simp] theorem stopPlayback_powerView : s.stopPlayback.powerView = s.powerView := rfl

theorem InstantFrame.powerView {s t : State} (h : InstantFrame s t) : t.powerView = s.powerView := by
  simp only [State.powerView, h.pmg, h.loaded, h.prr]

@[simp] theorem stopCapture_powerView : s.stopCapture.powerView = s.powerView := (InstantFrame.of_stopCapture s).powerView

@[simp] theorem takeCapture_powerView (c : CaptureArgs) : (s.takeCapture c).powerView = s.powerView :=
  (takeCapture_frame s c).powerView

@[simp] theorem appendFrames_powerView (f : List Stereo) : (s.appendFrames f).powerView = s.powerView := by
  unfold State.appendFrames
  dsimp only
  split <;> simp

@[simp] theorem takeSound_powerView (b : Option (Seq × List Stereo)) : (s.takeSound b).powerView = s.powerView := by
  unfold State.takeSound
  repeat' split
  · rfl
  · rfl
  · rfl
  · exact (appendFrames_powerView _ _).trans rfl

/-! ### Power (R146 to R165) -/

@[simp] theorem formBudget_powerView : s.formBudget.powerView = s.powerView := rfl

@[simp] theorem judgePower_powerView (m : Measurement) : (s.judgePower m).powerView = s.powerView := by
  simp [State.judgePower]

@[simp] theorem linkStep_powerView : s.linkStep.powerView = s.powerView := by
  unfold State.linkStep
  split <;> rfl

/-! ### The link (R1 to R25) -/

@[simp] theorem leaveActive_powerView : s.leaveActive.powerView = s.powerView := rfl

@[simp] theorem enterActive_powerView (c : Channel) (n : Nat) : (s.enterActive c n).powerView = s.powerView := rfl

@[simp] theorem enterDown_powerView : s.enterDown.powerView = s.powerView := by
  unfold State.enterDown
  dsimp only
  split <;> simp

@[simp] theorem trainingFails_powerView : s.trainingFails.powerView = s.powerView := by
  unfold State.trainingFails
  repeat' split
  all_goals simp

@[simp] theorem retrainFails_powerView : s.retrainFails.powerView = s.powerView := by
  unfold State.retrainFails
  repeat' split
  all_goals simp

@[simp] theorem moveOffset_powerView (e : Int) : (s.moveOffset e).powerView = s.powerView := by
  unfold State.moveOffset
  repeat' split
  all_goals simp

@[simp] theorem lockBasis_powerView : s.lockBasis.powerView = s.powerView := lower_powerView _ _

@[simp] theorem takeBeat_powerView : s.takeBeat.powerView = s.powerView := by
  unfold State.takeBeat
  dsimp only
  split <;> simp

@[simp] theorem wake_powerView : s.wake.powerView = s.powerView := by simp [State.wake]

@[simp] theorem reportLive_powerView : s.reportLive.powerView = s.powerView := by
  have told := foldl_powerView (f := fun t x => t.follow (railFault x) (t.pmg.rails.get x == .fault))
    (fun t x => follow_powerView t _ _) railOrder ((s.follow .timeFree (s.tlc.basis == .free)).followStale)
  exact told.trans (by simp)

end
end Sys2Proof.Machine
end

section
/-!
The order of the rails and the target (R157 to R162): what every change of a rail and of the target keeps of them.
-/

namespace Sys2Proof.Machine

/-! ### The order of the rails (8.5) -/

theorem railBefore_of_later {x a : Rail} (h : x ∈ laterRails a) : ∃ b, railBefore x = some b ∧ (a = b ∨ b ∈ laterRails a) := by
  cases a <;> cases x <;> first | exact absurd h (by decide) | exact ⟨_, rfl, by decide⟩

theorem laterRails_trans {x y z : Rail} (hy : y ∈ laterRails x) (hz : z ∈ laterRails y) : z ∈ laterRails x := by
  cases x <;> cases y <;> first | exact absurd hy (by decide) | (cases z <;> first | exact absurd hz (by decide) | decide)

theorem covers_of_later {t : RailTarget} {x y : Rail} (hy : y ∈ laterRails x) (h : t.covers y = true) : t.covers x = true := by
  cases t with
  | none => exact h
  | all => rfl
  | sensorOnly =>
    obtain rfl : y = .sensor := by simpa [RailTarget.covers] using h
    cases x <;> exact absurd hy (by decide)

/-- R157: a rail that is RAMPING or ON. -/
def RailState.up (st : RailState) : Prop := st = .on ∨ ∃ e, st = .ramping e

/-- R159, R160: the order outlives changes that bring no rail up, and no rail down before one that is up. -/
theorem Rails.ordered_of_down {r q : Rails} (h : r.ordered) (up : ∀ x, (q.get x).up → q.get x = r.get x)
    (down : ∀ x y, y ∈ laterRails x → (q.get y).up → q.get x = r.get x) : q.ordered := by
  intro x y hy hup
  rw [down x y hy hup]
  exact h x y hy (up y hup ▸ hup)

/-- R157: the order outlives a rail that comes up, or is taken from RAMPING to ON, after rails that are ON. -/
theorem Rails.ordered_set_up {r : Rails} (h : r.ordered) {x : Rail} {st : RailState} (before : ∀ a, x ∈ laterRails a → r.get a = .on)
    (after : (∀ y ∈ laterRails x, ¬ (r.get y).up) ∨ st = .on) : (r.set x st).ordered := by
  intro a y hy hup
  have ne : y ≠ a := by
    rintro rfl
    cases y <;> exact absurd hy (by decide)
  by_cases ha : a = x
  · subst ha
    rw [RailStep.get_set_ne _ ne] at hup
    rw [RailStep.get_set_self]
    exact after.resolve_left fun low => low y hy hup
  · rw [RailStep.get_set_ne _ ha]
    by_cases hyx : y = x
    · exact before a (hyx ▸ hy)
    · rw [RailStep.get_set_ne _ hyx] at hup
      exact h a y hy hup

/-- R157, R160: rails outside the target are OFF, and the others stand in their order. -/
def Pmg.railsSound (p : Pmg) : Prop := (∀ x, p.target.covers x = false → p.rails.get x = .off) ∧ p.rails.ordered

/-! ### The sequencer (R157) -/

theorem mayRamp_iff {p : Pmg} {x : Rail} : p.mayRamp x = true ↔
    p.rails.get x = .off ∧ p.target.covers x = true ∧ ∀ y, railBefore x = some y → p.rails.get y = .on := by
  cases x <;> simp [Pmg.mayRamp, railBefore, and_assoc]

/-- R157: with the rail before it ON, every rail before it is ON. -/
theorem on_of_before {r : Rails} (h : r.ordered) {x : Rail} (before : ∀ y, railBefore x = some y → r.get y = .on) {a : Rail}
    (ha : x ∈ laterRails a) : r.get a = .on := by
  obtain ⟨b, hb, rfl | later⟩ := railBefore_of_later ha
  · exact before _ hb
  · exact h a b later (.inl (before b hb))

theorem rampUp_railsSound {s : State} (h : s.pmg.railsSound) (x : Rail) : (s.rampUp x).pmg.railsSound := by
  unfold State.rampUp
  split
  next may =>
    obtain ⟨off, covered, before⟩ := mayRamp_iff.1 may
    obtain ⟨outside, ordered⟩ := h
    unfold Pmg.railsSound
    rw [RailStep.setRail_rails, (RailStep.setRail s x _).target]
    refine ⟨fun y hy => ?_, Rails.ordered_set_up ordered (fun a => on_of_before ordered before) (.inl fun y hy up => ?_)⟩
    · rw [RailStep.get_set_ne _ (by rintro rfl; rw [covered] at hy; exact Bool.noConfusion hy)]
      exact outside y hy
    · rw [ordered x y hy up] at off
      exact RailState.noConfusion off
  next => exact h

theorem rampUp_foldl_railsSound (xs : List Rail) {s : State} (h : s.pmg.railsSound) :
    (xs.foldl State.rampUp s).pmg.railsSound := by
  induction xs generalizing s with
  | nil => exact h
  | cons x xs ih => exact ih (rampUp_railsSound h x)

theorem sequence_railsSound {s : State} (h : s.pmg.railsSound) : s.sequence.pmg.railsSound := rampUp_foldl_railsSound railOrder h

/-! ### The target and the rows of a rail (R158 to R162) -/

/-- R160, R162: whatever the target was, the rails fit the one that is formed. -/
theorem formTarget_railsSound {s : State} (h : s.pmg.rails.ordered) : s.formTarget.pmg.railsSound := by
  have covered {x : Rail} (e : (railTarget s.pmg.supply s.pmg.standby).covers x = true) :
      s.takeTarget.pmg.rails.get x = s.pmg.rails.get x := (takeTarget_get s x).trans (if_pos e)
  have outside {x : Rail} (e : (railTarget s.pmg.supply s.pmg.standby).covers x = false) :
      s.takeTarget.pmg.rails.get x = .off := by rw [takeTarget_get, e]; rfl
  have inside {y : Rail} (up : (s.takeTarget.pmg.rails.get y).up) :
      (railTarget s.pmg.supply s.pmg.standby).covers y = true := by
    by_contra out
    rw [outside (Bool.eq_false_iff.2 out)] at up
    obtain up | ⟨_, up⟩ := up <;> exact RailState.noConfusion up
  rw [formTarget_eq]
  refine sequence_railsSound ⟨fun x hx => outside ?_, Rails.ordered_of_down h (fun y up => covered (inside up))
    fun x y hy up => covered (covers_of_later hy (inside up))⟩
  rwa [(takeTarget_step s).target] at hx

/-- R158: a RAMPING rail is within the target, with every rail before it ON. -/
theorem railOn_railsSound {s : State} {x : Rail} {e : Nat} (h : s.pmg.railsSound) (hx : s.pmg.rails.get x = .ramping e) :
    (s.setRail x .on).pmg.railsSound := by
  obtain ⟨outside, ordered⟩ := h
  unfold Pmg.railsSound
  rw [RailStep.setRail_rails, (RailStep.setRail s x _).target]
  refine ⟨fun y hy => ?_, Rails.ordered_set_up ordered (fun a ha => ordered a x ha (.inr ⟨e, hx⟩)) (.inr rfl)⟩
  have off := outside y hy
  rw [RailStep.get_set_ne _ (by rintro rfl; rw [hx] at off; exact RailState.noConfusion off)]
  exact off

/-- R158, R159: a rail has failed, and later rails are taken down; the sequencer has still to act. -/
def State.railLost (s : State) (x : Rail) : State :=
  ((s.setRail x .fault).bump .railFaults).takeDown
    ((laterRails x).filter fun y => ((s.setRail x .fault).bump .railFaults).pmg.rails.get y != .fault)

theorem railFails_eq (s : State) (x : Rail) : s.railFails x = (s.railLost x).sequence := rfl

theorem railLost_step (s : State) (x : Rail) : RailStep s (s.railLost x) :=
  ((RailStep.setRail s x _).trans (ReaderStep.bump _ _ (by decide)).toRailStep).trans (.takeDown _ _)

theorem ne_of_later {x y : Rail} (h : y ∈ laterRails x) : y ≠ x := by
  rintro rfl
  cases y <;> exact absurd h (by decide)

/-- R158, R159: where a rail fails it is in FAULT, later rails are OFF or in FAULT, and the others are as they were. -/
theorem railLost_get (s : State) (x y : Rail) : (s.railLost x).pmg.rails.get y =
    if y = x then .fault else if y ∈ laterRails x ∧ s.pmg.rails.get y ≠ .fault then .off else s.pmg.rails.get y := by
  have set (z : Rail) : ((s.setRail x .fault).bump .railFaults).pmg.rails.get z =
      if z = x then .fault else s.pmg.rails.get z := by
    rw [State.bump_pmg, RailStep.setRail_rails]
    split
    next e => rw [e, RailStep.get_set_self]
    next e => rw [RailStep.get_set_ne _ e]
  unfold State.railLost
  rw [takeDown_get, set]
  by_cases e : y = x
  · rw [if_pos e, if_pos e, if_neg]
    rw [e]
    exact fun mem => ne_of_later (List.mem_filter.1 mem).1 rfl
  · simp [List.mem_filter, RailStep.setRail_rails, RailStep.get_set_ne _ e, e]

/-- R158, R159: a rail that was up fails, and the rails left up are before it. -/
theorem railLost_railsSound {s : State} {x : Rail} (h : s.pmg.railsSound) (hx : s.pmg.rails.get x ≠ .off) :
    (s.railLost x).pmg.railsSound := by
  obtain ⟨outside, ordered⟩ := h
  have low {z : Rail} (up : ((s.railLost x).pmg.rails.get z).up) : z ≠ x ∧ z ∉ laterRails x := by
    rw [railLost_get] at up
    unfold RailState.up at up
    refine ⟨?_, fun later => ?_⟩
    · rintro rfl
      simp at up
    · by_cases fault : s.pmg.rails.get z = .fault <;> simp [ne_of_later later, later, fault] at up
  have kept {z : Rail} (ne : z ≠ x) (out : z ∉ laterRails x) : (s.railLost x).pmg.rails.get z = s.pmg.rails.get z := by
    rw [railLost_get, if_neg ne, if_neg fun c => out c.1]
  refine ⟨fun y hy => ?_, Rails.ordered_of_down ordered (fun y up => kept (low up).1 (low up).2) fun a y hy up => ?_⟩
  · rw [(railLost_step s x).target] at hy
    have off := outside y hy
    rw [railLost_get, if_neg (by rintro rfl; exact hx off), off, ite_self]
  · obtain ⟨ne, out⟩ := low up
    exact kept (by rintro rfl; exact out hy) fun later => out (laterRails_trans later hy)

/-- R161: rails taken out of FAULT were nothing to the order. -/
theorem restarted_railsSound {s : State} (h : s.pmg.railsSound) :
    (s.takeDown (railOrder.filter fun x => s.pmg.rails.get x == .fault)).pmg.railsSound := by
  obtain ⟨outside, ordered⟩ := h
  have got (x : Rail) : (s.takeDown (railOrder.filter fun x => s.pmg.rails.get x == .fault)).pmg.rails.get x =
      if s.pmg.rails.get x = .fault then .off else s.pmg.rails.get x := by
    have mem : x ∈ railOrder := by cases x <;> decide
    rw [takeDown_get]
    simp [mem]
  unfold Pmg.railsSound
  rw [(RailStep.takeDown s _).target]
  refine ⟨fun x hx => by rw [got, outside x hx]; rfl, Rails.ordered_of_down ordered (fun x up => ?_) fun x y hy up => ?_⟩
  · rw [got] at up ⊢
    split
    next fault =>
      rw [if_pos fault] at up
      obtain up | ⟨_, up⟩ := up <;> exact RailState.noConfusion up
    next => rfl
  · rw [got] at up ⊢
    split at up
    next => obtain up | ⟨_, up⟩ := up <;> exact RailState.noConfusion up
    next => rw [ordered x y hy up]; rfl

end Sys2Proof.Machine
end

section
/-!
What every operation keeps of the power statements (R151 to R165, R168, R176): the relation `KeepsPower`, and one lemma for each
operation that moves the rails, the target, the level, the counts, the test load or the limits.
-/

namespace Sys2Proof.Machine

/-! ### The statements in terms of the view -/

theorem powerSound_iff (s : State) : s.powerSound ↔ s.pmg.limits.ok = true ∧ s.loaded.limits.ok = true ∧
    s.pmg.target = railTarget s.pmg.supply s.pmg.standby ∧ s.pmg.railsSound ∧ (s.pmg.supply = .brownout → s.pmg.level = .l3) := by
  unfold State.powerSound Pmg.railsSound
  tauto

theorem cableCount_iff {q : Prr} {n : Nat} : q.cableCount = some n ↔
    ∃ p sv si v1 i1 v2 i2, q.running = some p ∧ p.work = .cable n sv si v1 i1 v2 i2 := by
  unfold Prr.cableCount
  constructor
  · intro h
    split at h
    next run at_ k sv si v1 i1 v2 i2 e =>
      obtain rfl := Option.some.inj h
      exact ⟨_, sv, si, v1, i1, v2, i2, e, rfl⟩
    next => exact absurd h (by simp)
  · rintro ⟨⟨run, at_, w⟩, sv, si, v1, i1, v2, i2, e, rfl⟩
    rw [e]

theorem loadSound_iff (s : State) : s.loadSound ↔ (s.pmg.testLoad = true →
    s.pmg.supply = .normal ∧ ∃ n, s.prr.cableCount = some n ∧ 1000 ≤ n ∧ n < 2000) := by
  unfold State.loadSound
  simp only [cableCount_iff]
  refine imp_congr_right fun _ => and_congr_right fun _ => ⟨?_, ?_⟩
  · rintro ⟨q, n, sv, si, v1, i1, v2, i2, e, w, lo, hi⟩
    exact ⟨n, ⟨q, sv, si, v1, i1, v2, i2, e, w⟩, lo, hi⟩
  · rintro ⟨n, ⟨q, sv, si, v1, i1, v2, i2, e, w⟩, lo, hi⟩
    exact ⟨q, n, sv, si, v1, i1, v2, i2, e, w, lo, hi⟩

/-! ### The relation that operations compose -/

/-- 8.3, 8.4, R176: the counts stay in range, and the test load stays within phase 2 of a CABLE_MEASURE. -/
structure KeepsCounts (s t : State) : Prop where
  counts : s.pmg.countsFit → t.pmg.countsFit
  load : s.loadSound → t.loadSound

/-- R154 to R165: and limits, target, rails and level stay sound. -/
structure KeepsPower (s t : State) : Prop extends KeepsCounts s t where
  sound : s.powerSound → t.powerSound

theorem KeepsCounts.trans {s t u : State} (h : KeepsCounts s t) (g : KeepsCounts t u) : KeepsCounts s u :=
  ⟨g.counts ∘ h.counts, g.load ∘ h.load⟩

/-- What `Pmg.countsFit` and `State.loadSound` read of the PMG. -/
def Pmg.meter (p : Pmg) : Nat × Nat × Nat × Nat × Supply × Bool := (p.rise, p.fall, p.cut, p.recovery, p.supply, p.testLoad)

theorem KeepsCounts.of_meter {s t : State} (meter : t.pmg.meter = s.pmg.meter)
    (cable : t.prr.cableCount = s.prr.cableCount) : KeepsCounts s t := by
  simp only [Pmg.meter, Prod.mk.injEq] at meter
  obtain ⟨rise, fall, cut, recovery, supply, load⟩ := meter
  refine ⟨?_, ?_⟩
  · unfold Pmg.countsFit
    rw [rise, fall, cut, recovery]
    exact id
  · rw [loadSound_iff, loadSound_iff, supply, load, cable]
    exact id

namespace KeepsPower

section
variable {s t u : State}

theorem trans (h : KeepsPower s t) (g : KeepsPower t u) : KeepsPower s u :=
  ⟨h.toKeepsCounts.trans g.toKeepsCounts, g.sound ∘ h.sound⟩

theorem of_same (e : t.powerView = s.powerView) : KeepsPower s t := by
  obtain ⟨pmg, limits, cable⟩ := PowerView.mk.inj e
  have kept : t.pmg = { s.pmg with
      meas := t.pmg.meas, measuredAt := t.pmg.measuredAt, budget := t.pmg.budget, rCable := t.pmg.rCable } :=
    congrArg (fun p : Pmg => { p with
      meas := t.pmg.meas, measuredAt := t.pmg.measuredAt, budget := t.pmg.budget, rCable := t.pmg.rCable }) pmg
  refine ⟨.of_meter (by rw [kept]; rfl) cable, ?_⟩
  unfold State.powerSound
  rw [kept, limits]
  exact id

/-- An operation that comes after others that leave the view. -/
theorem after_same (h : KeepsPower t u) (e : t.powerView = s.powerView) : KeepsPower s u := (of_same e).trans h

/-- An operation that others come after, which leave the view. -/
theorem then_same (h : KeepsPower s t) (e : u.powerView = t.powerView) : KeepsPower s u := h.trans (of_same e)

/-- Rails have changed and their readers have acted. -/
theorem of_rails (h : RailStep s t) (cable : t.prr.cableCount = s.prr.cableCount)
    (rails : s.pmg.railsSound → t.pmg.railsSound) : KeepsPower s t := by
  refine ⟨.of_meter (by rw [h.pmg]; rfl) cable, ?_⟩
  rw [powerSound_iff, powerSound_iff, h.limits, h.loaded, h.target, h.supply, h.standby, h.level]
  exact fun ⟨limits, loaded, target, fit, low⟩ => ⟨limits, loaded, target, rails fit, low⟩

end

variable (s : State)

theorem refl : KeepsPower s s := of_same rfl

end KeepsPower

/-! ### What a rail leaves of the runner's count (R157 to R162) -/

theorem cableCount_congr {s t : State} (h : t.powerView = s.powerView) : t.prr.cableCount = s.prr.cableCount :=
  congrArg PowerView.cable h

theorem foldl_cableCount {α : Type} {f : State → α → State} (h : ∀ s a, (f s a).prr.cableCount = s.prr.cableCount) (xs : List α)
    (s : State) : (xs.foldl f s).prr.cableCount = s.prr.cableCount := by
  induction xs generalizing s with
  | nil => rfl
  | cons x xs ih => exact (ih _).trans (h s x)

section
variable (s : State)

theorem railReached_powerView (x : Rail) : (s.railReached x).powerView = s.powerView := by
  cases x with
  | sensor => exact startImus_powerView s
  | audio => rfl
  | panelL | panelR => exact scanStart_powerView s
  | illum => exact judgeDark_powerView s

theorem railLeft_powerView (x : Rail) (b : Bool) : (s.railLeft x b).powerView = s.powerView := by
  cases x with
  | sensor => exact (wearStops_powerView _).trans (imusOff_powerView s)
  | audio =>
    cases b
    · rfl
    · exact stopCapture_powerView _
  | panelL | panelR => exact scanOff_powerView s
  | illum => exact judgeDark_powerView s

theorem setRail_cableCount (x : Rail) (st : RailState) : (s.setRail x st).prr.cableCount = s.prr.cableCount := by
  have taken : (s.railTaken x st).prr = s.prr := (RunnerKept.railTaken s x st).prr
  rw [setRail_eq]
  split
  · rw [cableCount_congr (railLeft_powerView _ x _), taken]
  · split
    · rw [cableCount_congr (railReached_powerView _ x), taken]
    · rw [taken]

theorem sequence_cableCount : s.sequence.prr.cableCount = s.prr.cableCount :=
  foldl_cableCount (fun t x => by split; exacts [setRail_cableCount t x _, rfl]) _ s

theorem takeDown_cableCount (xs : List Rail) : (s.takeDown xs).prr.cableCount = s.prr.cableCount :=
  foldl_cableCount (fun t x => by split; exacts [rfl, setRail_cableCount t x _]) _ s

theorem railLost_cableCount (x : Rail) : (s.railLost x).prr.cableCount = s.prr.cableCount :=
  (takeDown_cableCount _ _).trans (setRail_cableCount s x _)

theorem formTarget_cableCount : s.formTarget.prr.cableCount = s.prr.cableCount :=
  (sequence_cableCount _).trans (takeDown_cableCount _ _)

theorem enterNormal_cableCount : s.enterNormal.prr.cableCount = s.prr.cableCount :=
  (cableCount_congr (linkStep_powerView _)).trans (formTarget_cableCount _)

end

/-! ### Rails and the target (R157 to R162) -/

/-- R162: what a target that is formed moves in the PMG. -/
theorem formTarget_pmg (s : State) : s.formTarget.pmg = { s.pmg with
    target := railTarget s.pmg.supply s.pmg.standby, rails := s.formTarget.pmg.rails } := (formTarget_step s).pmg

/-- R160, R162: whatever the target was, the rails fit the one that is formed. -/
theorem formTarget_sound {s : State} (limits : s.pmg.limits.ok = true) (loaded : s.loaded.limits.ok = true)
    (ordered : s.pmg.rails.ordered) (low : s.pmg.supply = .brownout → s.pmg.level = .l3) : s.formTarget.powerSound := by
  have step := formTarget_step s
  rw [powerSound_iff, step.limits, step.loaded, step.target, step.supply, step.standby, step.level]
  exact ⟨limits, loaded, rfl, formTarget_railsSound ordered, low⟩

theorem enterNormal_sound {s : State} (limits : s.pmg.limits.ok = true) (loaded : s.loaded.limits.ok = true)
    (ordered : s.pmg.rails.ordered) : s.enterNormal.powerSound :=
  (KeepsPower.of_same (linkStep_powerView _)).sound
    (formTarget_sound (s := s.normal) limits loaded ordered Supply.noConfusion)

namespace KeepsPower
variable (s : State)

theorem railOn {x : Rail} {e : Nat} (h : s.pmg.rails.get x = .ramping e) : KeepsPower s (s.setRail x .on).sequence :=
  (of_rails (.setRail s x _) (setRail_cableCount s x _) fun fit => railOn_railsSound fit h).trans
    (of_rails (.sequence _) (sequence_cableCount _) sequence_railsSound)

theorem railFails {x : Rail} (h : s.pmg.rails.get x ≠ .off) : KeepsPower s (s.railFails x) :=
  (of_rails (railLost_step s x) (railLost_cableCount s x) fun fit => railLost_railsSound fit h).trans
    (of_rails (.sequence _) (sequence_cableCount _) sequence_railsSound)

theorem restartRails : KeepsPower s (restartRails s).state := by
  unfold Machine.restartRails
  dsimp only
  split
  · exact refl s
  · exact (then_same (of_rails (.takeDown s _) (takeDown_cableCount s _) restarted_railsSound) (bump_powerView _ _)).trans
      (of_rails (.sequence _) (sequence_cableCount _) sequence_railsSound)

/-- R160, R162: the standby mark moves, and the target follows it. -/
theorem tellPmg (b : Bool) : KeepsPower s (s.tellPmg b) :=
  ⟨.of_meter (by rw [State.tellPmg, formTarget_pmg]; rfl) (formTarget_cableCount _),
    fun ⟨limits, loaded, _, _, ordered, low⟩ => formTarget_sound limits loaded ordered low⟩

end KeepsPower
end Sys2Proof.Machine
end

section
/-!
A measurement keeps the power statements (R146 to R156, R176 to R178): the shed level, the supply state, and a running CABLE_MEASURE.
-/

namespace Sys2Proof.Machine

/-! ### The shed level (R150 to R153) -/

theorem setLevel_pmg (s : State) (l : Level) : (s.setLevel l).pmg = { s.pmg with level := l, rise := 0, fall := 0 } := by
  rw [State.setLevel, (ReaderStep.reformSync _ _).pmg_eq]
  exact (ReaderStep.judgeDark _).pmg_eq

/-- R152, R153: a new level, with the counts of the shed evaluation begun again. -/
theorem changeLevel_pmg {s : State} {l : Level} (h : s.pmg.level ≠ l) :
    (s.changeLevel l).pmg = { s.pmg with level := l, rise := 0, fall := 0 } := by
  unfold State.changeLevel
  rw [if_neg h, State.bump_pmg, State.raise_pmg, setLevel_pmg]

theorem changeLevel_same {s : State} {l : Level} (h : s.pmg.level = l) : s.changeLevel l = s := if_pos h

theorem changeLevel_cableCount (s : State) (l : Level) : (s.changeLevel l).prr.cableCount = s.prr.cableCount := by
  by_cases h : s.pmg.level = l
  · rw [changeLevel_same h]
  · have dark := cableCount_congr (judgeDark_powerView (s.modPmg fun p => { p with level := l, rise := 0, fall := 0 }))
    unfold State.changeLevel
    rw [if_neg h, State.bump_prr, State.raise_prr, State.setLevel, cableCount_congr (reformSync_powerView _ _)]
    exact dark

/-- R153: a change of level leaves the supply state and the test load. -/
theorem KeepsCounts.changeLevel (s : State) (l : Level) : KeepsCounts s (s.changeLevel l) := by
  by_cases h : s.pmg.level = l
  · rw [changeLevel_same h]
    exact (KeepsPower.refl s).toKeepsCounts
  · refine ⟨?_, ?_⟩
    · rw [changeLevel_pmg h]
      exact fun ⟨_, _, cut, recovery⟩ => ⟨Nat.zero_le _, Nat.zero_le _, cut, recovery⟩
    · rw [loadSound_iff, loadSound_iff, changeLevel_cableCount, changeLevel_pmg h]
      exact id

namespace KeepsPower
variable (s : State)

/-- Counts that stay in range. -/
theorem counted (f : Pmg → Pmg) (h : f s.pmg = { s.pmg with
      rise := (f s.pmg).rise, fall := (f s.pmg).fall, cut := (f s.pmg).cut, recovery := (f s.pmg).recovery })
    (fit : s.pmg.countsFit → (f s.pmg).countsFit) : KeepsPower s (s.modPmg f) := by
  refine ⟨⟨fit, ?_⟩, ?_⟩
  · rw [loadSound_iff, loadSound_iff, State.modPmg_pmg, h]
    exact id
  · unfold State.powerSound
    rw [State.modPmg_pmg, h]
    exact id

/-- R153: out of BROWNOUT any level may be taken. -/
theorem leveled {s : State} (h : s.pmg.supply ≠ .brownout) (l : Level) (c : Counter) :
    KeepsPower s ((s.changeLevel l).bump c) := by
  have step := MeterStep.changeLevel s l
  have loaded : (s.changeLevel l).loaded = s.loaded := (Keeps.changeLevel s l).loaded
  refine then_same ⟨.changeLevel s l, ?_⟩ (bump_powerView _ c)
  rw [powerSound_iff, powerSound_iff, step.limits, loaded, step.target, step.supply, step.standby]
  have fit : (s.changeLevel l).pmg.railsSound ↔ s.pmg.railsSound := by
    unfold Pmg.railsSound
    rw [step.target, step.rails]
  rw [fit]
  exact fun ⟨limits, loaded, target, rails, _⟩ => ⟨limits, loaded, target, rails, fun e => absurd e h⟩

theorem jump (h : s.pmg.supply ≠ .brownout) : KeepsPower s s.jump := by
  unfold State.jump
  split
  · exact counted s _ rfl fun ⟨_, _, cut, recovery⟩ => ⟨Nat.zero_le _, Nat.zero_le _, cut, recovery⟩
  · exact leveled h .l3 .shedJumps

theorem riseTest (m : Measurement) (h : s.pmg.supply ≠ .brownout) : KeepsPower s (s.riseTest m) := by
  have first := counted s (fun p => { p with rise := if callsRise p m then min 3 (p.rise + 1) else 0 }) rfl
    fun ⟨_, fall, cut, recovery⟩ => ⟨by dsimp only; split; exacts [Nat.min_le_left _ _, Nat.zero_le _], fall, cut, recovery⟩
  unfold State.riseTest
  dsimp only
  split
  · split
    · exact first.trans (leveled (by exact h) _ _)
    · exact first
  · exact first

theorem fallTest (m : Measurement) (h : s.pmg.supply ≠ .brownout) : KeepsPower s (s.fallTest m) := by
  have first := counted s (fun p => { p with fall := if callsFall p m then min 200 (p.fall + 1) else 0 }) rfl
    fun ⟨rise, _, cut, recovery⟩ => ⟨rise, by dsimp only; split; exacts [Nat.min_le_left _ _, Nat.zero_le _], cut, recovery⟩
  unfold State.fallTest
  dsimp only
  split
  · split
    · exact first.trans (leveled (by exact h) _ _)
    · exact first
  · exact first

theorem shed (m : Measurement) : KeepsPower s (s.shed m) := by
  unfold State.shed
  split
  · exact refl s
  next h =>
    split
    · exact jump s h
    · exact (riseTest s m h).trans (fallTest _ m (by rwa [(MeterStep.riseTest s m).supply]))

end KeepsPower

/-- R150: a measurement below V_crit leaves the level at L3. -/
theorem shed_level {s : State} {m : Measurement} (h : s.pmg.supply ≠ .brownout) (low : m.vin < s.pmg.limits.vCrit) :
    (s.shed m).pmg.level = .l3 := by
  unfold State.shed
  rw [if_neg h, if_pos low]
  unfold State.jump
  split
  next e => exact e
  next => exact changeLevel_level s .l3

/-- R165: V_cut is below V_crit. -/
theorem vCut_lt {l : Limits} (h : l.ok = true) : l.vCut < l.vCrit := by
  simp only [Limits.ok, Bool.and_eq_true, decide_eq_true_eq] at h
  exact h.2.1

/-! ### The supply state (R154 to R156) -/

/-- R155: the supply state of BROWNOUT, before its target is formed. -/
def State.brownedOut (s : State) : State := s.modPmg fun p => { p with supply := .brownout, testLoad := false }

/-- R155: what an entry into BROWNOUT moves in the PMG. -/
theorem enterBrownout_pmg (s : State) : s.enterBrownout.pmg = { s.pmg with
    supply := .brownout, testLoad := false, target := .none, rails := s.brownedOut.formTarget.pmg.rails
    cut := 0, recovery := 0, rise := 0, fall := 0 } := by
  unfold State.enterBrownout
  dsimp only
  rw [State.modPmg_pmg, State.bump_pmg, State.raise_pmg, formTarget_pmg]
  rfl

theorem enterBrownout_countsFit (s : State) : s.enterBrownout.pmg.countsFit := by
  rw [enterBrownout_pmg]
  exact ⟨Nat.zero_le _, Nat.zero_le _, Nat.zero_le _, Nat.zero_le _⟩

/-- R155: a measurement below V_cut has been counted. -/
def State.cutCounted (s : State) : State := s.modPmg fun p => { p with cut := p.cut + 1 }

theorem brownoutTest_low {s : State} {m : Measurement} (h : m.vin < s.pmg.limits.vCut) :
    s.brownoutTest m = if 1 ≤ s.pmg.cut then s.cutCounted.enterBrownout else s.cutCounted := by
  have counted : (s.modPmg fun p => { p with cut := if m.vin < p.limits.vCut then p.cut + 1 else 0 }) = s.cutCounted := by
    simp [State.modPmg, State.cutCounted, h]
  unfold State.brownoutTest
  rw [counted]
  simp [State.cutCounted]

/-- R156: a recovery leaves the counts at zero. -/
theorem recover_countsFit (s : State) : s.recover.pmg.countsFit := by
  rw [recover_pmg, enterNormal_pmg]
  exact ⟨Nat.zero_le _, Nat.zero_le _, Nat.zero_le _, Nat.zero_le _⟩

/-- R156: in BROWNOUT the test load is off, and a recovery leaves it. -/
theorem recover_load {s : State} (h : s.loadSound) : s.recover.loadSound := by
  have level : (s.changeLevel .l2).loadSound := (KeepsCounts.changeLevel s .l2).load h
  have cable : s.recover.prr.cableCount = (s.changeLevel .l2).prr.cableCount :=
    (cableCount_congr (opportunity_powerView _)).trans (enterNormal_cableCount s.recovered)
  rw [loadSound_iff] at level ⊢
  rw [cable, recover_pmg, enterNormal_pmg]
  exact fun on => ⟨rfl, (level on).2⟩

theorem recover_sound {s : State} (h : s.powerSound) : s.recover.powerSound := by
  obtain ⟨limits, loaded, _, _, ordered, _⟩ := h
  have step := recovered_step s
  have kept : s.recovered.loaded = s.loaded := (Keeps.changeLevel s .l2).loaded
  refine (KeepsPower.of_same (opportunity_powerView _)).sound (enterNormal_sound (s := s.recovered) ?_ ?_ ?_)
  · rwa [step.limits]
  · rwa [kept]
  · rwa [step.rails]

namespace KeepsPower
variable (s : State)

theorem enterNormal : KeepsPower s s.enterNormal := by
  refine ⟨⟨?_, ?_⟩, fun ⟨limits, loaded, _, _, ordered, _⟩ => enterNormal_sound limits loaded ordered⟩
  · rw [enterNormal_pmg]
    exact id
  · rw [loadSound_iff, loadSound_iff, enterNormal_cableCount, enterNormal_pmg]
    exact fun h on => ⟨rfl, (h on).2⟩

theorem leaveStart (m : Measurement) : KeepsPower s (s.leaveStart m) := by
  unfold State.leaveStart
  split
  · exact enterNormal s
  · exact refl s

/-- R155: the level is L3 before the supply state is BROWNOUT. -/
theorem enterBrownout (h : s.pmg.limits.ok = true → s.pmg.level = .l3) : KeepsPower s s.enterBrownout := by
  refine ⟨⟨fun _ => ?_, fun _ => ?_⟩, fun ⟨limits, loaded, _, _, ordered, _⟩ => ?_⟩
  · exact enterBrownout_countsFit s
  · rw [loadSound_iff, enterBrownout_pmg]
    exact fun on => Bool.noConfusion on
  · have formed : s.brownedOut.formTarget.powerSound := formTarget_sound limits loaded ordered fun _ => h limits
    have told : KeepsPower s.brownedOut.formTarget ((s.brownedOut.formTarget.raise .brownout).bump .brownoutEntries) :=
      of_same (raise_powerView _ _)
    exact (told.trans (counted _ _ rfl fun _ => ⟨Nat.zero_le _, Nat.zero_le _, Nat.zero_le _, Nat.zero_le _⟩)).sound formed

theorem brownoutTest (m : Measurement) (h : s.pmg.limits.ok = true → m.vin < s.pmg.limits.vCut → s.pmg.level = .l3) :
    KeepsPower s (s.brownoutTest m) := by
  by_cases low : m.vin < s.pmg.limits.vCut
  · rw [brownoutTest_low low]
    split
    · have into := enterBrownout s.cutCounted fun limits => h limits low
      exact ⟨⟨fun _ => enterBrownout_countsFit _, fun load => into.load load⟩, fun sound => into.sound sound⟩
    next first => exact counted s _ rfl fun ⟨rise, fall, _, recovery⟩ => ⟨rise, fall, by dsimp only; omega, recovery⟩
  · rw [brownoutTest_quiet (Nat.not_lt.1 low)]
    exact counted s _ rfl fun ⟨rise, fall, _, recovery⟩ => ⟨rise, fall, Nat.zero_le _, recovery⟩

theorem recover : KeepsPower s s.recover := ⟨⟨fun _ => recover_countsFit s, recover_load⟩, recover_sound⟩

theorem recoveryTest (m : Measurement) : KeepsPower s (s.recoveryTest m) := by
  have first := counted s (fun p => { p with recovery := if p.limits.vWarn ≤ m.vin then min 500 (p.recovery + 1) else 0 }) rfl
    fun ⟨rise, fall, cut, _⟩ => ⟨rise, fall, cut, by dsimp only; split; exacts [Nat.min_le_left _ _, Nat.zero_le _]⟩
  unfold State.recoveryTest
  dsimp only
  split
  · exact first.trans (recover _)
  · exact first

/-- R150, R155: what is below V_cut is below V_crit, and has left the level at L3. -/
theorem supplyTests (m : Measurement) (h : s.pmg.supply ≠ .brownout → s.pmg.limits.ok = true →
    m.vin < s.pmg.limits.vCut → s.pmg.level = .l3) : KeepsPower s (s.supplyTests m) := by
  have left (up : s.pmg.supply ≠ .brownout) : KeepsPower s ((s.leaveStart m).brownoutTest m) := by
    refine (leaveStart s m).trans (brownoutTest _ m ?_)
    have kept : (s.leaveStart m).pmg.limits = s.pmg.limits ∧ (s.leaveStart m).pmg.level = s.pmg.level := by
      unfold State.leaveStart
      split
      · rw [enterNormal_pmg]
        exact ⟨rfl, rfl⟩
      · exact ⟨rfl, rfl⟩
    rw [kept.1, kept.2]
    exact h up
  unfold State.supplyTests
  split
  next => exact recoveryTest s m
  next e => exact left (by rw [e]; exact Supply.noConfusion)
  next e => exact left (by rw [e]; exact Supply.noConfusion)

end KeepsPower

/-! ### A running CABLE_MEASURE (R176 to R178) -/

theorem loadSound_of_off {s : State} (h : s.pmg.testLoad = false) : s.loadSound := fun on => by
  rw [h] at on
  exact Bool.noConfusion on

theorem work_cableCount {s : State} {q : Proc} (h : s.prr.running = some q) (n sv si v1 i1 v2 i2 : Nat) :
    (s.work (.cable n sv si v1 i1 v2 i2)).prr.cableCount = some n := by
  simp [State.work, Prr.cableCount, h]

theorem endProc_pmg (s : State) (r : ProcResult) (v : List ProcValue) : (s.endProc r v).pmg = s.pmg :=
  (ReaderStep.endProc s r v).pmg_eq

theorem cableEnd_testLoad (s : State) (v1 i1 v2 i2 v3 i3 : Nat) :
    (s.cableEnd v1 i1 v2 i2 v3 i3).pmg.testLoad = s.pmg.testLoad := by
  unfold State.cableEnd
  dsimp only
  split <;> rw [endProc_pmg]
  rfl

/-- R176: the test load goes on with the 1,000th measurement and off with the 2,000th, or with an ending before. -/
theorem cableStep_load {s : State} (h : s.loadSound) (m : Measurement) : (s.cableStep m).loadSound := by
  unfold State.cableStep
  split
  next run at_ n sumV sumI v1 i1 v2 i2 e =>
    have phase : s.pmg.testLoad = true → s.pmg.supply = .normal ∧ 1000 ≤ n ∧ n < 2000 := fun on => by
      obtain ⟨normal, k, count, lo, hi⟩ := (loadSound_iff s).1 h on
      obtain rfl : n = k := by simpa [Prr.cableCount, e] using count
      exact ⟨normal, lo, hi⟩
    dsimp only
    split
    · exact loadSound_of_off (by rw [endProc_pmg]; rfl)
    · split
      next first =>
        rw [loadSound_iff]
        intro on
        have normal : s.pmg.supply = .normal := by simpa [State.load, State.work] using on
        exact ⟨normal, 1000, (work_cableCount e _ _ _ _ _ _ _).trans (congrArg some first), Nat.le_refl _, by decide⟩
      · split
        · exact loadSound_of_off rfl
        · split
          next third =>
            refine loadSound_of_off ((cableEnd_testLoad _ _ _ _ _ _ _).trans (Bool.eq_false_iff.2 fun on => ?_))
            obtain ⟨_, _, hi⟩ := phase on
            omega
          next =>
            rw [loadSound_iff]
            intro on
            obtain ⟨normal, lo, hi⟩ := phase on
            exact ⟨normal, n + 1, work_cableCount e _ _ _ _ _ _ _, by omega, by omega⟩
  next => exact h

namespace KeepsPower
variable (s : State)

theorem cableStep (m : Measurement) : KeepsPower s (s.cableStep m) := by
  have loaded : (s.cableStep m).loaded = s.loaded := (Keeps.cableStep s m).loaded
  refine ⟨⟨?_, fun h => cableStep_load h m⟩, ?_⟩
  · rw [cableStep_pmg]
    exact id
  · unfold State.powerSound
    rw [cableStep_pmg, loaded]
    exact id

/-! ### The measurement (R146) -/

theorem measure (m : Measurement) : KeepsPower s (s.measure m) := by
  have judged : ((s.modPmg fun p => { p with meas := some m }).judgePower m).powerView = s.powerView :=
    judgePower_powerView _ m
  unfold State.measure
  generalize (s.modPmg fun p => { p with meas := some m }).judgePower m = u at judged
  refine after_same ?_ judged
  have step := MeterStep.shedStep u m
  refine ((shed u m).trans (supplyTests _ m fun up ok low => ?_)).trans (cableStep _ m)
  rw [step.supply] at up
  rw [step.limits] at ok low
  exact shed_level up (low.trans (vCut_lt ok))

/-! ### The reset, the store load and the settings (R165, R166, R168, R207, R209) -/

/-- R168: a reset keeps supply state, standby mark and rails, and forms their target and level. -/
theorem doRestart : KeepsPower s s.doRestart := by
  have reset : KeepsPower s s.blocksRestart := by
    refine ⟨⟨fun ⟨_, _, cut, recovery⟩ => ⟨Nat.zero_le _, Nat.zero_le _, cut, recovery⟩,
      fun _ => loadSound_of_off rfl⟩, fun ⟨_, loaded, target, outside, ordered, _⟩ => ?_⟩
    refine ⟨loaded, loaded, rfl, fun x hx => outside x (by rwa [target]), ordered, fun (e : s.pmg.supply = .brownout) => ?_⟩
    show restartLevel s.pmg.supply = .l3
    rw [e]
    rfl
  unfold State.doRestart
  exact reset.then_same (by simp)

theorem restartOnLeave : KeepsPower s s.restartOnLeave := by
  unfold State.restartOnLeave
  split
  · exact doRestart s
  · exact refl s

theorem enterRetrain (c : Channel) : KeepsPower s (s.enterRetrain c) := by
  unfold State.enterRetrain
  exact (restartOnLeave _).after_same (by simp)

theorem enterSleep : KeepsPower s s.enterSleep := by
  have told (u : State) (h : u.powerView = s.powerView) : KeepsPower s (u.tellPmg true).imusOff.scanOff :=
    ((tellPmg u true).after_same h).then_same (by simp)
  unfold State.enterSleep
  exact (told _ (by simp)).trans (restartOnLeave _)

/-- R166, R207: the load puts limits in order in force. -/
theorem endLoad (x : StoreState) {v : Loaded} (h : v.limits.ok = true) : KeepsPower s (s.endLoad x v) := by
  have taken : KeepsPower s (s.takeLoaded v) := ⟨.of_meter rfl rfl, fun ⟨_, _, rest⟩ => ⟨h, h, rest⟩⟩
  unfold State.endLoad
  dsimp only
  split <;> exact taken.then_same (by simp)

/-- R165: the four counts begin again. -/
theorem recounted : KeepsPower s (s.modPmg fun p => { p with rise := 0, fall := 0, cut := 0, recovery := 0 }) :=
  counted s _ rfl fun _ => ⟨Nat.zero_le _, Nat.zero_le _, Nat.zero_le _, Nat.zero_le _⟩

/-- R165: the limits that are taken are in range and order, and all counts begin again. -/
theorem setLimits (q : List Byte) : KeepsPower s (setLimits q s).state := by
  unfold Machine.setLimits
  split
  · exact refl s
  next l parsed =>
    have ok : l.ok = true := by
      unfold parseLimits at parsed
      split at parsed
      next good => exact Option.some.inj parsed ▸ good.2
      next => exact absurd parsed (by simp)
    have taken : KeepsPower s (s.modPmg fun p => { p with limits := l }) :=
      ⟨.of_meter rfl rfl, fun ⟨_, rest⟩ => ⟨ok, rest⟩⟩
    exact (taken.then_same (formBudget_powerView _)).trans (recounted _)

end KeepsPower
end Sys2Proof.Machine
end

section
/-! Every command keeps limits, target, rails, counts and test load sound, row by row, and with it every step (O8). -/

namespace Sys2Proof.Machine

/-! ### The start and the ending of a procedure (R169 to R174) -/

/-- What a start of a procedure leaves. -/
structure SamePmg (s t : State) : Prop where
  pmg : t.pmg = s.pmg
  loaded : t.loaded = s.loaded

namespace SamePmg
variable {s t u : State}

theorem refl (s : State) : SamePmg s s := ⟨rfl, rfl⟩

theorem trans (h : SamePmg s t) (g : SamePmg t u) : SamePmg s u := ⟨g.pmg.trans h.pmg, g.loaded.trans h.loaded⟩

theorem endProc (s : State) (r : ProcResult) (v : List ProcValue) : SamePmg s (s.endProc r v) :=
  ⟨endProc_pmg s r v, (Keeps.endProc s r v).loaded⟩

theorem hold (s : State) (x : Targets) (n : Nat) : SamePmg s (s.hold x n) := by
  unfold State.hold
  generalize x.list = xs
  induction xs generalizing s with
  | nil => exact refl s
  | cons y ys ih => exact trans (t := s.modImu y fun i => { i with syncAt := some n }) ⟨rfl, rfl⟩ (ih _)

theorem reply (s : State) (k : Byte) (p : Port) (tag : Byte) (x : Status) (v : List Byte) (r : MessageRole) :
    SamePmg s (s.reply k p tag x v r) :=
  ⟨(sbn_place _ p r _).pmg, (sbn_place _ p r _).loaded⟩

theorem request (s : State) {k : ReqKind} {p : Port} {tag : Byte} {q : List Byte} {own : State → Answer}
    (h : SamePmg s (own s).state) : SamePmg s (s.request k p tag q own) := by
  unfold State.request
  split
  · split
    · exact reply ..
    · exact h.trans (reply ..)
  · exact refl s

/-- R170: a start check reads the sensors and the supply, and ends the run or marks what it waits for. -/
theorem startCheck (s : State) (a : StartArgs) : SamePmg s (s.startCheck a) := by
  unfold State.startCheck
  dsimp only
  cases a with
  | biasCal t d n =>
    dsimp only
    split
    · exact refl s
    · exact endProc s _ _
  | cableMeasure =>
    dsimp only
    split
    · exact refl s
    · exact endProc s _ _
  | sensorSync t =>
    dsimp only
    split
    · exact hold s t _
    · exact endProc s _ _
  | writeStore =>
    dsimp only
    split
    · exact ⟨rfl, rfl⟩
    · exact endProc s _ _

end SamePmg

/-- R164: a test load that is on belongs to a run. -/
theorem KeepsPower.of_unloaded {s t : State} (idle : s.prr.running = none) (h : SamePmg s t) : KeepsPower s t := by
  refine ⟨⟨?_, fun load => loadSound_of_off (Bool.eq_false_iff.2 fun on => ?_)⟩, ?_⟩
  · rw [h.pmg]
    exact id
  · rw [h.pmg] at on
    obtain ⟨_, n, running, _⟩ := (loadSound_iff s).1 load on
    simp [Prr.cableCount, idle] at running
  · unfold State.powerSound
    rw [h.pmg, h.loaded]
    exact id

namespace KeepsPower
variable (s : State)

/-! ### What the rows share -/

/-- A row that acts under a condition, and otherwise has no effect. -/
theorem only {p : Prop} [Decidable p] {t : State} (h : KeepsPower s t) : KeepsPower s (if p then t else s) := by
  split
  · exact h
  · exact refl s

theorem request (k : ReqKind) (p : Port) (tag : Byte) (q : List Byte) (own : State → Answer)
    (h : KeepsPower s (own s).state) : KeepsPower s (s.request k p tag q own) := by
  refine only s ?_
  split
  · exact of_same (by simp)
  · exact h.then_same (by simp)

theorem withoutArgs (q : List Byte) (own : State → Answer) (h : KeepsPower s (own s).state) :
    KeepsPower s (withoutArgs q own s).state := by
  unfold Machine.withoutArgs
  split
  · exact h
  · exact refl s

/-! ### Power and link rows -/

/-- R166: a limit out of range is replaced by its default, and voltages out of order by theirs. -/
theorem storedLimits_ok (l : Limits) : (storedLimits l).ok = true := by
  have pick {lo hi d : Nat} (v : Nat) (h : lo ≤ d ∧ d ≤ hi) : lo ≤ inRange lo hi d v ∧ inRange lo hi d v ≤ hi := by
    unfold inRange
    split
    next inside => exact inside
    next => exact h
  have cap := pick (lo := 1000) (hi := 30000) (d := 7500) l.cap (by decide)
  have safe := pick (lo := 1000) (hi := 30000) (d := 4000) l.safe (by decide)
  have warn := pick (lo := 6000) (hi := 20000) (d := 10500) l.vWarn (by decide)
  have crit := pick (lo := 5500) (hi := 19999) (d := 9800) l.vCrit (by decide)
  have cut := pick (lo := 5000) (hi := 19998) (d := 9000) l.vCut (by decide)
  unfold storedLimits
  dsimp only
  split
  next order =>
    simp only [Limits.ok, Bool.and_eq_true, decide_eq_true_eq]
    exact ⟨⟨⟨cap.1, cap.2, safe⟩, warn.1, warn.2, crit.1, crit.2, cut⟩, order⟩
  next =>
    simp only [Limits.ok, Bool.and_eq_true, decide_eq_true_eq]
    exact ⟨⟨⟨cap.1, cap.2, safe⟩, by decide⟩, by decide⟩

theorem storeLoadComplete (r : Option (List Byte)) : Lands KeepsPower (.storeLoadComplete r) s := ⟨_, rfl, by
  have builtIn : Loaded.builtIn.limits.ok = true := by decide
  refine only s ?_
  split
  · split
    · exact endLoad s _ (storedLimits_ok _)
    · exact endLoad s _ builtIn
  · exact endLoad s _ builtIn⟩

theorem inputMeasurement (v i : Nat) : Lands KeepsPower (.inputMeasurement v i) s := ⟨_, rfl, by
  split
  · exact refl s
  · exact (measure _ _).after_same rfl⟩

theorem railPowerGood (x : Rail) : Lands KeepsPower (.railPowerGood x) s := ⟨_, rfl, by
  split
  next e h => exact railOn s h
  next => exact refl s⟩

theorem railRampTimeout (x : Rail) : Lands KeepsPower (.railRampTimeout x) s := ⟨_, rfl, by
  split
  next e h => exact only s (railFails s (by rw [h]; exact RailState.noConfusion))
  next => exact refl s⟩

theorem powerGoodWithdrawn (x : Rail) : Lands KeepsPower (.powerGoodWithdrawn x) s := ⟨_, rfl, by
  split
  next h => exact railFails s (by rw [h]; exact RailState.noConfusion)
  next => exact refl s⟩

/-- R12, R22, R162: at an entry into ACTIVE the PMG forms the target, and the opportunity comes last. -/
theorem announced {u : State} (h : u.powerView = s.powerView) : KeepsPower s (u.tellPmg false).opportunity :=
  ((tellPmg u false).after_same h).then_same (opportunity_powerView _)

theorem trainingRecordReceived (r : BaseRecord) (l : BitVec 4) : Lands KeepsPower (.trainingRecordReceived r l) s :=
  ⟨_, rfl, by
    split
    · split <;> exact of_same (by simp)
    · exact refl s⟩

theorem trainingAttemptSucceeds (n : Nat) : Lands KeepsPower (.trainingAttemptSucceeds n) s := ⟨_, rfl, by
  split
  · exact only s (announced s (by simp))
  · exact refl s⟩

theorem trainingAttemptTimeout : Lands KeepsPower .trainingAttemptTimeout s := ⟨_, rfl, by
  split
  · exact only s (of_same (by simp))
  · exact refl s⟩

theorem symbolLockLost (l : Fin 4) : Lands KeepsPower (.symbolLockLost l) s := ⟨_, rfl, by
  split
  · exact only s (enterRetrain s _)
  · exact only s (of_same (by simp))
  · exact only s (of_same (by simp))
  · exact refl s⟩

theorem retrainAttemptSucceeds (n : Nat) : Lands KeepsPower (.retrainAttemptSucceeds n) s := ⟨_, rfl, by
  split
  · exact only s (announced s rfl)
  · exact refl s⟩

theorem retrainAttemptTimeout : Lands KeepsPower .retrainAttemptTimeout s := ⟨_, rfl, by
  split
  · exact only s (of_same (by simp))
  · exact refl s⟩

theorem retryTimerExpiry : Lands KeepsPower .retryTimerExpiry s := ⟨_, rfl, by
  split
  · exact only s (of_same rfl)
  · exact refl s⟩

theorem crcError : KeepsPower s s.crcError := by
  unfold State.crcError
  dsimp only
  split
  · exact (only _ (enterRetrain _ _)).after_same (by simp)
  · exact of_same (by simp)

theorem discard (d : Discard) : KeepsPower s (s.discard d) := by
  cases d with
  | crc => exact crcError s
  | stream | linkKind | pictureKind => exact of_same rfl

theorem linkBlockDiscarded (b : List Byte) : Lands KeepsPower (.linkBlockDiscarded b) s := ⟨_, rfl, by
  split
  · split
    · exact discard s _
    · exact refl s
  · exact only s (of_same (by simp))⟩

theorem timeMark (q : List Byte) : Lands KeepsPower (.timeMark q) s :=
  ⟨_, rfl, only s (of_same (by split <;> simp))⟩

theorem timeBasisFree : Lands KeepsPower .timeBasisFree s := ⟨_, rfl, by
  split
  · exact only s (of_same (by simp))
  · exact refl s⟩

theorem sleepMark (q : List Byte) : Lands KeepsPower (.sleepMark q) s := ⟨_, rfl, only s (by
  split
  · exact enterSleep s
  · exact of_same (by simp))⟩

theorem messageLeft (p : Port) (r : MessageRole) : KeepsPower s (s.messageLeft p r) := by
  cases r with
  | notice | reply => exact of_same rfl
  | restartReply => exact (doRestart _).after_same rfl
  | sleepReply =>
    unfold State.messageLeft
    dsimp only
    split
    · exact (enterSleep (s.replyLeft p)).after_same rfl
    · exact of_same rfl

theorem blockSent (x : Transmission) : KeepsPower s (s.blockSent x) := by
  unfold State.blockSent
  dsimp only
  split
  · exact of_same rfl
  · exact of_same rfl
  · exact of_same rfl
  · exact of_same rfl
  · split
    · exact of_same rfl
    · exact (messageLeft _ _ _).after_same (by simp)

theorem upstreamBlockSent : Lands KeepsPower .upstreamBlockSent s := ⟨_, rfl, by
  refine only s ?_
  split
  · exact (blockSent s _).then_same (opportunity_powerView _)
  · exact refl s⟩

theorem serviceFrameSent : Lands KeepsPower .serviceFrameSent s := ⟨_, rfl, by
  have sent : KeepsPower s s.frameSent := by
    unfold State.frameSent
    dsimp only
    split
    · exact (messageLeft _ _ _).after_same (by simp)
    · exact of_same rfl
  split
  · exact refl s
  · exact sent.then_same (by simp)⟩

/-! ### Requests -/

section
variable (p : Port) (tag : Byte) (q : List Byte)

theorem attach : Lands KeepsPower (.attach p tag q) s := ⟨_, rfl, by
  have asked := request s .attach p tag q _ (withoutArgs s q (attachTo p) (of_same (by
    unfold attachTo
    repeat' split
    all_goals rfl)))
  split
  · exact asked.then_same (by simp)
  · exact asked⟩

theorem detach : Lands KeepsPower (.detach p tag q) s := ⟨_, rfl, by
  have asked := request s .detach p tag q _ (withoutArgs s q (fun s => .ok s []) (refl s))
  split
  · exact asked.then_same (by simp)
  · exact asked⟩

theorem restart : Lands KeepsPower (.restart p tag q) s := ⟨_, rfl, by
  have asked := request s .restart p tag q _ (withoutArgs s q (restartBy p) (of_same rfl))
  split
  · exact asked.trans (doRestart _)
  · exact asked⟩

/-- R164, R169: with no run in progress the test load is off, so a start cannot leave it on. -/
theorem startProcedure : Lands KeepsPower (.startProcedure p tag q) s := ⟨_, rfl, by
  by_cases idle : s.prr.running = none
  · have started : SamePmg s (startBy q s).state := by
      unfold startBy
      rw [if_neg (by simp [idle])]
      split <;> exact ⟨rfl, rfl⟩
    have asked : SamePmg s (s.request .startProcedure p tag q (startBy q)) := .request s started
    refine of_unloaded idle ?_
    split
    · split
      · exact asked.trans (SamePmg.startCheck _ _)
      · exact asked
    · exact asked
  · have busy : s.prr.running.isSome = true := Option.isSome_iff_ne_none.2 idle
    have own : (startBy q s).state.powerView = s.powerView := by
      unfold startBy
      rw [if_pos busy]
      rfl
    rw [if_neg (by simp [idle])]
    exact request s _ p tag q _ (of_same own)⟩

end

/-! ### The requests' own effects -/

section
variable (p : Port) (q : List Byte)

theorem statusOf_powerView : (statusOf q s).state.powerView = s.powerView := by
  unfold statusOf
  split <;> rfl

theorem linkSleepBy_powerView : (linkSleepBy s).state.powerView = s.powerView := by
  unfold linkSleepBy
  repeat' split
  all_goals rfl

theorem setRate_powerView : (setRate q s).state.powerView = s.powerView := by
  unfold setRate
  split
  · rfl
  · exact reformSync_powerView _ _

theorem setWear_powerView : (setWear q s).state.powerView = s.powerView := by
  unfold setWear
  split
  · rfl
  · exact awayExpires_powerView _

theorem mapAxes_powerView : (mapAxes q s).state.powerView = s.powerView := by
  unfold mapAxes
  split
  · rfl
  · exact followStale_powerView _

theorem select_powerView : (select q s).state.powerView = s.powerView := by
  unfold select
  repeat' split
  all_goals rfl

theorem anchorBy_powerView : (anchorBy q s).state.powerView = s.powerView := by
  unfold anchorBy
  dsimp only
  repeat' split
  all_goals rfl

theorem setPose_powerView : (setPose q s).state.powerView = s.powerView := by
  unfold setPose
  split <;> rfl

theorem setProfile_powerView : (setProfile q s).state.powerView = s.powerView := by
  unfold setProfile
  split
  · rfl
  · simp [Answer.ok]

theorem stage_powerView : (stage q s).state.powerView = s.powerView := by
  unfold stage
  split <;> rfl

theorem setCapture_powerView : (setCapture q s).state.powerView = s.powerView := by
  unfold setCapture
  split
  · rfl
  · exact takeCapture_powerView _ _

theorem setVolume_powerView : (setVolume q s).state.powerView = s.powerView := by
  unfold setVolume
  dsimp only
  split
  · rfl
  · split <;> rfl

theorem setResistance_powerView : (setResistance q s).state.powerView = s.powerView := by
  unfold setResistance
  split <;> rfl

/-- R177: the ending that a stop leaves, with the test load off after a CABLE_MEASURE. -/
theorem abortBy : KeepsPower s (abortBy s).state := by
  have other {u : State} (h : u.powerView = s.powerView) (idle : s.prr.cableCount = none) :
      KeepsPower s (u.endProc .aborted []) :=
    of_same ((endProc_powerView ((cableCount_congr h).trans idle) _ _).trans h)
  unfold Machine.abortBy
  split
  next => exact refl s
  next r running =>
    obtain ⟨run, at_, w⟩ := r
    cases w with
    | biasCal | store => exact other rfl (by simp [Prr.cableCount, running])
    | sync t _ => exact other (unhold_powerView s t) (by simp [Prr.cableCount, running])
    | cable =>
      have ended : SamePmg (s.load false) ((s.load false).endProc .aborted []) := .endProc _ _ _
      refine ⟨⟨?_, fun _ => loadSound_of_off ?_⟩, ?_⟩
      · show _ → ((s.load false).endProc .aborted []).pmg.countsFit
        rw [ended.pmg]
        exact id
      · exact congrArg Pmg.testLoad ended.pmg
      · show _ → ((s.load false).endProc .aborted []).powerSound
        unfold State.powerSound
        rw [ended.pmg, ended.loaded]
        exact id

theorem readCountersBy_powerView : (readCountersBy p q s).state.powerView = s.powerView := by
  unfold readCountersBy
  split
  · rfl
  · split
    · rfl
    next clear _ =>
      cases clear
      · rfl
      · exact clearCounts_powerView s _

theorem clearBy_powerView : (clearBy q s).state.powerView = s.powerView := by
  unfold clearBy
  split
  · rfl
  · exact attend_powerView _

theorem maskBy_powerView : (maskBy q s).state.powerView = s.powerView := by
  unfold maskBy
  split
  · rfl
  · simp [Answer.ok]

end

/-! ### Procedures, sensors and sound -/

theorem biasCalCollectionEnd : Lands KeepsPower .biasCalCollectionEnd s := ⟨_, rfl, by
  split
  next running => exact only s (of_same (judgeBias_powerView (by simp [Prr.cableCount, running]) _ _ _ _))
  next => exact refl s⟩

theorem storeWriteComplete : Lands KeepsPower .storeWriteComplete s := ⟨_, rfl, by
  split
  next image running =>
    have worked : (s.work (.store image true)).powerView = s.powerView :=
      modPrr_powerView s _ (by simp [Prr.cableCount, running])
    exact of_same worked
  next => exact refl s⟩

theorem storeReadbackComplete (b : List Byte) : Lands KeepsPower (.storeReadbackComplete b) s := ⟨_, rfl, by
  split
  next running =>
    have idle : s.prr.cableCount = none := by simp [Prr.cableCount, running]
    split <;> exact of_same (endProc_powerView idle _ _)
  next => exact refl s⟩

theorem sampleReadEnd (x : Sensor) (r : ReadResult) : Lands KeepsPower (.sampleReadEnd x r) s := ⟨_, rfl, by
  cases r <;> exact only s (of_same (by simp [State.readSucceeds]))⟩

theorem imuStartupTransaction (x : Sensor) (r : StartupResult) : Lands KeepsPower (.imuStartupTransaction x r) s :=
  ⟨_, rfl, by
    split
    · dsimp only
      split <;> exact of_same (by simp)
    · exact of_same (by simp)
    · exact refl s⟩

theorem imuStartupTimeout (x : Sensor) : Lands KeepsPower (.imuStartupTimeout x) s := ⟨_, rfl, by
  split
  · exact only s (of_same (by simp))
  · exact refl s⟩

theorem imuRetryExpiry (x : Sensor) : Lands KeepsPower (.imuRetryExpiry x) s := ⟨_, rfl, by
  split
  · exact only s (of_same rfl)
  · exact refl s⟩

theorem wearReadDone (r : WearResult) : Lands KeepsPower (.wearReadDone r) s := ⟨_, rfl, only s (of_same (by
  unfold State.wearWakes
  split <;> simp))⟩

theorem blankStart : Lands KeepsPower .blankStart s :=
  ⟨_, rfl, only s (of_same (by simp [State.takeBlank, State.copyAtBlank]))⟩

theorem outputInstant (m1 m2 : Int) : Lands KeepsPower (.outputInstant m1 m2) s := ⟨_, rfl, only s (of_same
  ((CapturesOnly.of_capture _ m1 m2).powerView.trans ((PlaysOnly.of_playback _).powerView.trans rfl)))⟩

/-- R206, R208: the values after power-on are those of the reset state. -/
theorem powerOn (x : Straps) : Lands KeepsPower (.powerOn x) s := ⟨_, rfl, by
  have counts : State.reset.pmg.countsFit := by
    unfold Pmg.countsFit
    decide
  have on : KeepsPower s (s.powerOn x) :=
    ⟨⟨fun _ => counts, fun _ => loadSound_of_off rfl⟩, fun _ => reset_powerSound⟩
  split
  · exact on
  · exact on.trans (endLoad _ _ (by decide))⟩

/-! ### Every command -/

theorem exec (i : Instr) : Lands KeepsPower i s := by
  cases i with
  | powerOn x => exact powerOn s x
  | storeLoadComplete r => exact storeLoadComplete s r
  | inputMeasurement v i => exact inputMeasurement s v i
  | railPowerGood x => exact railPowerGood s x
  | railRampTimeout x => exact railRampTimeout s x
  | powerGoodWithdrawn x => exact powerGoodWithdrawn s x
  | trainingRecordReceived r l => exact trainingRecordReceived s r l
  | trainingAttemptSucceeds n => exact trainingAttemptSucceeds s n
  | trainingAttemptTimeout => exact trainingAttemptTimeout s
  | symbolLockLost l => exact symbolLockLost s l
  | retrainAttemptSucceeds n => exact retrainAttemptSucceeds s n
  | retrainAttemptTimeout => exact retrainAttemptTimeout s
  | retryTimerExpiry => exact retryTimerExpiry s
  | lineEnergyDetected => exact ⟨_, rfl, only s (of_same (by simp))⟩
  | linkBlockDiscarded b => exact linkBlockDiscarded s b
  | crcWindowBoundary => exact ⟨_, rfl, only s (of_same rfl)⟩
  | timeMark q => exact timeMark s q
  | timeBasisFree => exact timeBasisFree s
  | sleepMark q => exact sleepMark s q
  | statusBeatDue => exact ⟨_, rfl, only s (of_same (by simp))⟩
  | upstreamBlockSent => exact upstreamBlockSent s
  | frameBegin q => exact ⟨_, rfl, only s (of_same (by simp))⟩
  | lines q => exact ⟨_, rfl, only s (of_same (by simp))⟩
  | frameEnd q => exact ⟨_, rfl, only s (of_same (by simp))⟩
  | sound q => exact ⟨_, rfl, only s (of_same (by simp))⟩
  | controlBlockReceived q => exact ⟨_, rfl, only s (of_same (by split <;> simp))⟩
  | serviceFrameReceived b => exact ⟨_, rfl, only s (of_same (by simp [State.hearBytes]))⟩
  | serviceByteTimeout => exact ⟨_, rfl, of_same (by simp)⟩
  | serviceFrameSent => exact serviceFrameSent s
  | unknownKind p tag k q => exact ⟨_, rfl, only s (of_same (by simp))⟩
  | attach p tag q => exact attach s p tag q
  | detach p tag q => exact detach s p tag q
  | getInfo p tag q => exact ⟨_, rfl, request s _ p tag q _ (withoutArgs s q (fun s => .ok s (s.infoBytes p)) (refl s))⟩
  | getStatus p tag q => exact ⟨_, rfl, request s _ p tag q _ (of_same (statusOf_powerView s q))⟩
  | restart p tag q => exact restart s p tag q
  | linkSleep p tag q => exact ⟨_, rfl, request s _ p tag q _ (withoutArgs s q _ (of_same (linkSleepBy_powerView s)))⟩
  | setSensorRate p tag q => exact ⟨_, rfl, request s _ p tag q _ (of_same (setRate_powerView s q))⟩
  | setWear p tag q => exact ⟨_, rfl, request s _ p tag q _ (of_same (setWear_powerView s q))⟩
  | setAxisMap p tag q => exact ⟨_, rfl, request s _ p tag q _ (of_same (mapAxes_powerView s q))⟩
  | selectPrimary p tag q => exact ⟨_, rfl, request s _ p tag q _ (of_same (select_powerView s q))⟩
  | anchor p tag q => exact ⟨_, rfl, request s _ p tag q _ (of_same (anchorBy_powerView s q))⟩
  | setPoseOverride p tag q => exact ⟨_, rfl, request s _ p tag q _ (of_same (setPose_powerView s q))⟩
  | clearPoseOverride p tag q => exact ⟨_, rfl, request s _ p tag q _ (withoutArgs s q _ (of_same rfl))⟩
  | setProfile p tag q => exact ⟨_, rfl, request s _ p tag q _ (of_same (setProfile_powerView s q))⟩
  | stagePulses p tag q => exact ⟨_, rfl, request s _ p tag q _ (of_same (stage_powerView s q))⟩
  | setVolume p tag q => exact ⟨_, rfl, request s _ p tag q _ (of_same (setVolume_powerView s q))⟩
  | setCapture p tag q => exact ⟨_, rfl, request s _ p tag q _ (of_same (setCapture_powerView s q))⟩
  | setPowerLimits p tag q => exact ⟨_, rfl, request s _ p tag q _ (setLimits s q)⟩
  | setCableResistance p tag q => exact ⟨_, rfl, request s _ p tag q _ (of_same (setResistance_powerView s q))⟩
  | railRestart p tag q => exact ⟨_, rfl, request s _ p tag q _ (withoutArgs s q _ (restartRails s))⟩
  | startProcedure p tag q => exact startProcedure s p tag q
  | abortProcedure p tag q => exact ⟨_, rfl, request s _ p tag q _ (withoutArgs s q _ (abortBy s))⟩
  | getProcedureResult p tag q => exact ⟨_, rfl, request s _ p tag q _ (withoutArgs s q (fun s => .ok s s.prr.bytes) (refl s))⟩
  | readConditions p tag q => exact ⟨_, rfl, request s _ p tag q _ (withoutArgs s q (fun s => .ok s s.conditionBytes) (refl s))⟩
  | readCounters p tag q => exact ⟨_, rfl, request s _ p tag q _ (of_same (readCountersBy_powerView s p q))⟩
  | clearConditions p tag q => exact ⟨_, rfl, request s _ p tag q _ (of_same (clearBy_powerView s q))⟩
  | setNoticeMask p tag q => exact ⟨_, rfl, request s _ p tag q _ (of_same (maskBy_powerView s q))⟩
  | biasCalCollectionEnd => exact biasCalCollectionEnd s
  | storeWriteComplete => exact storeWriteComplete s
  | storeReadbackComplete b => exact storeReadbackComplete s b
  | sampleTick => exact ⟨_, rfl, only s (of_same rfl)⟩
  | sampleReadEnd x r => exact sampleReadEnd s x r
  | imuStartupTransaction x r => exact imuStartupTransaction s x r
  | imuStartupTimeout x => exact imuStartupTimeout s x
  | imuRetryExpiry x => exact imuRetryExpiry s x
  | silenceWatchExpiry => exact ⟨_, rfl, only s (of_same (by simp))⟩
  | poseStale => exact ⟨_, rfl, of_same (by simp)⟩
  | wearReadTick => exact ⟨_, rfl, only s (of_same rfl)⟩
  | wearReadDone r => exact wearReadDone s r
  | awayTimerExpiry => exact ⟨_, rfl, of_same (by simp)⟩
  | blankStart => exact blankStart s
  | illumPulseStart x => exact ⟨_, rfl, only s (of_same rfl)⟩
  | illumPulseEnd x => exact ⟨_, rfl, only s (of_same rfl)⟩
  | outputInstant m1 m2 => exact outputInstant s m1 m2
  | attenuationRampStep => exact ⟨_, rfl, only s (of_same rfl)⟩
  | holdoffExpiry => exact ⟨_, rfl, only s (of_same (by simp))⟩
  | quietHoldEnd => exact ⟨_, rfl, only s (of_same (by simp))⟩

end KeepsPower

/-- Settles O8: a step is a command, which keeps all of it sound, or the passing of a microsecond, which leaves it. -/
theorem powerStaysSound : Obligations.PowerStaysSound := by
  have kept {s t : State} (h : step s = .next t) : KeepsPower s t := by
    obtain ⟨c, rest, _, he⟩ | ⟨_, rfl⟩ := step_cases h
    · exact (KeepsPower.exec { s with pending := rest } c).of_exec he |>.after_same rfl
    · exact .of_same rfl
  exact ⟨fun _ _ sound h => (kept h).sound sound, fun _ _ fit h => (kept h).counts fit, fun _ _ on h => (kept h).load on⟩

end Sys2Proof.Machine
end

section
/-!
What the power statements report (R147, R153, R155, R158, R161): the conditions and counters of the power set, and the operations
that leave them. A block that reads a rail, a shed level or the budget reports in its own set alone.
-/

namespace Sys2Proof.Machine

/-- The power conditions and the power counters are as they were. -/
structure KeepsReports (s t : State) : Prop where
  set : t.ntu.pending.power = s.ntu.pending.power
  counts : ∀ c ∈ CounterGroup.power.members, t.count c = s.count c

theorem put_power {m : Masks} {c : Condition} (h : c.set ≠ .power) : (m.put c).power = m.power := by
  unfold Masks.put
  generalize m.get c.set ||| c.bit = v
  cases hs : c.set
  case power => exact absurd hs h
  all_goals rfl

theorem drop_power {m : Masks} {c : Condition} (h : c.set ≠ .power) : (m.drop c).power = m.power := by
  unfold Masks.drop
  generalize m.get c.set &&& ~~~c.bit = v
  cases hs : c.set
  case power => exact absurd hs h
  all_goals rfl

/-- A report counts notices alone. -/
theorem SameButNotices.powerCounts {s t : State} (h : SameButNotices s t) : ∀ c ∈ CounterGroup.power.members, t.count c = s.count c :=
  fun c mem => h.counts c (by rintro rfl; exact absurd mem (by decide)) (by rintro rfl; exact absurd mem (by decide))

namespace KeepsReports

section
variable {s t u : State}

theorem trans (h : KeepsReports s t) (g : KeepsReports t u) : KeepsReports s u :=
  ⟨g.set.trans h.set, fun c mem => (g.counts c mem).trans (h.counts c mem)⟩

theorem has (h : KeepsReports s t) {c : Condition} (power : c.set = .power) : t.ntu.pending.has c = s.ntu.pending.has c := by
  simp only [Masks.has, power, Masks.get, h.set]

/-- An operation that counts nothing and leaves the NTU. -/
theorem of_same (ntu : t.ntu = s.ntu) (counts : ∀ c, t.count c = s.count c) : KeepsReports s t := ⟨by rw [ntu], fun c _ => counts c⟩

end

variable (s : State)

theorem refl : KeepsReports s s := of_same rfl fun _ => rfl
theorem modTlc (f : Tlc → Tlc) : KeepsReports s (s.modTlc f) := of_same rfl fun _ => rfl
theorem modMsu (f : Msu → Msu) : KeepsReports s (s.modMsu f) := of_same rfl fun _ => rfl
theorem modImu (x : Sensor) (f : Imu → Imu) : KeepsReports s (s.modImu x f) := of_same rfl fun _ => rfl
theorem modOin (f : Oin → Oin) : KeepsReports s (s.modOin f) := of_same rfl fun _ => rfl
theorem modSou (f : Sou → Sou) : KeepsReports s (s.modSou f) := of_same rfl fun _ => rfl
theorem modIlg (f : Ilg → Ilg) : KeepsReports s (s.modIlg f) := of_same rfl fun _ => rfl
theorem modAud (f : Aud → Aud) : KeepsReports s (s.modAud f) := of_same rfl fun _ => rfl
theorem modPmg (f : Pmg → Pmg) : KeepsReports s (s.modPmg f) := of_same rfl fun _ => rfl
theorem modPrr (f : Prr → Prr) : KeepsReports s (s.modPrr f) := of_same rfl fun _ => rfl

theorem addCount (c : Counter) (n : Nat) (h : c ∉ CounterGroup.power.members) : KeepsReports s (s.addCount c n) :=
  ⟨rfl, fun d mem => by rw [count_addCount, if_neg (by rintro rfl; exact h mem)]⟩

theorem bump (c : Counter) (h : c ∉ CounterGroup.power.members) : KeepsReports s (s.bump c) := addCount s c 1 h

theorem raise (c : Condition) (h : c.set ≠ .power) : KeepsReports s (s.raise c) :=
  ⟨by rw [raise_pending, put_power h], (sbn_raise s c).powerCounts⟩

theorem lower (c : Condition) (h : c.set ≠ .power) : KeepsReports s (s.lower c) :=
  ⟨by rw [lower_pending, drop_power h], (sbn_lower s c).powerCounts⟩

theorem follow (c : Condition) (b : Bool) (h : c.set ≠ .power) : KeepsReports s (s.follow c b) := by
  unfold State.follow
  split
  · exact raise s c h
  · exact lower s c h

theorem opportunity : KeepsReports s s.opportunity := ⟨by rw [opportunity_ntu], (sbn_opportunity s).powerCounts⟩

theorem cutIf (x : Transmission) : KeepsReports s (s.cutIf x) := by
  unfold State.cutIf
  split
  · exact of_same rfl fun _ => rfl
  · exact refl s

/-- Steps made one after another. -/
theorem foldl {α : Type} (f : State → α → State) (h : ∀ s a, KeepsReports s (f s a)) (xs : List α) :
    KeepsReports s (xs.foldl f s) := by
  induction xs generalizing s with
  | nil => exact refl s
  | cons x xs ih => exact (h s x).trans (ih _)

/-! ### Illumination and the runner (R118, R170, R174) -/

theorem enterDark : KeepsReports s s.enterDark :=
  ((addCount s _ _ (by decide)).trans (bump _ _ (by decide))).trans (modIlg _ _)

theorem judgeDark : KeepsReports s s.judgeDark := by
  unfold State.judgeDark
  split
  · split
    · exact modIlg s _
    · exact refl s
  · split
    · exact refl s
    · exact enterDark s

theorem endProc (r : ProcResult) (v : List ProcValue) : KeepsReports s (s.endProc r v) := by
  unfold State.endProc
  split
  · exact refl s
  · exact (modPrr s _).trans (raise _ _ (by decide))

theorem targetLeft (x : Sensor) : KeepsReports s (s.targetLeft x) := by
  unfold State.targetLeft
  split
  · exact endProc s _ _
  · exact refl s

theorem collect (x : Sensor) (r : Axes) (t : Int) : KeepsReports s (s.collect x r t) := by
  unfold State.collect
  split
  · split
    · exact modPrr s _
    · exact refl s
  · exact refl s

/-! ### Orientation (R53 to R63) -/

theorem followStale : KeepsReports s s.followStale := follow s _ _ (by decide)

theorem bind (x : Sensor) : KeepsReports s (s.bind x) := modOin s _

theorem failover : KeepsReports s s.failover :=
  ((bind s _).trans (bump _ _ (by decide))).trans (raise _ _ (by decide))

theorem primaryFails : KeepsReports s s.primaryFails := by
  unfold State.primaryFails
  split
  · exact failover s
  · exact modOin s _

theorem primaryLeft (x : Sensor) : KeepsReports s (s.primaryLeft x) := by
  unfold State.primaryLeft
  split
  · exact modOin s _
  · exact refl s

theorem reportOff (x : Sensor) : KeepsReports s (s.reportOff x) := by
  unfold State.reportOff
  split
  · exact (primaryLeft s x).trans (modOin _ _)
  · exact refl s

theorem testSample (b : Bool) : KeepsReports s (s.testSample b) := by
  unfold State.testSample
  dsimp only
  split
  · split
    · exact ((modOin s _).trans (modOin _ _)).trans (primaryFails _)
    · exact (modOin s _).trans (modOin _ _)
  · exact (modOin s _).trans (modOin _ _)

theorem takeSample (x : Sensor) (t : Nat) (r : Axes) (b : Bool) : KeepsReports s (s.takeSample x t r b) := by
  unfold State.takeSample
  split
  · exact ((modOin s _).trans (followStale _)).trans (testSample _ b)
  · exact refl s

/-! ### IMU states (R29 to R33) -/

theorem startImus : KeepsReports s s.startImus := by
  rw [startImus_rest]
  exact of_same rfl fun _ => rfl

theorem imuFault_set (x : Sensor) : (imuFault x).set ≠ .power := by cases x <;> decide

theorem enterOff (x : Sensor) : KeepsReports s (s.enterOff x) := by
  have told := ((modImu s x Imu.toOff).trans (lower _ _ (imuFault_set x))).trans (reportOff _ x)
  unfold State.enterOff
  split
  · exact refl s
  · dsimp only
    split
    · exact told.trans (targetLeft _ x)
    · exact told

/-! ### Ticks, records and samples (R35 to R41) -/

theorem enqueueRecord (r : MotionRecord) : KeepsReports s (s.enqueueRecord r) := by
  unfold State.enqueueRecord
  split
  · exact (modMsu s _).trans (opportunity _)
  · split
    · exact refl s
    · dsimp only
      split
      · exact ((((modMsu s _).trans (cutIf _ _)).trans (bump _ _ (by decide))).trans
          (raise _ _ (by decide))).trans (opportunity _)
      · exact (((((modMsu s _).trans (modImu _ _ _)).trans (cutIf _ _)).trans (bump _ _ (by decide))).trans
          (raise _ _ (by decide))).trans (opportunity _)

theorem makeRecord (t : Nat) (r : Read) (d : ImuData) : KeepsReports s (s.makeRecord t r d) := by
  have marks := (modImu s r.sensor (fun i => { i with gapPending := false, syncPending := false })).trans
    (modTlc _ fun c => { c with stepMotion := false })
  unfold State.makeRecord
  dsimp only
  split
  · exact ((marks.trans (bump _ _ (by decide))).trans (raise _ _ (by decide))).trans (enqueueRecord _ _)
  · exact marks.trans (enqueueRecord _ _)

theorem handSample (t : Nat) (r : Read) (d : ImuData) : KeepsReports s (s.handSample t r d) :=
  (takeSample s _ _ _ _).trans (collect _ _ _ _)

theorem eachSucceeded (f : State → Read → ImuData → State) (h : ∀ s r d, KeepsReports s (f s r d)) (rs : List Read) :
    KeepsReports s (eachSucceeded f rs s) := by
  unfold Machine.eachSucceeded
  induction rs generalizing s with
  | nil => exact refl s
  | cons r rs ih =>
    rw [List.foldl_cons]
    refine .trans ?_ (ih _)
    split
    · exact h s r _
    · exact refl s

theorem syncDone (t : Tick) : KeepsReports s (s.syncDone t) := by
  unfold State.syncDone
  split
  · split
    · exact endProc s _ _
    · exact refl s
  · exact refl s

theorem markGaps (t : Tick) : KeepsReports s (s.markGaps t) := by
  unfold State.markGaps
  exact (modImu s .a _).trans (modImu _ .b _)

theorem finishTick (t : Tick) : KeepsReports s (s.finishTick t) :=
  (((markGaps s t).trans (eachSucceeded _ _ (fun s r d => makeRecord s t.time r d) _)).trans
    (eachSucceeded _ _ (fun s r d => handSample s t.time r d) _)).trans (syncDone _ t)

theorem completeTicks : KeepsReports s s.completeTicks := (modMsu s _).trans (foldl _ _ finishTick _)

theorem imusOff : KeepsReports s s.imusOff :=
  (((modMsu s _).trans (completeTicks _)).trans (enterOff _ .a)).trans (enterOff _ .b)

theorem reformSync (n : Nat) : KeepsReports s (s.reformSync n) := by
  unfold State.reformSync
  split
  · exact refl s
  · exact (((modMsu s _).trans (modPrr _ _)).trans (modImu _ .a _)).trans (modImu _ .b _)

/-! ### The wear sensor (R42 to R46) -/

theorem changeWear (w : Wear) : KeepsReports s (s.changeWear w) :=
  (((modMsu s _).trans (bump _ _ (by decide))).trans (raise _ _ (by decide))).trans (judgeDark _)

theorem wearStops : KeepsReports s s.wearStops := by
  have stopped := modMsu s (fun m =>
    { m with wornCount := 0, removedCount := 0, wearFails := 0, wearReading := none, wearBusy := false })
  unfold State.wearStops
  dsimp only
  split
  · exact stopped.trans (changeWear _ _)
  · exact stopped

/-! ### Scan-out and audio (R82, R131, R138) -/

theorem scanOff : KeepsReports s s.scanOff := by
  unfold State.scanOff
  split
  · exact refl s
  · exact (modSou s _).trans (judgeDark _)

theorem scanStart : KeepsReports s s.scanStart := by
  rw [scanStart_rest]
  exact of_same rfl fun _ => rfl

theorem stopPlayback : KeepsReports s s.stopPlayback := (addCount s _ _ (by decide)).trans (modAud _ _)

theorem stopCapture : KeepsReports s s.stopCapture := by
  unfold State.stopCapture
  dsimp only
  split
  · exact (modAud s _).trans (raise _ _ (by decide))
  · exact modAud s _

/-! ### What the readers of a rail do (R29, R46, R82, R118, R131, R138) -/

theorem railReached (x : Rail) : KeepsReports s (s.railReached x) := by
  cases x with
  | sensor => exact startImus s
  | audio => exact refl s
  | panelL | panelR => exact scanStart s
  | illum => exact judgeDark s

theorem railLeft (x : Rail) (b : Bool) : KeepsReports s (s.railLeft x b) := by
  cases x with
  | sensor => exact (imusOff s).trans (wearStops _)
  | audio =>
    cases b
    · exact stopPlayback s
    · exact (stopPlayback s).trans (stopCapture _)
  | panelL | panelR => exact scanOff s
  | illum => exact judgeDark s

end KeepsReports
end Sys2Proof.Machine
end

section
/-!
What changes of rails report (R158, R159, R161), and the whole of what the sequencer does (R157).
-/

namespace Sys2Proof.Machine

/-! ### The sequencer moves rails alone (R157) -/

/-- R157: a rail that leaves OFF for RAMPING is nothing to its readers, and has no condition to clear. -/
theorem rampUp_rest (s : State) (x : Rail) : s.rampUp x = { s with pmg := { s.pmg with rails := (s.rampUp x).pmg.rails } } := by
  unfold State.rampUp
  split
  next may =>
    have off : s.pmg.rails.get x = .off := (mayRamp_iff.1 may).1
    have put : s.setRail x (.ramping (s.lt + Config.rampLimit)) = s.putRail x (.ramping (s.lt + Config.rampLimit)) := by
      simp [setRail_eq, off, State.railTaken, State.followRail]
    rw [put]
    rfl
  next => rfl

theorem sequence_rest (s : State) : s.sequence = { s with pmg := { s.pmg with rails := s.sequence.pmg.rails } } := by
  have all (xs : List Rail) (s : State) :
      xs.foldl State.rampUp s = { s with pmg := { s.pmg with rails := (xs.foldl State.rampUp s).pmg.rails } } := by
    induction xs generalizing s with
    | nil => rfl
    | cons x xs ih =>
      rw [List.foldl_cons, ih, rampUp_rest s x]
  exact all railOrder s

/-! ### The condition of a rail (R158) -/

theorem railFault_power (x : Rail) : (railFault x).set = .power := by cases x <;> rfl

theorem railFault_inj {x y : Rail} (h : railFault x = railFault y) : x = y := by
  cases x <;> cases y <;> first | rfl | exact absurd h (by decide)

theorem railTaken_has (s : State) (x : Rail) (st : RailState) (c : Condition) : (s.railTaken x st).ntu.pending.has c =
    if c = railFault x then
      if st = .fault then true else if s.pmg.rails.get x = .fault then false else s.ntu.pending.has c
    else s.ntu.pending.has c := by
  have put : (s.putRail x st).ntu = s.ntu := rfl
  unfold State.railTaken State.followRail
  split
  · rw [raise_pending, Masks.has_put, put]
    by_cases e : c = railFault x <;> simp [e]
  · split
    · rw [lower_pending, Masks.has_drop, put]
      by_cases e : c = railFault x <;> simp [e]
    · rw [put, ite_self]

theorem railTaken_counts (s : State) (x : Rail) (st : RailState) :
    ∀ c ∈ CounterGroup.power.members, (s.railTaken x st).count c = s.count c := by
  unfold State.railTaken State.followRail
  split
  · exact (sbn_raise _ _).powerCounts
  · split
    · exact (sbn_lower _ _).powerCounts
    · exact fun _ _ => rfl

/-- R29, R46, R82, R118, R131, R138: the readers of a rail report nothing of the power set. -/
theorem setRail_readers (s : State) (x : Rail) (st : RailState) : KeepsReports (s.railTaken x st) (s.setRail x st) := by
  rw [setRail_eq]
  split
  · exact .railLeft _ x _
  · split
    · exact .railReached _ x
    · exact .refl _

theorem setRail_has {c : Condition} (power : c.set = .power) (s : State) (x : Rail) (st : RailState) :
    (s.setRail x st).ntu.pending.has c = if c = railFault x then
      if st = .fault then true else if s.pmg.rails.get x = .fault then false else s.ntu.pending.has c
    else s.ntu.pending.has c := ((setRail_readers s x st).has power).trans (railTaken_has s x st c)

/-! ### What operations leave of the reports -/

/-- The power conditions other than `cs` and the power counters other than `ns` are as they were. -/
structure Reports (cs : List Condition) (ns : List Counter) (s t : State) : Prop where
  others : ∀ c : Condition, c.set = .power → c ∉ cs → t.ntu.pending.has c = s.ntu.pending.has c
  counts : ∀ n ∈ CounterGroup.power.members, n ∉ ns → t.count n = s.count n

namespace Reports

section
variable {s t u : State} {cs ds : List Condition} {ns ms : List Counter}

theorem trans (h : Reports cs ns s t) (g : Reports cs ns t u) : Reports cs ns s u :=
  ⟨fun c p n => (g.others c p n).trans (h.others c p n), fun c mem n => (g.counts c mem n).trans (h.counts c mem n)⟩

theorem of_kept (h : KeepsReports s t) : Reports cs ns s t := ⟨fun _ p _ => h.has p, fun c mem _ => h.counts c mem⟩

theorem mono (h : Reports cs ns s t) (hc : cs ⊆ ds) (hn : ns ⊆ ms) : Reports ds ms s t :=
  ⟨fun c p n => h.others c p fun mem => n (hc mem), fun c mem n => h.counts c mem fun mem => n (hn mem)⟩

end

variable (s : State) {cs : List Condition} {ns : List Counter}

theorem refl : Reports cs ns s s := of_kept (.refl s)

theorem raise {c : Condition} (h : c ∈ cs) : Reports cs ns s (s.raise c) where
  others d _ n := by rw [raise_pending, has_put_of_ne (by rintro rfl; exact n h)]
  counts d mem _ := (sbn_raise s c).powerCounts d mem

theorem lower {c : Condition} (h : c ∈ cs) : Reports cs ns s (s.lower c) where
  others d _ n := by rw [lower_pending, has_drop_of_ne (by rintro rfl; exact n h)]
  counts d mem _ := (sbn_lower s c).powerCounts d mem

theorem follow {c : Condition} (b : Bool) (h : c ∈ cs) : Reports cs ns s (s.follow c b) := by
  unfold State.follow
  split
  · exact raise s h
  · exact lower s h

theorem bump {n : Counter} (h : n ∈ ns) : Reports cs ns s (s.bump n) :=
  ⟨fun _ _ _ => rfl, fun d _ out => by rw [count_bump, if_neg (by rintro rfl; exact out h)]⟩

/-- R158: the conditions of the rails. -/
def railFaults : List Condition := railOrder.map railFault

theorem mem_railFaults (x : Rail) : railFault x ∈ railFaults := by cases x <;> decide

theorem setRail (x : Rail) (st : RailState) : Reports railFaults [] s (s.setRail x st) where
  others c p n := by rw [setRail_has p, if_neg (by rintro rfl; exact n (mem_railFaults x))]
  counts c mem _ := ((setRail_readers s x st).counts c mem).trans (railTaken_counts s x st c mem)

theorem takeDown (xs : List Rail) : Reports railFaults [] s (s.takeDown xs) := by
  induction xs generalizing s with
  | nil => exact refl s
  | cons x xs ih =>
    refine trans (t := if s.pmg.rails.get x = .off then s else s.setRail x .off) ?_ (ih _)
    split
    · exact refl s
    · exact setRail s x _

theorem sequence : Reports cs ns s s.sequence := by
  rw [sequence_rest]
  exact ⟨fun _ _ _ => rfl, fun _ _ _ => rfl⟩

theorem formTarget : Reports railFaults [] s s.formTarget := ((of_kept (.modPmg s _)).trans (takeDown _ _)).trans (sequence _)

end Reports

/-! ### Rail conditions through the taking down (R158, R160, R161) -/

/-- R158, R161: a FAULT rail that is taken down clears its condition. -/
theorem takeDown_fault (xs : List Rail) (s : State) (y : Rail) : (s.takeDown xs).ntu.pending.has (railFault y) =
    if y ∈ xs ∧ s.pmg.rails.get y = .fault then false else s.ntu.pending.has (railFault y) := by
  induction xs generalizing s with
  | nil => simp [State.takeDown]
  | cons x xs ih =>
    have get : (s.takeDown [x]).pmg.rails.get y = if y = x then .off else s.pmg.rails.get y := by
      rw [takeDown_get]
      simp
    have first : (s.takeDown [x]).ntu.pending.has (railFault y) =
        if y = x ∧ s.pmg.rails.get y = .fault then false else s.ntu.pending.has (railFault y) := by
      show (if s.pmg.rails.get x = .off then s else s.setRail x .off).ntu.pending.has (railFault y) = _
      by_cases e : y = x
      · subst e
        split
        next off => simp [off]
        next => simp [setRail_has (railFault_power y)]
      · have ne : railFault y ≠ railFault x := fun h => e (railFault_inj h)
        split
        next => simp [e]
        next => simp [setRail_has (railFault_power y), ne, e]
    show ((s.takeDown [x]).takeDown xs).ntu.pending.has (railFault y) = _
    rw [ih, get, first]
    by_cases e : y = x
    · subst e
      by_cases fault : s.pmg.rails.get y = .fault <;> simp [fault]
    · simp [e]

/-! ### What the sequencer brings up (R157) -/

theorem rampUp_get (s : State) (x y : Rail) : (s.rampUp x).pmg.rails.get y =
    if y = x ∧ s.pmg.mayRamp y = true then .ramping (s.lt + 5000) else s.pmg.rails.get y := by
  unfold State.rampUp
  by_cases e : y = x
  · subst e
    by_cases may : s.pmg.mayRamp y = true
    · rw [if_pos may, if_pos ⟨rfl, may⟩, RailStep.setRail_rails, RailStep.get_set_self]
      rfl
    · rw [if_neg may, if_neg fun h => may h.2]
  · rw [if_neg fun h : y = x ∧ _ => e h.1]
    split
    · exact RailStep.setRail_get_ne s e _
    · rfl

/-- R157: a rail that enters RAMPING lets no other rail enter it. -/
theorem rampUp_mayRamp {s : State} {x y : Rail} (h : y ≠ x) : (s.rampUp x).pmg.mayRamp y = s.pmg.mayRamp y := by
  have on (z : Rail) : (s.rampUp x).pmg.rails.get z = .on ↔ s.pmg.rails.get z = .on := by
    rw [rampUp_get]
    split
    next may => simp [(mayRamp_iff.1 may.2).1]
    next => rfl
  rw [Bool.eq_iff_iff, mayRamp_iff, mayRamp_iff, (rampUp_step s x).target, rampUp_get, if_neg fun h' => h h'.1]
  simp only [on]

theorem rampUp_foldl_all {xs : List Rail} (nodup : xs.Nodup) (s : State) (y : Rail) :
    (xs.foldl State.rampUp s).pmg.rails.get y =
      if y ∈ xs ∧ s.pmg.mayRamp y = true then .ramping (s.lt + 5000) else s.pmg.rails.get y := by
  induction xs generalizing s with
  | nil => simp
  | cons x xs ih =>
    obtain ⟨out, nodup⟩ := List.nodup_cons.1 nodup
    rw [List.foldl_cons, ih nodup, (rampUp_step s x).lt, rampUp_get]
    by_cases e : y = x
    · subst e
      simp [out]
    · simp [e, rampUp_mayRamp e]

/-- R157: the sequencer brings up every rail that may come up when it begins, and leaves the others. -/
theorem sequence_get_all (s : State) (y : Rail) : s.sequence.pmg.rails.get y =
    if s.pmg.mayRamp y = true then .ramping (s.lt + 5000) else s.pmg.rails.get y := by
  have mem : y ∈ railOrder := by cases y <;> decide
  have all := rampUp_foldl_all (xs := railOrder) (by decide) s y
  simp only [mem, true_and] at all
  exact all

end Sys2Proof.Machine
end

section
/-! The settings of the PMG and the restart of its rails (R161, R163, R165): SET_POWER_LIMITS (O25), RAIL_RESTART and SET_CABLE_RESISTANCE (O24). -/

namespace Sys2Proof.Machine

/-! ### SET_POWER_LIMITS (R165) -/

/-- R165: SET_POWER_LIMITS takes limits in order. -/
theorem setLimits_good {s : State} {q : List Byte} {b : Nat} (length : q.length = 10) (ok : (limitsAt q 0).ok = true)
    (budget : budgetOf s.tlc.link s.tlc.offer (limitsAt q 0) = b) : setLimits q s =
      .ok { s with pmg := { s.pmg with
        limits := limitsAt q 0, budget := b, rise := 0, fall := 0, cut := 0, recovery := 0 } } (numBytes b) := by
  rw [setLimits, parseLimits, if_pos ⟨length, ok⟩, ← budget]
  rfl

theorem setLimits_bad {s : State} {q : List Byte} (h : ¬ (q.length = 10 ∧ (limitsAt q 0).ok = true)) :
    setLimits q s = .plain s .badArgument := by
  rw [setLimits, parseLimits, if_neg h]

/-- 8.8: the ranges of the five limits and the order of the voltages. -/
theorem limits_ok_iff (l : Limits) : l.ok = true ↔ (1000 ≤ l.cap ∧ l.cap ≤ 30000) ∧ (1000 ≤ l.safe ∧ l.safe ≤ 30000) ∧
    (6000 ≤ l.vWarn ∧ l.vWarn ≤ 20000) ∧ (5500 ≤ l.vCrit ∧ l.vCrit ≤ 19999) ∧ (5000 ≤ l.vCut ∧ l.vCut ≤ 19998) ∧
    l.vCut < l.vCrit ∧ l.vCrit < l.vWarn := by
  simp only [Limits.ok, Bool.and_eq_true, decide_eq_true_eq]
  tauto

/-- Settles O25: the controller or another port, and limits in order or not. -/
theorem powerLimitsReplaceAllFive : Obligations.PowerLimitsReplaceAllFive := by
  intro s p tag q turn
  have good : (limitsAt q 0).ok = true ↔ _ := limits_ok_iff (limitsAt q 0)
  refine ⟨fun role => ?_, fun role bad => ?_, fun role ⟨length, ranges⟩ => ?_⟩
  · exact ⟨_, congrArg Host.Outcome.next (request_refused s .setPowerLimits p tag q _ turn rfl role),
      reply_replied s .setPowerLimits p tag .notController [] .reply MessageRole.noConfusion⟩
  · exact answers_of_directed ⟨turn, role⟩ rfl (setLimits_bad fun ⟨length, ok⟩ => bad ⟨length, good.1 ok⟩)
  · refine answers_of_directed ⟨turn, role⟩ rfl (setLimits_good length (good.2 ranges) ?_)
    cases s.tlc.link <;> rfl

/-! ### RAIL_RESTART and SET_CABLE_RESISTANCE (R161, R163) -/

/-- R161: the rails in FAULT, in their order. -/
def State.failedRails (s : State) : List Rail := railOrder.filter fun x => s.pmg.rails.get x == .fault

theorem mem_failedRails {s : State} {x : Rail} : x ∈ s.failedRails ↔ s.pmg.rails.get x = .fault := by
  have mem : x ∈ railOrder := by cases x <;> decide
  simp [State.failedRails, mem]

/-- R161: the rails in FAULT have been taken to OFF, and that is counted; the sequencer has still to act. -/
def State.faultsCleared (s : State) : State := (s.takeDown s.failedRails).bump .railRestarts

theorem restartRails_idle {s : State} (h : ∀ x, s.pmg.rails.get x ≠ .fault) : restartRails s = .plain s .wrongState :=
  if_pos (List.isEmpty_iff.2 (List.eq_nil_iff_forall_not_mem.2 fun x mem => h x (mem_failedRails.1 mem)))

theorem restartRails_failed {s : State} {x : Rail} (h : s.pmg.rails.get x = .fault) :
    restartRails s = .ok s.faultsCleared.sequence [] :=
  if_neg fun empty => absurd (mem_failedRails.2 h) (by rw [State.failedRails, List.isEmpty_iff.1 empty]; exact List.not_mem_nil)

theorem faultsCleared_get (s : State) (x : Rail) : s.faultsCleared.pmg.rails.get x =
    if s.pmg.rails.get x = .fault then .off else s.pmg.rails.get x := by
  unfold State.faultsCleared
  rw [State.bump_pmg, takeDown_get]
  simp only [mem_failedRails]

theorem faultsCleared_fault {s : State} {x : Rail} (h : s.pmg.rails.get x = .fault) :
    s.faultsCleared.ntu.pending.has (railFault x) = false := by
  unfold State.faultsCleared
  rw [State.bump_ntu, takeDown_fault, if_pos ⟨mem_failedRails.2 h, h⟩]

theorem faultsCleared_count (s : State) : s.faultsCleared.count .railRestarts = oneMore (s.count .railRestarts) := by
  unfold State.faultsCleared
  rw [count_bump, if_pos rfl, (Reports.takeDown s _).counts _ (by decide) List.not_mem_nil]
  rfl

theorem faultsCleared_step (s : State) : RailStep s s.faultsCleared :=
  (RailStep.takeDown s _).trans (ReaderStep.bump _ _ (by decide)).toRailStep

/-- R163: SET_CABLE_RESISTANCE takes up to 65,535 mΩ. -/
theorem setResistance_good {s : State} {q : List Byte} (h : q.length = 4 ∧ natAt q 0 4 ≤ 65535) :
    setResistance q s = .ok { s with pmg := { s.pmg with rCable := natAt q 0 4 } } [] := by
  rw [setResistance, parseResistance, if_pos h]
  rfl

theorem setResistance_bad {s : State} {q : List Byte} (h : ¬ (q.length = 4 ∧ natAt q 0 4 ≤ 65535)) :
    setResistance q s = .plain s .badArgument := by
  rw [setResistance, parseResistance, if_neg h]

/-- Settles O24: a rail in FAULT or none, and a resistance within its range or not. -/
theorem railRestartAndCableResistance : Obligations.RailRestartAndCableResistance := by
  refine ⟨fun s p tag directed => ⟨fun none => answers_of_directed directed rfl (restartRails_idle none), fun ⟨x, failed⟩ => ?_⟩,
    fun s p tag q directed => ⟨fun good => answers_of_directed directed rfl (setResistance_good good),
      fun bad => answers_of_directed directed rfl (setResistance_bad bad)⟩⟩
  obtain ⟨t, run, replied⟩ := answers_of_directed (i := .railRestart p tag []) directed rfl (restartRails_failed failed)
  have step := (faultsCleared_step s).trans (.sequence _)
  refine ⟨_, t, run, replied, fun y => ?_, fun y fault => ?_, fun y on => ?_, ?_, step.link, step.fst⟩
  · rw [sequence_get_all, faultsCleared_get]
    split
    · exact RailState.noConfusion
    · split
      · exact RailState.noConfusion
      next other => exact other
  · rw [sequence_rest]
    exact faultsCleared_fault fault
  · have kept : s.faultsCleared.pmg.rails.get y = .on := by
      rw [faultsCleared_get, on]
      rfl
    rw [sequence_get (.inr (by rw [kept]; exact RailState.noConfusion)), kept]
  · rw [sequence_rest]
    exact faultsCleared_count s

end Sys2Proof.Machine
end

section
/-! Power-good, the ramp timeout and the withdrawal of power-good (R158, R159, R29, R82): the rails come up in order and fail (O23). -/

namespace Sys2Proof.Machine

/-! ### A rail reaches ON (R158) -/

/-- R158: a RAMPING rail that reaches ON has no condition to clear, and its readers act. -/
theorem setRail_on {s : State} {x : Rail} {e : Nat} (h : s.pmg.rails.get x = .ramping e) :
    s.setRail x .on = (s.putRail x .on).railReached x := by
  simp [setRail_eq, h, State.railTaken, State.followRail]

theorem judgeDark_aud (s : State) : s.judgeDark.aud = s.aud := by
  unfold State.judgeDark
  split <;> split <;> rfl

theorem judgeDark_prr (s : State) : s.judgeDark.prr = s.prr := by
  unfold State.judgeDark
  split <;> split <;> rfl

/-- R29, R82, R118, R129: what a rail reaches ON starts no sound and ends no procedure. -/
theorem railReached_rest (s : State) (x : Rail) : (s.railReached x).aud = s.aud ∧ (s.railReached x).prr = s.prr := by
  cases x with
  | sensor =>
    rw [State.railReached, startImus_rest]
    exact ⟨rfl, rfl⟩
  | audio => exact ⟨rfl, rfl⟩
  | panelL | panelR =>
    rw [State.railReached, scanStart_rest]
    exact ⟨rfl, rfl⟩
  | illum => exact ⟨judgeDark_aud s, judgeDark_prr s⟩

theorem asleep_eq_false {s : State} (h : s.tlc.link ≠ .sleep) : s.asleep = false := beq_eq_false_iff_ne.2 h

/-- R29: SENSOR, reaching ON, starts the IMUs. -/
theorem sensorOn_starts {s : State} {e : Nat} (h : s.pmg.rails.get .sensor = .ramping e) (awake : s.tlc.link ≠ .sleep) (y : Sensor)
    (off : (s.msu.imu y).state = .off) : ((s.setRail .sensor .on).msu.imu y).state = .starting .reset s.lt := by
  rw [setRail_on h]
  refine startImus_starts (s := s.putRail .sensor .on) ?_ y off
  have awake : (s.putRail .sensor .on).asleep = false := asleep_eq_false awake
  have on : (s.putRail .sensor .on).pmg.rails.sensor = .on := rfl
  simp [State.imuEnabled, awake, on]

/-- R82: the second panel rail, reaching ON, starts the blank schedule. -/
theorem panelOn_starts {s : State} {e : Nat} (h : s.pmg.rails.get .panelR = .ramping e) (left : s.pmg.rails.panelL = .on)
    (awake : s.tlc.link ≠ .sleep) (off : s.sou.scanOut = .off) : (s.setRail .panelR .on).sou =
      { s.sou with scanOut := .idle, schedule := some ⟨s.lt + s.fst.profile.period, s.fst.profile.period⟩ } := by
  have awake : (s.putRail .panelR .on).asleep = false := asleep_eq_false awake
  have panels : (s.putRail .panelR .on).panelsOn = true := by
    have left : (s.putRail .panelR .on).pmg.rails.panelL = .on := left
    have right : (s.putRail .panelR .on).pmg.rails.panelR = .on := rfl
    simp [State.panelsOn, awake, left, right]
  rw [setRail_on h]
  show (s.putRail .panelR .on).scanStart.sou = _
  unfold State.scanStart
  rw [if_pos ⟨off, panels⟩]
  rfl

/-! ### A rail fails (R158, R159) -/

/-- R157: no rail comes up after one that has failed. -/
theorem railFails_later {s : State} {x y : Rail} (h : y ∈ laterRails x) : (s.railFails x).pmg.rails.get y =
    if s.pmg.rails.get y = .fault then .fault else .off := by
  have low {z : Rail} (later : z ∈ laterRails x) : (s.railLost x).pmg.rails.get z =
      if s.pmg.rails.get z = .fault then .fault else .off := by
    rw [railLost_get, if_neg (ne_of_later later)]
    split
    next down => rw [if_neg down.2]
    next up =>
      have fault : s.pmg.rails.get z = .fault := by
        by_contra other
        exact up ⟨later, other⟩
      rw [if_pos fault, fault]
  have waits : ¬ (s.railLost x).pmg.mayRamp y = true := fun may => by
    obtain ⟨b, before, e⟩ := railBefore_of_later h
    have on := (mayRamp_iff.1 may).2.2 b before
    obtain rfl | later := e
    · rw [railLost_get, if_pos rfl] at on
      exact RailState.noConfusion on
    · rw [low later] at on
      split at on <;> exact RailState.noConfusion on
  rw [railFails_eq, sequence_get_all, if_neg waits, low h]

theorem railFails_self (s : State) (x : Rail) : (s.railFails x).pmg.rails.get x = .fault := by
  have fault : (s.railLost x).pmg.rails.get x = .fault := (railLost_get s x x).trans (if_pos rfl)
  rw [railFails_eq, sequence_get (.inr (by rw [fault]; exact RailState.noConfusion)), fault]

theorem later_asymm {x y : Rail} (h : x ∈ laterRails y) : y ∉ laterRails x := fun back =>
  ne_of_later (laterRails_trans h back) rfl

/-- R158: earlier rails keep their states. -/
theorem railFails_earlier {s : State} {x y : Rail} (h : x ∈ laterRails y) (up : s.pmg.rails.get y ≠ .off) :
    (s.railFails x).pmg.rails.get y = s.pmg.rails.get y := by
  have kept : (s.railLost x).pmg.rails.get y = s.pmg.rails.get y := by
    rw [railLost_get, if_neg (ne_of_later h).symm, if_neg fun down => later_asymm h down.1]
  rw [railFails_eq, sequence_get (.inr (by rw [kept]; exact up)), kept]

/-- R158: the failure is reported. -/
theorem railFails_reports (s : State) (x : Rail) : (s.railFails x).ntu.pending.has (railFault x) = true ∧
    (s.railFails x).count .railFaults = oneMore (s.count .railFaults) := by
  rw [railFails_eq, sequence_rest]
  show (s.railLost x).ntu.pending.has (railFault x) = true ∧ (s.railLost x).count .railFaults = _
  unfold State.railLost
  constructor
  · rw [takeDown_fault, if_neg, State.bump_ntu, setRail_has (railFault_power x), if_pos rfl, if_pos rfl]
    exact fun down => ne_of_later (List.mem_filter.1 down.1).1 rfl
  · rw [(Reports.takeDown _ _).counts _ (by decide) List.not_mem_nil, count_bump, if_pos rfl,
      (Reports.setRail s x _).counts _ (by decide) List.not_mem_nil]
    rfl

/-- Settles O23: power-good for a RAMPING rail, and the two ways in which a rail fails. -/
theorem railsComeUpAndFault : Obligations.RailsComeUpAndFault := by
  refine ⟨fun s x e ramping => ?_, fun s x c cause => ?_⟩
  · have run : exec (.railPowerGood x) s = .next (s.setRail x .on).sequence := by
      simp [exec, execRailPowerGood, ramping]
    have on : (s.setRail x .on).pmg.rails.get x = .on := by rw [RailStep.setRail_rails, RailStep.get_set_self]
    have others {y : Rail} (ne : y ≠ x) : (s.setRail x .on).pmg.rails.get y = s.pmg.rails.get y :=
      RailStep.setRail_get_ne s ne _
    have first := RailStep.setRail s x .on
    have step := first.trans (.sequence _)
    have rest := railReached_rest (s.putRail x .on) x
    rw [← setRail_on ramping] at rest
    refine ⟨_, run, ?_, fun y before covered off => ?_, fun y ne up => ?_, ?_, ?_, step.fst, ?_, step.link, ?_⟩
    · rw [sequence_get (.inr (by rw [on]; exact RailState.noConfusion)), on]
    · have ne : y ≠ x := by
        rintro rfl
        rw [ramping] at off
        exact RailState.noConfusion off
      have may : (s.setRail x .on).pmg.mayRamp y = true := by
        refine mayRamp_iff.2 ⟨(others ne).trans off, by rwa [first.target], fun z hz => ?_⟩
        rw [before] at hz
        rwa [← Option.some.inj hz]
      rw [sequence_get_all, if_pos may, first.lt]
    · rw [sequence_get (.inr (by rw [others ne]; exact up)), others ne]
    · rintro y rfl awake off
      rw [sequence_rest]
      exact sensorOn_starts ramping awake y off
    · rintro rfl left awake off
      rw [sequence_rest]
      show (s.setRail .panelR .on).sou.scanOut = .idle ∧ (s.setRail .panelR .on).sou.schedule = _
      rw [panelOn_starts ramping left awake off]
      exact ⟨rfl, rfl⟩
    · rw [sequence_rest]
      exact rest.1
    · rw [sequence_rest]
      exact rest.2
  · have run : exec c s = .next (s.railFails x) := by
      obtain ⟨⟨e, ramping, due⟩, rfl⟩ | ⟨on, rfl⟩ := cause
      · simp [exec, execRailRampTimeout, ramping, due]
      · simp [exec, execPowerGoodWithdrawn, on]
    have step := RailStep.railFails s x
    obtain ⟨raised, counted⟩ := railFails_reports s x
    exact ⟨_, run, railFails_self s x, raised, counted, fun y later => railFails_later later,
      fun y earlier up => railFails_earlier earlier up, by rw [step.fst], step.link⟩

end Sys2Proof.Machine
end

section
/-!
What the evaluation of a measurement leaves (R146 to R156, R176 to R178): the figures, the limits, the link's offset and the waiting
requests stay, and each test reports its own conditions and counters alone.
-/

namespace Sys2Proof.Machine

/-- A step of a measurement's evaluation that reports in `cs` and counts in `ns`. -/
structure Evaluates (cs : List Condition) (ns : List Counter) (s t : State) : Prop extends Reports cs ns s t where
  meas : t.pmg.meas = s.pmg.meas
  limits : t.pmg.limits = s.pmg.limits
  offset : t.tlc.offset = s.tlc.offset
  queue : t.cmu.queue = s.cmu.queue

open Reports (railFaults)

namespace Evaluates

section
variable {s t u : State} {cs ds : List Condition} {ns ms : List Counter}

theorem trans (h : Evaluates cs ns s t) (g : Evaluates cs ns t u) : Evaluates cs ns s u where
  toReports := h.toReports.trans g.toReports
  meas := g.meas.trans h.meas
  limits := g.limits.trans h.limits
  offset := g.offset.trans h.offset
  queue := g.queue.trans h.queue

theorem mono (h : Evaluates cs ns s t) (hc : cs ⊆ ds) (hn : ns ⊆ ms) : Evaluates ds ms s t where
  toReports := h.toReports.mono hc hn
  meas := h.meas
  limits := h.limits
  offset := h.offset
  queue := h.queue

theorem of_frame (h : ReaderFrame s t) (reports : Reports cs ns s t) : Evaluates cs ns s t where
  toReports := reports
  meas := by rw [h.pmg]
  limits := h.limits
  offset := h.offset
  queue := h.queue

theorem of_notices (h : SameButNotices s t) (reports : Reports cs ns s t) : Evaluates cs ns s t where
  toReports := reports
  meas := by rw [h.pmg]
  limits := by rw [h.pmg]
  offset := h.offset
  queue := by rw [h.cmu]

end

variable (s : State) {cs : List Condition} {ns : List Counter}

theorem refl : Evaluates cs ns s s := ⟨.refl s, rfl, rfl, rfl, rfl⟩

theorem raise {c : Condition} (h : c ∈ cs) : Evaluates cs ns s (s.raise c) := of_notices (sbn_raise s c) (.raise s h)

theorem bump {n : Counter} (h : n ∈ ns) : Evaluates cs ns s (s.bump n) := ⟨.bump s h, rfl, rfl, rfl, rfl⟩

/-- The counts, the level and the supply of the PMG move. -/
theorem modPmg (f : Pmg → Pmg) (meas : (f s.pmg).meas = s.pmg.meas) (limits : (f s.pmg).limits = s.pmg.limits) :
    Evaluates cs ns s (s.modPmg f) := ⟨.of_kept (.modPmg s f), meas, limits, rfl, rfl⟩

theorem opportunity : Evaluates cs ns s s.opportunity := of_notices (sbn_opportunity s) (.of_kept (.opportunity s))

/-! ### The shed level (R150 to R153) -/

theorem setLevel (l : Level) : Evaluates cs ns s (s.setLevel l) := by
  have level : Evaluates cs ns s (s.modPmg fun p => { p with level := l, rise := 0, fall := 0 }) := modPmg s _ rfl rfl
  unfold State.setLevel State.capGain
  exact ((level.trans (of_frame (ReaderStep.judgeDark _).toReaderFrame (.of_kept (.judgeDark _)))).trans
    (of_frame (ReaderStep.modAud _ _).toReaderFrame (.of_kept (.modAud _ _)))).trans
    (of_frame (ReaderStep.reformSync _ _).toReaderFrame (.of_kept (.reformSync _ _)))

theorem changeLevel (l : Level) : Evaluates [.shedChange] [.shedChanges] s (s.changeLevel l) := by
  unfold State.changeLevel
  split
  · exact refl s
  · exact ((setLevel s l).trans (raise _ (by decide))).trans (bump _ (by decide))

/-- R153: a change of level that its test counts as well. -/
theorem leveled (l : Level) (n : Counter) : Evaluates [.shedChange] [.shedChanges, n] s ((s.changeLevel l).bump n) :=
  ((changeLevel s l).mono (List.Subset.refl _) (by simp)).trans (bump _ (by simp))

theorem jump : Evaluates [.shedChange] [.shedChanges, .shedJumps] s s.jump := by
  unfold State.jump
  split
  · exact modPmg s _ rfl rfl
  · exact leveled s _ _

theorem riseTest (m : Measurement) : Evaluates [.shedChange] [.shedChanges, .shedRises] s (s.riseTest m) := by
  unfold State.riseTest
  dsimp only
  split
  · split
    · exact (modPmg s _ (by rfl) (by rfl)).trans (leveled _ _ _)
    · exact modPmg s _ rfl rfl
  · exact modPmg s _ rfl rfl

theorem fallTest (m : Measurement) : Evaluates [.shedChange] [.shedChanges, .shedFalls] s (s.fallTest m) := by
  unfold State.fallTest
  dsimp only
  split
  · split
    · exact (modPmg s _ (by rfl) (by rfl)).trans (leveled _ _ _)
    · exact modPmg s _ rfl rfl
  · exact modPmg s _ rfl rfl

theorem shed (m : Measurement) : Evaluates [.shedChange] [.shedChanges, .shedJumps, .shedRises, .shedFalls] s (s.shed m) := by
  unfold State.shed
  split
  · exact refl s
  · split
    · exact (jump s).mono (by decide) (by decide)
    · exact ((riseTest s m).mono (by decide) (by decide)).trans ((fallTest _ m).mono (by decide) (by decide))

/-! ### The supply state (R154 to R156) -/

theorem formTarget : Evaluates railFaults [] s s.formTarget := by
  have step := formTarget_step s
  exact ⟨.formTarget s, by rw [step.pmg]; rfl, step.limits, step.offset, step.queue⟩

theorem enterNormal : Evaluates railFaults [] s s.enterNormal := by
  have formed : Evaluates railFaults [] s s.normal.formTarget := trans (modPmg s _ rfl rfl) (formTarget _)
  rw [enterNormal_eq, linkStep_rest]
  exact formed.trans ⟨⟨fun _ _ _ => rfl, fun _ _ _ => rfl⟩, rfl, rfl, by unfold State.linkStep; split <;> rfl, rfl⟩

theorem leaveStart (m : Measurement) : Evaluates railFaults [] s (s.leaveStart m) := by
  unfold State.leaveStart
  split
  · exact enterNormal s
  · exact refl s

theorem enterBrownout : Evaluates (.brownout :: railFaults) [.brownoutEntries] s s.enterBrownout := by
  have formed : Evaluates (.brownout :: railFaults) [.brownoutEntries] s s.brownedOut.formTarget :=
    trans (modPmg s _ rfl rfl) ((formTarget _).mono (by decide) (by decide))
  have told := (formed.trans (raise _ (c := .brownout) (by decide))).trans (bump _ (n := .brownoutEntries) (by decide))
  unfold State.enterBrownout
  exact told.trans (modPmg _ _ rfl rfl)

theorem brownoutTest (m : Measurement) : Evaluates (.brownout :: railFaults) [.brownoutEntries] s (s.brownoutTest m) := by
  unfold State.brownoutTest
  dsimp only
  split
  · exact (modPmg s _ (by rfl) (by rfl)).trans (enterBrownout _)
  · exact modPmg s _ rfl rfl

theorem recover : Evaluates (.shedChange :: railFaults) [.shedChanges] s s.recover := by
  have level : Evaluates (.shedChange :: railFaults) [.shedChanges] s s.recovered :=
    ((changeLevel s .l2).mono (by decide) (by decide)).trans (modPmg _ _ rfl rfl)
  rw [recover_eq]
  exact (level.trans ((enterNormal _).mono (by decide) (by decide))).trans (opportunity _)

theorem recoveryTest (m : Measurement) : Evaluates (.shedChange :: railFaults) [.shedChanges] s (s.recoveryTest m) := by
  unfold State.recoveryTest
  dsimp only
  split
  · exact (modPmg s _ (by rfl) (by rfl)).trans (recover _)
  · exact modPmg s _ rfl rfl

/-- R154, R155: out of BROWNOUT the level is not touched again. -/
theorem supplyTests_up {s : State} (h : s.pmg.supply ≠ .brownout) (m : Measurement) :
    Evaluates (.brownout :: railFaults) [.brownoutEntries] s (s.supplyTests m) := by
  have left := ((leaveStart s m).mono (List.subset_cons_self _ _) (by decide)).trans (brownoutTest _ m)
  unfold State.supplyTests
  split
  next e => exact absurd e h
  next => exact left
  next => exact left

theorem supplyTests (m : Measurement) :
    Evaluates (.shedChange :: .brownout :: railFaults) [.shedChanges, .brownoutEntries] s (s.supplyTests m) := by
  by_cases h : s.pmg.supply = .brownout
  · unfold State.supplyTests
    rw [h]
    exact (recoveryTest s m).mono (by decide) (by decide)
  · exact (supplyTests_up h m).mono (by decide) (by decide)

/-! ### A running CABLE_MEASURE (R176 to R178) -/

theorem endProc (r : ProcResult) (v : List ProcValue) : Evaluates cs ns s (s.endProc r v) :=
  of_frame (ReaderStep.endProc s r v).toReaderFrame (.of_kept (.endProc s r v))

theorem load (b : Bool) : Evaluates cs ns s (s.load b) := modPmg s _ rfl rfl

theorem work (w : Work) : Evaluates cs ns s (s.work w) := of_frame (ReaderStep.modPrr s _).toReaderFrame (.of_kept (.modPrr s _))

theorem cableEnd (v1 i1 v2 i2 v3 i3 : Nat) : Evaluates cs ns s (s.cableEnd v1 i1 v2 i2 v3 i3) := by
  unfold State.cableEnd
  dsimp only
  split
  · exact endProc s _ _
  · exact (modPmg s _ (by rfl) (by rfl)).trans (endProc _ _ _)

theorem cableStep (m : Measurement) : Evaluates cs ns s (s.cableStep m) := by
  unfold State.cableStep
  split
  · dsimp only
    split
    · exact (load s _).trans (endProc _ _ _)
    · split
      · exact (work s _).trans (load _ _)
      · split
        · exact (work s _).trans (load _ _)
        · split
          · exact cableEnd s _ _ _ _ _ _
          · exact work s _
  · exact refl s

end Evaluates
end Sys2Proof.Machine
end

section
/-!
The measurement: its figures and live conditions (O18), the jump, the rise and the fall of the shed level (O19), and the entry into
BROWNOUT (O20).
-/

namespace Sys2Proof.Machine

open Reports (railFaults)

/-! ### Figures and live conditions (R146 to R148) -/

/-- R146, R147: the figures of a measurement taken in a state. -/
def State.figuresOf (s : State) (vin iin : Nat) : Measurement :=
  figures (topped 30000 vin) (topped 5000 iin) s.pmg.rCable s.pmg.testLoad

/-- R146: a measurement that is due is evaluated with the figures of the state it finds. -/
theorem exec_measurement {s : State} (vin iin : Nat) (h : ∀ m, s.pmg.measuredAt = some m → m + 1000 ≤ s.lt) :
    ∃ at_, exec (.inputMeasurement vin iin) s = .next
      ((((s.judged at_ (s.figuresOf vin iin)).shed (s.figuresOf vin iin)).supplyTests (s.figuresOf vin iin)).cableStep
        (s.figuresOf vin iin)) := by
  have due : ∃ at_, s.measurementAt = some at_ := by
    unfold State.measurementAt
    split
    · exact ⟨_, rfl⟩
    next m e => exact ⟨_, if_pos (h m e)⟩
  obtain ⟨at_, due⟩ := due
  refine ⟨at_, ?_⟩
  simp only [exec, execInputMeasurement, due]
  rfl

theorem judged_reports (s : State) (at_ : Nat) (m : Measurement) :
    Reports [.budgetLow, .cableDropHigh] [] s (s.judged at_ m) :=
  (((Reports.of_kept (.modPmg s _)).trans (.of_kept (.modPmg _ _))).trans (.follow _ _ (by decide))).trans
    (.follow _ _ (by decide))

/-- R146: but for its reports a measurement has set the figures and their moment alone. -/
theorem judged_notices (s : State) (at_ : Nat) (m : Measurement) :
    SameButNotices { s with pmg := { s.pmg with measuredAt := some at_, meas := some m } } (s.judged at_ m) :=
  (sbn_follow _ _ _).trans (sbn_follow _ _ _)

/-- R148: the two live conditions are judged by the figures. -/
theorem judged_conditions (s : State) (at_ : Nat) (m : Measurement) :
    (s.judged at_ m).ntu.pending.has .budgetLow = decide (s.pmg.budget * 85 < m.pTotal * 100) ∧
      (s.judged at_ m).ntu.pending.has .cableDropHigh = decide (1500 < m.drop) := by
  unfold State.judged State.judgePower
  constructor
  · rw [Keeps.has_follow, if_neg Condition.noConfusion, Keeps.has_follow, if_pos rfl]
    rfl
  · rw [Keeps.has_follow, if_pos rfl]

/-- Settles O18: what comes after the figures leaves them, and the conditions judged by them. -/
theorem measurementFormsFigures : Obligations.MeasurementFormsFigures := by
  intro s vin iin due
  obtain ⟨at_, run⟩ := exec_measurement vin iin due
  generalize hm : s.figuresOf vin iin = m at run
  have pmg := judged_pmg s at_ m
  obtain ⟨low, drop⟩ := judged_conditions s at_ m
  have before := judged_notices s at_ m
  have after : Evaluates (.shedChange :: .brownout :: railFaults)
      [.shedChanges, .shedJumps, .shedRises, .shedFalls, .brownoutEntries] (s.judged at_ m)
      ((((s.judged at_ m).shed m).supplyTests m).cableStep m) :=
    (((Evaluates.shed _ m).mono (by decide) (by decide)).trans ((Evaluates.supplyTests _ m).mono (by decide) (by decide))).trans
      (.cableStep _ m)
  refine ⟨_, run, ?_, ?_, ?_, ?_, after.offset.trans before.offset, after.queue.trans (by rw [before.cmu]), ?_⟩
  · rw [after.meas, pmg, ← hm]
    rfl
  · rw [after.others _ rfl (by decide), low, decide_eq_true_eq, ← hm]
    rfl
  · rw [after.others _ rfl (by decide), drop, decide_eq_true_eq, ← hm]
    rfl
  · rw [cableStep_fst, supplyTests_fst, shed_fst, before.fst]
  · rw [after.limits, pmg]

/-! ### The entry into BROWNOUT (R155) -/

/-- R155, R158: every rail is taken down, and no rail condition is left. -/
theorem brownedOut_faults {s : State} (h : ∀ x, s.ntu.pending.has (railFault x) = true ↔ s.pmg.rails.get x = .fault) (x : Rail) :
    s.brownedOut.formTarget.ntu.pending.has (railFault x) = false := by
  have mem : x ∈ railOrder.reverse.filter fun x => !RailTarget.none.covers x := by cases x <;> decide
  rw [formTarget_eq, sequence_rest]
  show ((s.brownedOut.modPmg fun p => { p with target := railTarget p.supply p.standby }).takeDown
    (railOrder.reverse.filter fun x => !RailTarget.none.covers x)).ntu.pending.has (railFault x) = false
  rw [takeDown_fault]
  split
  next => rfl
  next other => exact Bool.eq_false_iff.2 fun fault => other ⟨mem, (h x).1 fault⟩

/-- R155: `t` is in BROWNOUT, entered from `s`, with every rail OFF and no rail condition pending. -/
structure InBrownout (s t : State) : Prop where
  pmg : t.pmg.supply = .brownout ∧ t.pmg.level = .l3 ∧ t.pmg.testLoad = false ∧ t.pmg.target = .none
  rails : ∀ x, t.pmg.rails.get x = .off
  faults : ∀ x, t.ntu.pending.has (railFault x) = false
  raised : t.ntu.pending.has .brownout = true
  counted : t.count .brownoutEntries = oneMore (s.count .brownoutEntries)
  counts : t.pmg.cut = 0 ∧ t.pmg.recovery = 0 ∧ t.pmg.rise = 0 ∧ t.pmg.fall = 0

theorem enterBrownout_done {s : State} (level : s.pmg.level = .l3)
    (faults : ∀ x, s.ntu.pending.has (railFault x) = true ↔ s.pmg.rails.get x = .fault) : InBrownout s s.enterBrownout := by
  have has (c : Condition) : s.enterBrownout.ntu.pending.has c =
      (decide (c = .brownout) || s.brownedOut.formTarget.ntu.pending.has c) := by
    show (s.brownedOut.formTarget.raise .brownout).ntu.pending.has c = _
    rw [raise_pending, Masks.has_put]
  refine ⟨?_, fun x => ?_, fun x => ?_, ?_, ?_, ?_⟩
  · rw [enterBrownout_pmg]
    exact ⟨rfl, level, rfl, rfl⟩
  · rw [enterBrownout_pmg]
    exact formTarget_get_outside (s := s.brownedOut) rfl
  · rw [has, brownedOut_faults faults]
    cases x <;> rfl
  · rw [has]
    rfl
  · show ((s.brownedOut.formTarget.raise .brownout).bump .brownoutEntries).count .brownoutEntries = _
    rw [count_bump, if_pos rfl, State.raise_count _ _ _ Counter.noConfusion Counter.noConfusion,
      (Reports.formTarget s.brownedOut).counts _ (by decide) List.not_mem_nil]
    rfl
  · rw [enterBrownout_pmg]
    exact ⟨rfl, rfl, rfl, rfl⟩

/-- R177: in BROWNOUT a CABLE_MEASURE ends, with the test load off. -/
theorem InBrownout.cableStep {s t : State} (h : InBrownout s t) (m : Measurement) : InBrownout s (t.cableStep m) := by
  obtain ⟨⟨supply, level, off, target⟩, rails, faults, raised, counted, counts⟩ := h
  have after : Evaluates [] [] t (t.cableStep m) := .cableStep t m
  have load : (t.cableStep m).pmg.testLoad = false := by
    have loaded : t.pmg.tooLoaded = true := by simp [Pmg.tooLoaded, supply]
    unfold State.cableStep
    split
    · dsimp only
      rw [if_pos loaded, endProc_pmg]
      rfl
    · exact off
  refine ⟨⟨?_, ?_, load, ?_⟩, ?_, fun x => ?_, ?_, ?_, ?_⟩
  · rw [cableStep_pmg, supply]
  · rw [cableStep_pmg, level]
  · rw [cableStep_pmg, target]
  · rw [cableStep_pmg]
    exact rails
  · rw [after.others _ (railFault_power x) List.not_mem_nil, faults]
  · rw [after.others _ rfl List.not_mem_nil, raised]
  · rw [after.counts _ (by decide) List.not_mem_nil, counted]
  · rw [cableStep_pmg]
    exact counts

/-- R150: what the jump moves in the PMG. -/
theorem jump_pmg (s : State) : s.jump.pmg = { s.pmg with level := .l3, rise := 0, fall := 0 } := by
  unfold State.jump
  split
  next level =>
    rw [State.modPmg_pmg, ← level]
  next level => rw [State.bump_pmg, changeLevel_pmg level]

/-- R154, R155: below V_warn START is not left. -/
theorem supplyTests_low {s : State} {m : Measurement} (supply : s.pmg.supply ≠ .brownout) (low : m.vin < s.pmg.limits.vWarn) :
    s.supplyTests m = s.brownoutTest m := by
  have stays : s.leaveStart m = s := if_neg fun left => absurd left.2.2 (Nat.not_le.2 low)
  unfold State.supplyTests
  split
  next e => exact absurd e supply
  next => rw [stays]
  next => rw [stays]

/-- R150, R155: a measurement below V_cut that is the second in a row jumps to L3 and then enters BROWNOUT. -/
theorem shed_then_brownout {s : State} {m : Measurement} (supply : s.pmg.supply ≠ .brownout) (second : s.pmg.cut = 1)
    (low : m.vin < s.pmg.limits.vCut) (cutBelow : s.pmg.limits.vCut < s.pmg.limits.vCrit)
    (critBelow : s.pmg.limits.vCrit < s.pmg.limits.vWarn) :
    (s.shed m).supplyTests m = s.jump.cutCounted.enterBrownout := by
  have jumps : s.shed m = s.jump := by
    unfold State.shed
    rw [if_neg supply, if_pos (low.trans cutBelow)]
  have warn : m.vin < s.jump.pmg.limits.vWarn := by
    rw [jump_pmg]
    exact (low.trans cutBelow).trans critBelow
  rw [jumps, supplyTests_low (by rwa [jump_pmg]) warn, brownoutTest_low (by rwa [jump_pmg]),
    if_pos (by rw [jump_pmg]; exact second.ge)]

/-- Settles O20: the measurement jumps to L3, and the brownout test counts the second in a row. -/
theorem secondCutEntersBrownout : Obligations.SecondCutEntersBrownout := by
  intro s vin iin due supply second low cutBelow critBelow faults
  obtain ⟨at_, run⟩ := exec_measurement vin iin due
  have hv : (s.figuresOf vin iin).vin = min 30000 vin := rfl
  rw [← hv] at low
  generalize s.figuresOf vin iin = m at run low
  have pmg := judged_pmg s at_ m
  have fst : ((((s.judged at_ m).shed m).supplyTests m).cableStep m).fst = s.fst := by
    rw [cableStep_fst, supplyTests_fst, shed_fst, (judged_notices s at_ m).fst]
  have entered : ((s.judged at_ m).shed m).supplyTests m = (s.judged at_ m).jump.cutCounted.enterBrownout := by
    apply shed_then_brownout <;> rw [pmg] <;> assumption
  have reports : Reports [.budgetLow, .cableDropHigh, .shedChange] [.shedChanges, .shedJumps] s (s.judged at_ m).jump :=
    ((judged_reports s at_ m).mono (by decide) (by decide)).trans
      ((Evaluates.jump (s.judged at_ m)).toReports.mono (by decide) (by decide))
  have level : (s.judged at_ m).jump.pmg.level = .l3 := by rw [jump_pmg]
  have followed (x : Rail) : (s.judged at_ m).jump.ntu.pending.has (railFault x) = true ↔
      (s.judged at_ m).jump.pmg.rails.get x = .fault := by
    rw [reports.others _ (railFault_power x) (by cases x <;> decide), jump_pmg, pmg]
    exact faults x
  rw [entered] at run fst
  obtain ⟨⟨brownout, l3, off, target⟩, rails, clear, raised, counted, ⟨cut, recovery, rise, fall⟩⟩ :=
    (enterBrownout_done (s := (s.judged at_ m).jump.cutCounted) level followed).cableStep m
  refine ⟨_, run, brownout, l3, off, target, rails, clear, raised, counted.trans ?_, cut, recovery, rise, fall,
    by rw [fst]⟩
  exact congrArg oneMore (reports.counts _ (by decide) (by decide))

end Sys2Proof.Machine
end

section
/-! The shed level jumps, rises and falls by its counts (R118, R136, R150 to R153, O19). -/

namespace Sys2Proof.Machine

open Reports (railFaults)

/-! ### A change of level (R118, R136, R153) -/

theorem changeLevel_counted {s : State} {l : Level} (h : s.pmg.level ≠ l) :
    (s.changeLevel l).count .shedChanges = oneMore (s.count .shedChanges) := by
  have level : Evaluates [] [] s (s.setLevel l) := .setLevel s l
  unfold State.changeLevel
  rw [if_neg h, count_bump, if_pos rfl, State.raise_count _ _ _ Counter.noConfusion Counter.noConfusion,
    level.counts _ (by decide) List.not_mem_nil]
  rfl

/-- R136: the cap of a new level is in force at once. -/
theorem changeLevel_applied {s : State} {l : Level} (h : s.pmg.level ≠ l) : l.gainCap ≤ (s.changeLevel l).aud.applied := by
  have capped : l.gainCap ≤ (s.setLevel l).aud.applied := by
    have applied := congrArg GainView.applied
      (reformSync_gainView ((s.modPmg fun p => { p with level := l, rise := 0, fall := 0 }).judgeDark.capGain) s.period)
    have level : (s.modPmg fun p => { p with level := l, rise := 0, fall := 0 }).judgeDark.pmg.level = l := by
      rw [(ReaderStep.judgeDark _).pmg_eq]
      rfl
    refine le_trans ?_ applied.ge
    show l.gainCap ≤ max _ (s.modPmg fun p => { p with level := l, rise := 0, fall := 0 }).judgeDark.pmg.level.gainCap
    rw [level]
    exact Nat.le_max_right _ _
  unfold State.changeLevel
  rw [if_neg h, State.bump_aud, State.raise_aud]
  exact capped

theorem darkCauses_l3 {s : State} (h : s.pmg.level = .l3) : s.darkCauses ≠ [] := by
  have holds : s.causeHolds .shedL3 = true := by simp [State.causeHolds, h]
  exact List.ne_nil_of_mem (List.mem_filter.2 ⟨by decide, holds⟩)

/-- R118: at L3 the output is dark, and follows the dark causes. -/
theorem changeLevel_l3_dark {s : State} (h : s.pmg.level ≠ .l3) : (s.changeLevel .l3).darkSound := by
  refine iff_of_true ?_ (darkCauses_l3 (changeLevel_level s .l3))
  have same : Aside (s.modPmg fun p => { p with level := .l3, rise := 0, fall := 0 }).judgeDark (s.setLevel .l3) :=
    (Aside.capGain _).trans (.reformSync _ _)
  have told : Aside (s.setLevel .l3) (s.changeLevel .l3) := by
    unfold State.changeLevel
    rw [if_neg h]
    exact (Aside.raise _ _).trans (.bump _ _)
  rw [(same.trans told).output]
  exact judgeDark_dark (x := .shedL3) rfl

/-! ### What the tests of the supply leave of the level (R154, R155) -/

/-- R155: neither test begins a count of the shed evaluation. -/
structure KeepsLevel (s t : State) : Prop where
  view : t.gainView = s.gainView
  rise : s.pmg.rise = 0 → t.pmg.rise = 0
  fall : s.pmg.fall = 0 → t.pmg.fall = 0

namespace KeepsLevel

theorem refl (s : State) : KeepsLevel s s := ⟨rfl, id, id⟩

theorem trans {s t u : State} (h : KeepsLevel s t) (g : KeepsLevel t u) : KeepsLevel s u :=
  ⟨g.view.trans h.view, g.rise ∘ h.rise, g.fall ∘ h.fall⟩

theorem level {s t : State} (h : KeepsLevel s t) : t.pmg.level = s.pmg.level := congrArg GainView.level h.view

theorem applied {s t : State} (h : KeepsLevel s t) : t.aud.applied = s.aud.applied := congrArg GainView.applied h.view

theorem leaveStart (s : State) (m : Measurement) : KeepsLevel s (s.leaveStart m) := by
  refine ⟨leaveStart_gainView s m, ?_, ?_⟩ <;>
  · unfold State.leaveStart
    split
    · rw [enterNormal_pmg]
      exact id
    · exact id

theorem brownoutTest (s : State) (m : Measurement) : KeepsLevel s (s.brownoutTest m) := by
  by_cases low : m.vin < s.pmg.limits.vCut
  · refine ⟨brownoutTest_gainView s m, ?_, ?_⟩ <;>
    · rw [brownoutTest_low low]
      split
      · rw [enterBrownout_pmg]
        exact fun _ => rfl
      · exact id
  · rw [brownoutTest_quiet (Nat.not_lt.1 low)]
    exact ⟨rfl, id, id⟩

theorem supplyTests {s : State} (h : s.pmg.supply ≠ .brownout) (m : Measurement) : KeepsLevel s (s.supplyTests m) := by
  have left := (leaveStart s m).trans (brownoutTest _ m)
  unfold State.supplyTests
  split
  next e => exact absurd e h
  next => exact left
  next => exact left

theorem cableStep (s : State) (m : Measurement) : KeepsLevel s (s.cableStep m) := by
  refine ⟨cableStep_gainView s m, ?_, ?_⟩ <;>
  · rw [cableStep_pmg]
    exact id

/-- What is left to evaluate of a measurement after the shed evaluation. -/
theorem rest {s : State} (h : s.pmg.supply ≠ .brownout) (m : Measurement) : KeepsLevel s ((s.supplyTests m).cableStep m) :=
  (supplyTests h m).trans (cableStep _ m)

end KeepsLevel

theorem Evaluates.rest {s : State} (h : s.pmg.supply ≠ .brownout) (m : Measurement) :
    Evaluates (.brownout :: railFaults) [.brownoutEntries] s ((s.supplyTests m).cableStep m) :=
  (Evaluates.supplyTests_up h m).trans (.cableStep _ m)

/-! ### A change of level that its test counts (R150 to R152) -/

/-- `t` is `s` after a change to another level, counted by the test that made it. -/
structure Shed (s : State) (l : Level) (n : Counter) (t : State) : Prop where
  level : t.pmg.level = l
  rise : t.pmg.rise = 0
  fall : t.pmg.fall = 0
  raised : t.ntu.pending.has .shedChange = true
  changes : t.count .shedChanges = oneMore (s.count .shedChanges)
  counted : t.count n = oneMore (s.count n)
  others : ∀ c ∈ CounterGroup.power.members, c ∉ [.shedChanges, n, .brownoutEntries] → t.count c = s.count c
  applied : l.gainCap ≤ t.aud.applied

theorem changeLevel_shed {s : State} {l : Level} {n : Counter} (h : s.pmg.level ≠ l) (power : n ∈ CounterGroup.power.members)
    (ne : n ≠ .shedChanges) : Shed s l n ((s.changeLevel l).bump n) := by
  have reports := (Evaluates.changeLevel s l).toReports
  have pmg := changeLevel_pmg h
  refine ⟨changeLevel_level s l, ?_, ?_, changeLevel_raised h, ?_, ?_, fun c mem other => ?_, changeLevel_applied h⟩
  · rw [State.bump_pmg, pmg]
  · rw [State.bump_pmg, pmg]
  · rw [count_bump, if_neg ne.symm, changeLevel_counted h]
  · rw [count_bump, if_pos rfl, reports.counts _ power (by simpa using ne)]
    rfl
  · simp only [List.mem_cons, not_or] at other
    obtain ⟨changes, counter, _⟩ := other
    rw [count_bump, if_neg counter, reports.counts _ mem (by simpa using changes)]

/-- What is evaluated after a change of level leaves it. -/
theorem Shed.then_rest {s u : State} {l : Level} {n : Counter} (h : Shed s l n u) (up : u.pmg.supply ≠ .brownout) (m : Measurement)
    (power : n ∈ CounterGroup.power.members) (ne : n ≠ .brownoutEntries) : Shed s l n ((u.supplyTests m).cableStep m) := by
  have kept := KeepsLevel.rest up m
  have reports := (Evaluates.rest up m).toReports
  exact ⟨kept.level.trans h.level, kept.rise h.rise, kept.fall h.fall, (reports.others _ rfl (by decide)).trans h.raised,
    (reports.counts _ (by decide) (by decide)).trans h.changes, (reports.counts _ power (by simpa using ne)).trans h.counted,
    fun c mem other => (reports.counts c mem (by simp at other; simp [other])).trans (h.others c mem other),
    kept.applied ▸ h.applied⟩

/-! ### The tests at their boundaries (R150 to R152) -/

theorem jump_shed {s : State} (h : s.pmg.level ≠ .l3) : Shed s .l3 .shedJumps s.jump := by
  unfold State.jump
  rw [if_neg h]
  exact changeLevel_shed h (by decide) Counter.noConfusion

/-- R151: a run of calls for a rise ends with a measurement that does not call. -/
theorem riseTest_quiet {s : State} {m : Measurement} (h : callsRise s.pmg m = false) :
    s.riseTest m = s.modPmg fun p => { p with rise := 0 } := by
  simp [State.riseTest, State.modPmg, h]

theorem fallTest_quiet {s : State} {m : Measurement} (h : callsFall s.pmg m = false) :
    s.fallTest m = s.modPmg fun p => { p with fall := 0 } := by
  simp [State.fallTest, State.modPmg, h]

/-- R151: the third call in a row raises the level. -/
theorem riseTest_third {s : State} {m : Measurement} {l : Level} (call : callsRise s.pmg m = true) (second : s.pmg.rise = 2)
    (up : s.pmg.level.up = some l) :
    s.riseTest m = ((s.modPmg fun p => { p with rise := 3 }).changeLevel l).bump .shedRises := by
  have counted : (s.modPmg fun p => { p with rise := if callsRise p m then min 3 (p.rise + 1) else 0 }) =
      s.modPmg fun p => { p with rise := 3 } := by
    simp [State.modPmg, call, second]
  unfold State.riseTest
  rw [counted]
  simp [up]

/-- R152: the two-hundredth call in a row lowers the level. -/
theorem fallTest_last {s : State} {m : Measurement} {l : Level} (call : callsFall s.pmg m = true) (before : s.pmg.fall = 199)
    (down : s.pmg.level.down = some l) :
    s.fallTest m = ((s.modPmg fun p => { p with fall := 200 }).changeLevel l).bump .shedFalls := by
  have counted : (s.modPmg fun p => { p with fall := if callsFall p m then min 200 (p.fall + 1) else 0 }) =
      s.modPmg fun p => { p with fall := 200 } := by
    simp [State.modPmg, call, before]
  unfold State.fallTest
  rw [counted]
  simp [down]

/-- R151, R152: with a budget in force no measurement calls for both. -/
theorem callsFall_of_callsRise {p : Pmg} {m : Measurement} (budget : 0 < p.budget) (call : callsRise p m = true) :
    callsFall p m = false := by
  simp only [callsRise, Bool.or_eq_true, decide_eq_true_eq] at call
  simp only [callsFall, Bool.and_eq_false_iff, decide_eq_false_iff_not, Nat.not_le]
  omega

theorem ne_of_up {l k : Level} (h : l.up = some k) : l ≠ k := by
  rintro rfl
  cases l <;> exact absurd h (by decide)

theorem ne_of_down {l k : Level} (h : l.down = some k) : l ≠ k := by
  rintro rfl
  cases l <;> exact absurd h (by decide)

/-- R151: after the third call in a row both counts begin again at the level above. -/
theorem riseThenFall_shed {s : State} {m : Measurement} {l : Level} (budget : 0 < s.pmg.budget) (call : callsRise s.pmg m = true)
    (second : s.pmg.rise = 2) (up : s.pmg.level.up = some l) : Shed s l .shedRises ((s.riseTest m).fallTest m) := by
  have ne : (s.modPmg fun p => { p with rise := 3 }).pmg.level ≠ l := ne_of_up up
  have risen : Shed s l .shedRises (s.riseTest m) := by
    rw [riseTest_third call second up]
    obtain ⟨level, rise, fall, raised, changes, counted, others, applied⟩ :=
      changeLevel_shed (n := .shedRises) ne (by decide) Counter.noConfusion
    exact ⟨level, rise, fall, raised, changes, counted, others, applied⟩
  have quiet : callsFall (s.riseTest m).pmg m = false := by
    rw [riseTest_third call second up, State.bump_pmg, changeLevel_pmg ne]
    exact callsFall_of_callsRise (p := s.pmg) budget call
  rw [fallTest_quiet quiet]
  obtain ⟨level, rise, _, raised, changes, counted, others, applied⟩ := risen
  exact ⟨level, rise, rfl, raised, changes, counted, others, applied⟩

/-- R152: the two-hundredth call for a fall lowers the level. -/
theorem fallAfterRise_shed {s : State} {m : Measurement} {l : Level} (budget : 0 < s.pmg.budget) (call : callsFall s.pmg m = true)
    (before : s.pmg.fall = 199) (down : s.pmg.level.down = some l) : Shed s l .shedFalls ((s.riseTest m).fallTest m) := by
  have quiet : callsRise s.pmg m = false := by
    by_contra rise
    rw [callsFall_of_callsRise budget (Bool.eq_true_of_not_eq_false rise)] at call
    exact Bool.noConfusion call
  have last : (s.riseTest m).fallTest m =
      (((s.modPmg fun p => { p with rise := 0 }).modPmg fun p => { p with fall := 200 }).changeLevel l).bump .shedFalls := by
    rw [riseTest_quiet quiet]
    exact fallTest_last (s := s.modPmg fun p => { p with rise := 0 }) call before down
  rw [last]
  obtain ⟨level, rise, fall, raised, changes, counted, others, applied⟩ := changeLevel_shed (n := .shedFalls)
    (s := (s.modPmg fun p => { p with rise := 0 }).modPmg fun p => { p with fall := 200 }) (ne_of_down down) (by decide)
    Counter.noConfusion
  exact ⟨level, rise, fall, raised, changes, counted, others, applied⟩

/-- What is shed after the figures have been taken is shed of the state before them. -/
theorem Shed.of_judged {s t : State} {at_ : Nat} {m : Measurement} {l : Level} {n : Counter} (h : Shed (s.judged at_ m) l n t)
    (power : n ∈ CounterGroup.power.members) : Shed s l n t := by
  have same (c : Counter) (mem : c ∈ CounterGroup.power.members) : (s.judged at_ m).count c = s.count c :=
    (judged_reports s at_ m).counts c mem List.not_mem_nil
  exact ⟨h.level, h.rise, h.fall, h.raised, by rw [h.changes, same _ (by decide)], by rw [h.counted, same _ power],
    fun c mem other => (h.others c mem other).trans (same c mem), h.applied⟩

/-- R118: the output stays dark at L3 whatever the supply does after the jump. -/
theorem jump_dark {s : State} {m : Measurement} (h : s.pmg.level ≠ .l3)
    (l3 : ((s.jump.supplyTests m).cableStep m).pmg.level = .l3) : ((s.jump.supplyTests m).cableStep m).ilg.output = .dark := by
  have dark : s.jump.darkSound := by
    unfold State.jump
    rw [if_neg h]
    exact (Aside.bump (s.changeLevel .l3) .shedJumps).darkSound (changeLevel_l3_dark h)
  exact (((Follows.supplyTests s.jump m).trans (Aside.cableStep _ m).follows).dark dark).2 (darkCauses_l3 l3)

/-- Settles O19: the jump, the third call for a rise and the two-hundredth for a fall. -/
theorem levelJumpsRisesAndFalls : Obligations.LevelJumpsRisesAndFalls := by
  refine ⟨fun s vin iin due supply level low => ?_, fun s vin iin due supply budget => ?_⟩
  · obtain ⟨at_, run⟩ := exec_measurement vin iin due
    have hv : (s.figuresOf vin iin).vin = min 30000 vin := rfl
    rw [← hv] at low
    generalize s.figuresOf vin iin = m at run low
    have pmg := judged_pmg s at_ m
    have lit : (s.judged at_ m).pmg.level ≠ .l3 := by rwa [pmg]
    have jumps : (s.judged at_ m).shed m = (s.judged at_ m).jump := by
      unfold State.shed
      rw [pmg, if_neg supply, if_pos low]
    have up : (s.judged at_ m).jump.pmg.supply ≠ .brownout := by rwa [jump_pmg, pmg]
    have shed := ((jump_shed lit).then_rest up m (by decide) Counter.noConfusion).of_judged (by decide)
    rw [jumps] at run
    exact ⟨_, run, shed.level, shed.rise, shed.fall, jump_dark lit shed.level, shed.applied, shed.raised, shed.counted, shed.changes,
      shed.others _ (by decide) (by decide), shed.others _ (by decide) (by decide)⟩
  · intro v i e total crit cut
    obtain ⟨at_, run⟩ := exec_measurement vin iin due
    have hv : (s.figuresOf vin iin).vin = v := rfl
    have ht : (s.figuresOf vin iin).pTotal = total := rfl
    generalize s.figuresOf vin iin = m at run hv ht
    have pmg := judged_pmg s at_ m
    have budget : 0 < (s.judged at_ m).pmg.budget := by rwa [pmg]
    have evaluated : (s.judged at_ m).shed m = ((s.judged at_ m).riseTest m).fallTest m := by
      unfold State.shed
      rw [pmg, supply, if_neg Supply.noConfusion, if_neg (by rw [hv]; exact Nat.not_lt.2 crit)]
    have up : (((s.judged at_ m).riseTest m).fallTest m).pmg.supply ≠ .brownout := by
      rw [((MeterStep.riseTest _ m).trans (.fallTest _ m)).supply, pmg, supply]
      exact Supply.noConfusion
    rw [evaluated] at run
    refine ⟨fun l hup second call => ?_, fun l hdown before low warn => ?_⟩
    · have calls : callsRise (s.judged at_ m).pmg m = true := by
        rw [pmg]
        simpa [callsRise, hv, ht] using call
      have shed := ((riseThenFall_shed budget calls (by rwa [pmg]) (by rwa [pmg])).then_rest up m (by decide)
        Counter.noConfusion).of_judged (by decide)
      exact ⟨_, run, shed.level, shed.rise, shed.fall, shed.counted, shed.others _ (by decide) (by decide), shed.raised, shed.applied⟩
    · have calls : callsFall (s.judged at_ m).pmg m = true := by
        rw [pmg]
        simpa [callsFall, hv, ht] using ⟨low, warn⟩
      have shed := ((fallAfterRise_shed budget calls (by rwa [pmg]) (by rwa [pmg])).then_rest up m (by decide)
        Counter.noConfusion).of_judged (by decide)
      exact ⟨_, run, shed.level, shed.rise, shed.fall, shed.counted, shed.others _ (by decide) (by decide), shed.raised⟩

end Sys2Proof.Machine
end
